-- ==== Sys2Proof/Word.lean ====
section
/-! DEFINITION. The word types of the SWK-7240 model and the plainest arithmetic on them: bytes, 32-bit words, the
sparse table every indexed piece of state is held in, and field extraction from numbers. -/
namespace Sys2Proof

/-- One byte. -/
abbrev Byte := BitVec 8
/-- One stack entry, register or bus word (01_architecture.md R16: word accesses are 32 bits). -/
abbrev Word := BitVec 32

/-- A sparse table from indices to values, kept in ONE canonical form: indices strictly rising, and no entry equal to
what an unlisted index reads as. The operations are in Machine/SMap.lean. -/
abbrev SMap (α : Type) := List (Nat × α)

/-- Bits hi..lo of a number. -/
def bits (v hi lo : Nat) : Nat := (v / 2 ^ lo) % 2 ^ (hi + 1 - lo)
/-- Bit i of a number. -/
def bit (v i : Nat) : Bool := (v / 2 ^ i) % 2 == 1
/-- A Boolean as the number a one-bit field holds. -/
def b2n (b : Bool) : Nat := if b then 1 else 0
/-- The two's-complement pattern of an integer in w bits. -/
def ofInt (w : Nat) (i : Int) : Nat := (i % (2 ^ w : Nat)).toNat
/-- The signed value of a w-bit pattern. -/
def toInt (w v : Nat) : Int := if v % 2 ^ w < 2 ^ (w - 1) then (v % 2 ^ w : Nat) else ((v % 2 ^ w : Nat) : Int) - (2 ^ w : Nat)
/-- An integer held to the range -m..m. -/
def clampI (m i : Int) : Int := if i > m then m else if i < -m then -m else i
/-- The number of set bits among the low n bits. -/
def popcount : Nat → Nat → Nat
  | 0, _ => 0
  | n + 1, v => v % 2 + popcount n (v / 2)

end Sys2Proof
end

