-- ==== Sys2Proof/Syntax.lean ====
section
/-! DEFINITION. The commands: one constructor per row of spec/opcode_table.json, in the table's order, with what comes
from outside as its operands. Operands called `t` are CD03 ticks (2.5 ns) at which the happening stands. -/
namespace Sys2Proof

/-- What a quadrature sample shows (02_angle_bases.md R65). -/
inductive EncMove where
  | fwd | back | both
  deriving DecidableEq, Repr
/-- What the check of a stored word finds: nothing, a single-bit error, or an uncorrectable error. -/
inductive UpsetKind where
  | clean | single | double
  deriving DecidableEq, Repr

/-- How a runnel is read (06_runnels.md R152, R153, R158): through RUN_POP or the window by a core or the steward,
through the window by a sluice channel, or by a window access that is not an aligned 32-bit read. -/
inductive RunPort where
  | soft
  | channel (c : Nat)
  | badAccess (write : Bool)
  deriving DecidableEq, Repr
/-- What a diagnosis scan finds on a contact: its class (0 general analog, 1 fast analog, 2 digital input, 5 resolver
interface, 6 PPS input as 05_harness_guard.md R141 numbers them; 7 ignition pin, 20_power.md R480; 8 twin angle-sync wire,
19_twin_mode.md R467), its index, and the codes met (bit k: code k). -/
structure Finding where
  cls : Nat
  idx : Nat
  codes : Nat
  deriving DecidableEq, Repr
/-- What an Announce message carries for the BMCA of IEEE 802.1AS (03_time_and_stamps.md R85): the grandmaster's
priority1, clockClass, clockAccuracy, offsetScaledLogVariance, priority2 and identity, and its TAI - UTC offset. -/
structure Announce where
  prio1 : Nat
  cls : Nat
  acc : Nat
  var : Nat
  prio2 : Nat
  ident : Nat
  utc : Int
  utcValid : Bool
  deriving DecidableEq, Repr

/-- Messages a gPTP port sends (R85). -/
inductive GptpKind where
  | sync | pdelay | announce
  deriving DecidableEq, Repr

/-- What has an access outstanding on the fabric (15_fabric_and_crossings.md R363): core k (64 the steward's core), or
sluice channel c. -/
inductive Requester where
  | core (k : Nat)
  | sluice (c : Nat)
  deriving DecidableEq, Repr

/-- What befalls a response on its way (15_fabric_and_crossings.md R367, R370): nothing, data the unit marks
uncorrectable, an uncorrectable flit error in the data, one in the sideband, or a corrected flit error. -/
inductive RespFault where
  | none | uncorr | flitData | flitSide | flitCe
  deriving DecidableEq, Repr

/-- A frame seen on a CAN bus (16_networks.md R398): identifier, IDE, FDF, BRS, ESI, RTR, data, whether it ended in a CRC
error, and whether the module sent it. -/
structure CanFrame where
  id : Nat
  ide : Bool
  fdf : Bool
  brs : Bool
  esi : Bool
  rtr : Bool
  data : List Nat
  err : Bool
  own : Bool
  deriving DecidableEq, Repr

/-- A CSI-2 packet (16_networks.md R403): Frame Start, Frame End, another short packet, or a long packet with its payload.
The 4-byte header stands as received. -/
inductive CamPacket where
  | frameStart (header : Nat)
  | frameEnd (header : Nat)
  | short (header : Nat)
  | long (header : Nat) (payload : List Nat)
  deriving DecidableEq, Repr

/-- A frame for the module endpoint (16_networks.md R386): a neighbour solicitation for an IPv6 address, an ICMPv6 echo
request, a gPTP message, a mailbox datagram with its source, or another frame. -/
inductive EndpointFrame where
  | solicit (addr : Nat)
  | echo (src addr : Nat) (bytes : List Nat)
  | gptp
  | mailbox (src : Nat) (bytes : List Nat)
  | other
  deriving DecidableEq, Repr


/-- The commands of the module (the rows of the table of operations and events). -/
inductive Instr where
  /-- R9: A write to a register field that has no row of its own sets, clears or ignores the field according to its access type. -/
  | registerWrite (who a v : Nat)
  /-- R247: The response to an outstanding load, IN, IORD, fetch or IO write of a core returns, and the waiting instruction completes or raises BUS_FAULT. -/
  | coreAccessResponse (k : Nat) (e : RespFault)
  /-- R281: The oldest store-buffer entry drains to data RAM, the cache or the fabric; a failed store raises an imprecise BUS_FAULT. -/
  | storeDrain (k : Nat) (e : RespFault)
  /-- R265: An LR reservation is lost 256 tokens after its LR completed. -/
  | reservationExpire (k : Nat)
  /-- R328: At an entry point the core enters the pending fast or normal class, saving PC, STATUS and CNT and jumping to the vector. -/
  | eventEntry (k : Nat)
  /-- R339: An emitted event reaches the core's event controller, is matched against the routing filters and is written to a ring or dropped. -/
  | eventRecordArrive (src : Nat)
  /-- R337: A write to EVT_xRING_RD frees ring slots if the value lies from RD to WR, and otherwise sets RD_ERR. -/
  | evtRingRdWrite (k : Nat) (fast : Bool) (v : Nat)
  /-- R336: EVT_xRING_CFG.EN 0→1 validates the ring, sets WR and RD to 0 and discards any held drop report. -/
  | evtRingEnable (k : Nat) (fast : Bool) (w : Nat)
  /-- R340: A write to EVT_SEND posts one record with the EVT_SENDP payload to the target core's ring, or sets SEND_ERR. -/
  | evtSend (k w : Nat)
  /-- R252: Does nothing for one token. -/
  | nop (k : Nat)
  /-- R252: Duplicates the top of stack. -/
  | dup (k : Nat)
  /-- R252: Pops the top of stack. -/
  | drop (k : Nat)
  /-- R252: Exchanges the top two entries. -/
  | swap (k : Nat)
  /-- R252: Pushes a copy of the second entry. -/
  | over (k : Nat)
  /-- R252: Rotates the top three entries. -/
  | rot (k : Nat)
  /-- R252: Removes the second entry. -/
  | nip (k : Nat)
  /-- R252: Copies the top entry below the second. -/
  | tuck (k : Nat)
  /-- R252: Pushes a copy of the entry n places below n, raising STACK for a bad n. -/
  | pick (k : Nat)
  /-- R252: Moves the top of the operand stack to the return stack (>R). -/
  | toR (k : Nat)
  /-- R252: Moves the top of the return stack to the operand stack (R>). -/
  | rFrom (k : Nat)
  /-- R252: Pushes a copy of the top of the return stack (R@). -/
  | rFetch (k : Nat)
  /-- R252: Pushes the operand stack depth. -/
  | depth (k : Nat)
  /-- R252: Drops the top of the return stack. -/
  | rdrop (k : Nat)
  /-- R254: Adds the top two entries, writing C and V. -/
  | add (k : Nat)
  /-- R254: Subtracts, writing C as borrow and V. -/
  | sub (k : Nat)
  /-- R254: Adds with carry in. -/
  | adc (k : Nat)
  /-- R254: Subtracts with borrow in. -/
  | sbc (k : Nat)
  /-- R254: Negates the top entry. -/
  | neg (k : Nat)
  /-- R252: Replaces the top entry by its absolute value, setting V for 0x8000_0000. -/
  | abs (k : Nat)
  /-- R252: Adds 1 to the top entry. -/
  | inc (k : Nat)
  /-- R252: Subtracts 1 from the top entry. -/
  | dec (k : Nat)
  /-- R252: Signed saturating add. -/
  | adds (k : Nat)
  /-- R252: Signed saturating subtract. -/
  | subs (k : Nat)
  /-- R252: Signed minimum. -/
  | min (k : Nat)
  /-- R252: Signed maximum. -/
  | max (k : Nat)
  /-- R252: Unsigned minimum. -/
  | minu (k : Nat)
  /-- R252: Unsigned maximum. -/
  | maxu (k : Nat)
  /-- R252: Signed less-than flag. -/
  | slt (k : Nat)
  /-- R252: Unsigned less-than flag. -/
  | sltu (k : Nat)
  /-- R252: Bitwise AND. -/
  | and (k : Nat)
  /-- R252: Bitwise OR. -/
  | or (k : Nat)
  /-- R252: Bitwise XOR. -/
  | xor (k : Nat)
  /-- R252: Bitwise complement. -/
  | not (k : Nat)
  /-- R258: Logical shift left by n bits 5:0. -/
  | shl (k : Nat)
  /-- R258: Logical shift right. -/
  | shr (k : Nat)
  /-- R258: Arithmetic shift right. -/
  | sar (k : Nat)
  /-- R258: Rotate left modulo 32. -/
  | rol (k : Nat)
  /-- R258: Rotate right modulo 32. -/
  | ror (k : Nat)
  /-- R252: Counts leading zeros. -/
  | clz (k : Nat)
  /-- R252: Counts bits set. -/
  | popc (k : Nat)
  /-- R252: Reverses byte order. -/
  | bswap (k : Nat)
  /-- R252: Sign-extends bits 7:0. -/
  | sexb (k : Nat)
  /-- R252: Sign-extends bits 15:0. -/
  | sexh (k : Nat)
  /-- R252: Zero-extends bits 7:0. -/
  | zexb (k : Nat)
  /-- R252: Zero-extends bits 15:0. -/
  | zexh (k : Nat)
  /-- R254: Low 32 bits of the product, writing C and V. -/
  | mul (k : Nat)
  /-- R252: High 32 bits of the signed product. -/
  | mulh (k : Nat)
  /-- R252: High 32 bits of the unsigned product. -/
  | mulhu (k : Nat)
  /-- R252: Signed 64-bit product as two words. -/
  | muld (k : Nat)
  /-- R252: Unsigned 64-bit product as two words. -/
  | muldu (k : Nat)
  /-- R256: Signed division truncating toward zero, with the overflow and zero-divisor cases. -/
  | div (k : Nat)
  /-- R252: Unsigned division. -/
  | divu (k : Nat)
  /-- R252: Signed remainder. -/
  | rem (k : Nat)
  /-- R252: Unsigned remainder. -/
  | remu (k : Nat)
  /-- R252: Signed remainder and quotient. -/
  | divmod (k : Nat)
  /-- R252: Unsigned remainder and quotient. -/
  | divmodu (k : Nat)
  /-- R252: Returns to the address popped from the return stack. -/
  | ret (k : Nat)
  /-- R252: Calls the address popped from the operand stack. -/
  | calli (k : Nat)
  /-- R252: Jumps to the address popped from the operand stack. -/
  | jmpi (k : Nat)
  /-- R259: Pushes a sign-extended 12-bit immediate. -/
  | lit (k imm : Nat)
  /-- R259: Shifts TOS left 12 bits and ORs in the immediate. -/
  | litx (k imm : Nat)
  /-- R259: Loads the word at FP plus offset. -/
  | fld (k imm : Nat)
  /-- R259: Stores a word at FP plus offset. -/
  | fst (k imm : Nat)
  /-- R259: Pushes FP plus offset. -/
  | fadr (k imm : Nat)
  /-- R260: Branches by a signed word offset. -/
  | br (k off : Nat)
  /-- R260: Calls by a signed word offset, pushing the return address. -/
  | call (k off : Nat)
  /-- R262: Tests one operand and skips the next instruction if the condition holds. -/
  | sk (k cond : Nat) (keep : Bool)
  /-- R262: Skips the next instruction on a STATUS flag condition. -/
  | skf (k cond : Nat)
  /-- R262: Compares two operands and skips on the condition. -/
  | skc (k cond : Nat) (keep : Bool)
  /-- R262: Compares one operand with a 6-bit immediate and skips on the condition. -/
  | ski (k cond imm : Nat) (keep : Bool)
  /-- R263: Reads the IO register at IOB plus offset. -/
  | inp (k off : Nat)
  /-- R263: Writes the IO register at IOB plus offset after the store buffer drains. -/
  | out (k off : Nat)
  /-- R264: Loads a D-space word. -/
  | ldw (k : Nat)
  /-- R264: Loads a sign-extended half-word. -/
  | ldh (k : Nat)
  /-- R264: Loads a zero-extended half-word. -/
  | ldhu (k : Nat)
  /-- R264: Loads a sign-extended byte. -/
  | ldb (k : Nat)
  /-- R264: Loads a zero-extended byte. -/
  | ldbu (k : Nat)
  /-- R264: Places a word store in the store buffer. -/
  | stw (k : Nat)
  /-- R264: Places a half-word store in the store buffer. -/
  | sth (k : Nat)
  /-- R264: Places a byte store in the store buffer. -/
  | stb (k : Nat)
  /-- R264: Loads a word and pushes the address plus 4 (LDW+). -/
  | ldwInc (k : Nat)
  /-- R264: Stores a word and pushes the address plus 4 (STW+). -/
  | stwInc (k : Nat)
  /-- R264: Loads a half-word and pushes the address plus 2 (LDH+). -/
  | ldhInc (k : Nat)
  /-- R264: Stores a half-word and pushes the address plus 2 (STH+). -/
  | sthInc (k : Nat)
  /-- R264: Loads a byte unsigned and pushes the address plus 1 (LDBU+). -/
  | ldbuInc (k : Nat)
  /-- R264: Stores a byte and pushes the address plus 1 (STB+). -/
  | stbInc (k : Nat)
  /-- R265: Loads a word and places a reservation on its 16-byte granule. -/
  | lr (k : Nat)
  /-- R266: Stores only if the reservation is held and pushes the success flag. -/
  | sc (k : Nat)
  /-- R268: Executes the following instruction n times without interruption. -/
  | rep (k : Nat)
  /-- R270: Executes the following instruction n times, with events allowed between iterations. -/
  | repi (k : Nat)
  /-- R271: Completes as FENCE and then stops issue until an event is pending, under the WMODE power behaviour. -/
  | wait (k : Nat)
  /-- R267: Completes when every earlier store has drained and every earlier access has completed. -/
  | fence (k : Nat)
  /-- R330: Ends the active class and restores PC, STATUS and CNT from its save registers. -/
  | rete (k : Nat)
  /-- R267: Raises the BRK event. -/
  | brk (k : Nat)
  /-- R267: Raises SWE in the normal ring with payload n. -/
  | swe (k : Nat)
  /-- R267: Reads an I-space instruction word. -/
  | ldi (k : Nat)
  /-- R246: Writes an instruction word and serialises the core. -/
  | sti (k : Nat)
  /-- R267: Reads an IO register at the popped address. -/
  | iord (k : Nat)
  /-- R267: Writes an IO register at the popped address. -/
  | iowr (k : Nat)
  /-- R267: Pushes FP. -/
  | getfp (k : Nat)
  /-- R267: Sets FP. -/
  | setfp (k : Nat)
  /-- R267: Pushes IOB. -/
  | getiob (k : Nat)
  /-- R267: Sets IOB. -/
  | setiob (k : Nat)
  /-- R267: Pushes CNT. -/
  | getcnt (k : Nat)
  /-- R267: Pushes STATUS. -/
  | getst (k : Nat)
  /-- R267: Writes STATUS under the CORE_STATUS access rules. -/
  | setst (k : Nat)
  /-- R288: Writes back the data-cache line that holds the address. -/
  | dcwb (k : Nat)
  /-- R288: Invalidates the data-cache line without writing it back. -/
  | dcinv (k : Nat)
  /-- R288: Invalidates the instruction-cache line that holds the word address. -/
  | icinv (k : Nat)
  /-- R273: Copies n bytes in D-space as a microcoded routine. -/
  | move (k : Nat)
  /-- R273: Stores a word at n consecutive words. -/
  | fill (k : Nat)
  /-- R273: Advances a CRC-32C over n bytes. -/
  | crc32c (k : Nat)
  /-- R273: Advances a 64-bit ECMA-182 CRC over n bytes. -/
  | crc64 (k : Nat)
  /-- R273: Unsigned integer square root. -/
  | sqrtu (k : Nat)
  /-- R273: Rounded, saturated fixed-point multiply. -/
  | mulq (k : Nat)
  /-- R307: Code 0xF800 + k runs customer microword routine k of the basin's control store, or raises UNDEF. -/
  | wcsEntry (k i : Nat) (up : UpsetKind)
  /-- R250: An undefined or reserved instruction word, or an opcode of an absent unit, raises UNDEF and changes nothing. -/
  | undef (k w : Nat)
  /-- R350: Sets the core's jet configuration word and zeroes its decimation phase. -/
  | jcfg (k : Nat)
  /-- R350: Loads n coefficients into a jet bank. -/
  | jldc (k : Nat)
  /-- R350: Clears the core's jet delay line and decimation phase. -/
  | jclr (k : Nat)
  /-- R351: Filters 8 input words through the jet and writes decimated outputs. -/
  | jfir (k : Nat)
  /-- R352: Computes a scaled radix-2 FFT of N complex points. -/
  | jfft (k : Nat)
  /-- R353: Finds the lag and value of a correlation peak. -/
  | jxcm (k : Nat)
  /-- R354: Sets the core's packer context. -/
  | pkcfg (k : Nat)
  /-- R356: Encodes n frames as one Rice-coded or RAW block. -/
  | pkenc (k : Nat)
  /-- R357: Decodes a block into samples, or refuses it and sets V. -/
  | pkdec (k : Nat)
  /-- R359: Writes the SHA-256 initial state. -/
  | shinit (k : Nat)
  /-- R359: Advances a SHA-256 state over whole 64-byte blocks. -/
  | shblk (k : Nat)
  /-- R359: Writes the GSEQ and chain hash of the last committed group. -/
  | shchn (k : Nat)
  /-- R293: A write to CORE_MODE completes when the new mode is in force, writing back and invalidating caches that are turned off. -/
  | coreModeWrite (k v : Nat)
  /-- R286: A write to an aperture register applies to accesses issued after it completes. -/
  | coreApWrite (k a v : Nat)
  /-- R243: A write to a spill configuration is ignored while the bank's area is in use or would pass data RAM. -/
  | coreSpillCfgWrite (k t w : Nat)
  /-- R296: Every 1 µs the basin delay monitor sets BSN_TOKEN.NOW, BSN_TOKMAX and BSN_TJ. -/
  | bsnMonitorReading (n now tj : Nat)
  /-- R299: Every 1 µs the basin voltage controller applies its law and steps the voltage one code. -/
  | bsnVctrlUpdate (n : Nat)
  /-- R302: A write of BSN_VCTRL changes law or engine at the next update, refusing mode 2 while BUDGET is 0. -/
  | bsnVctrlWrite (n v : Nat)
  /-- R302: A write of BSN_VLIM that would make VMIN exceed VMAX is ignored and sets CFG_ERR. -/
  | bsnVlimWrite (n v : Nat)
  /-- R304: A write of 1 to BSN_TOKMAX.CLR sets MAX to 0. -/
  | bsnTokmaxClr (n : Nat)
  /-- R323: OPEN empties the control store and moves it to OPENING, or to LOADING once no customer routine runs. -/
  | bsnWcsOpen (n : Nat)
  /-- R323: An OPENING store becomes LOADING once no core of the basin is executing a customer routine. -/
  | wcsLoadingReached (n : Nat)
  /-- R322: WRITE stores the data registers at INDEX in the addressed space, with optional auto-increment. -/
  | bsnWcsWrite (n : Nat)
  /-- R322: READ copies the addressed word into the data registers. -/
  | bsnWcsRead (n : Nat)
  /-- R321: COMMIT starts validation of every path through the control store. -/
  | bsnWcsCommit (n : Nat)
  /-- R321: The control store check ends: STATE becomes READY, or CFG_CODE and FAULT_IDX report the first failure. -/
  | wcsCommitDone (n : Nat)
  /-- R322: ABORT from LOADING empties the store. -/
  | bsnWcsAbort (n : Nat)
  /-- R56: ANG_CTRL.EN 0→1 validates the configuration and enters SEEK, or stays OFF with CFG_ERR and CFG_CODE. -/
  | angEnable (n : Nat)
  /-- R56: ANG_CTRL.EN 1→0 puts the engine in OFF with the angle invalid. -/
  | angDisable (n : Nat)
  /-- R49: A write of 1 to ANG_CTRL.RESYNC loses sync with cause 5. -/
  | angResync (n : Nat)
  /-- R38: A tooth edge leaves the synchroniser; the interval is classified and sync is sought, gained, kept, charged or lost. -/
  | angToothEdge (n t : Nat) (fwd : Bool)
  /-- R46: A cam edge is judged against the cam window, deciding phase in CRANK_SYNC or updating CAMPHASE in FULL_SYNC. -/
  | angCamEdge (n t : Nat)
  /-- R47: The angle word passes C − 1 to 0: the cycle is judged for cam votes and a pending bank is exchanged. -/
  | angCycleWrap (n t : Nat)
  /-- R51: No edge is accepted for ANG_STALL.STALL and the engine enters STOPPED. -/
  | angStallTimeout (n t : Nat)
  /-- R53: In direction mode 1 a tooth pulse ends and the step is applied forward or reverse. -/
  | angDirPulseEnd (n t : Nat)
  /-- R61: Every 1 µs the resolver tracking loop updates, acquiring lock or entering and leaving FAULT. -/
  | resLoopUpdate (n t angle err ampl : Nat)
  /-- R64: A change of the Hall inputs steps the angle, counts a mismatch or enters FAULT. -/
  | hallTransition (n t uvw : Nat)
  /-- R65: A quadrature step moves the encoder count. -/
  | encStep (n t : Nat) (mv : EncMove)
  /-- R65: A Z edge marks step 0, gaining sync or correcting a slip. -/
  | encZEdge (n t : Nat)
  /-- R71: A write to ANG_SCHED_A or ANG_SCHED_B sets a shadow entry word, auto-incrementing after B, or is dropped while BUSY. -/
  | angSchedBWrite (n : Nat) (b : Bool) (w : Nat)
  /-- R70: A COMMIT sorts the shadow bank into the inactive bank, withdrawing a pending bank first. -/
  | angSchedCommit (n : Nat)
  /-- R70: The schedule sort ends and the bank becomes PENDING, or is exchanged at once if the angle is invalid. -/
  | angSortDone (n : Nat)
  /-- R76: A write of 1 to an ANG_DONE bit marks an open deadline slot done, or counts in ANG_LATE for a closed slot. -/
  | angDoneWrite (n i w : Nat)
  /-- R68: An entry with ACT 0x0 issues, emitting only its SCHED event if EVT is set. -/
  | schedEventOnly (n t : Nat)
  /-- R68: An ACT 0x1 entry issues a conversion request to a general analog group. -/
  | schedAinGroup (n t : Nat)
  /-- R68: An ACT 0x2 entry issues a conversion request to a fast analog input. -/
  | schedFinConvert (n t : Nat)
  /-- R68: An ACT 0x3 entry queues a HIGH action for a trigger output. -/
  | schedTrgHigh (n t : Nat)
  /-- R68: An ACT 0x4 entry queues a LOW action for a trigger output. -/
  | schedTrgLow (n t : Nat)
  /-- R68: An ACT 0x5 entry queues a TOGGLE action for a trigger output. -/
  | schedTrgToggle (n t : Nat)
  /-- R68: An ACT 0x6 entry raises one peripheral request to a sluice channel. -/
  | schedSluiceRequest (n t : Nat)
  /-- R68: An ACT 0x7 entry requests a snapshot of a digital input group. -/
  | schedDinSnapshot (n t : Nat)
  /-- R76: An ACT 0x8 entry clears and opens a deadline slot. -/
  | schedOpen (n t : Nat)
  /-- R76: An ACT 0x9 entry judges a deadline slot met or missed and closes it. -/
  | schedDeadline (n t : Nat)
  /-- R81: A write to TIM_STEP_HI decides a step, added to any pending step. -/
  | timeStepWrite (hi : Nat)
  /-- R81: 16 µs after it is decided, a step takes effect in the time base and every echo at one instant. -/
  | timeStepApply (t : Nat)
  /-- R80: Every 1,024 CD04 ticks each stamping domain's echo is realigned to the time base. -/
  | timeEchoRealign
  /-- R84: A PPS edge is dated; it is discarded as noise or measured by the servo, which slews or decides a step. -/
  | ppsEdge (t sub : Nat)
  /-- R84: With no accepted PPS edge for 1,500 ms the time base enters holdover or falls back to gPTP phase. -/
  | ppsHoldover (t : Nat)
  /-- R83: A gPTP Sync and its follow-up give an offset measurement to the servo. -/
  | gptpSyncRx (port t : Nat) (offset : Int)
  /-- R85: A peer-delay exchange on a gPTP port measures link delay. -/
  | gptpPdelay (port delay : Nat)
  /-- R85: An Announce message feeds the BMCA, which may change the grandmaster and slave port. -/
  | gptpAnnounce (port : Nat) (a : Announce)
  /-- R91: A read of TIM_NOW_LO returns time bits 31:0 and latches bits 63:32 for that requester. -/
  | timNowLoRead (who : Nat)
  /-- R539: At each whole second of a disciplined time base the RTC is written and RTC_VALID sets. -/
  | rtcSecondWrite (t : Nat)
  /-- R496: The RTC reaches TIM_RTC_ALARM and wakes the module from Sleep or Deep sleep. -/
  | rtcAlarm (t : Nat)
  /-- R95: A stream's EN 0→1 validates its configuration and claims its runnel, or is refused with CFG_CODE. -/
  | streamEnable (i : Nat)
  /-- R94: A stream's EN 1→0 closes its packet and releases its runnel once the packet has closed. -/
  | streamDisable (i : Nat)
  /-- R107: A write of 1 to AIN_GGO.GO starts one scan of a software-triggered group. -/
  | ainGo (g t : Nat)
  /-- R113: A write of 1 to FIN_GO.GO converts a software-triggered fast input once. -/
  | finGo (n t : Nat)
  /-- R111: A write of 1 to FIN_GO.CRESET discharges the charge integrator. -/
  | finCreset (n : Nat)
  /-- R119: A write of 1 to DIN_GSNAP.GO captures a group snapshot packet. -/
  | dinSnapGo (g t : Nat)
  /-- R101: A time-triggered stream reaches a TAI grid point and holds. -/
  | streamGridPoint (i t : Nat)
  /-- R102: A schedule request reaches an analog block as a pulse count; one conversion is made and the rest counted in OVR. -/
  | conversionRequestArrive (i t : Nat)
  /-- R107: The selected edge of the trigger digital input starts one scan of a TRIG 3 group. -/
  | ainDinTrigger (g t : Nat)
  /-- R100: A conversion result is ready and its item enters the stream's elastic buffer, or is discarded for lack of room. -/
  | conversionResult (i : Nat) (codes : List Int) (exc : List Nat)
  /-- R114: The angle word reaches an angle-clock point, issuing a request or marking skipped points. -/
  | aclkPoint (n t : Nat)
  /-- R113: PERIOD after the previous hold of a burst, the next burst conversion holds. -/
  | finBurstNext (n t : Nat)
  /-- R98: A packet open for AGE × 100 µs closes. -/
  | packetAgeExpire (i : Nat)
  /-- R99: An item passes from the elastic buffer into the runnel once there is room, with a fresh header when it opens a packet. -/
  | bufferToRunnel (i : Nat)
  /-- R117: A conditioned digital level change is accepted, giving an edge record, a measurement update and a count. -/
  | dinEdge (n t : Nat) (level : Bool)
  /-- R117: When space returns after lost edges, one drop record reports their number. -/
  | dinDropRecord (g : Nat)
  /-- R118: With no MEDGE edge for 2 s, period, high time and duty read 0xFFFF_FFFF. -/
  | dinMeasTimeout (n : Nat)
  /-- R102: At most once per millisecond per stream, OVERRUN is emitted with the accumulated count. -/
  | overrunReport (i : Nat)
  /-- R121: EXC_CFG.EN 0→1 checks the power budget and starts the ramp, or is refused with BUDGET_ERR. -/
  | excEnable (n : Nat)
  /-- R134: EXC_CFG.EN 1→0 turns the output off, ending any latch-off sequence. -/
  | excDisable (n : Nat)
  /-- R120: An enabled excitation output reaches nominal and READY sets. -/
  | excReady (n : Nat)
  /-- R122: Every 1 ms the excitation block measures voltage, current and total power, flagging OVER. -/
  | excMeasure (mv cur : List Nat) (mw : Nat)
  /-- R122: After 20 measurements above 6.5 W, and every 20 ms after, the highest enabled output is switched off. -/
  | excShed
  /-- R138: TRG_CFG.EN 0→1 starts driving the held logical level. -/
  | trgEnable (n : Nat)
  /-- R139: TRG_CFG.EN 1→0 returns the output to its quiet state. -/
  | trgDisable (n : Nat)
  /-- R124: TRG_SET.HIGH queues a logical high action. -/
  | trgSetHigh (n : Nat)
  /-- R124: TRG_SET.LOW queues a logical low action. -/
  | trgSetLow (n : Nat)
  /-- R124: TRG_SET.TOGGLE queues an inversion. -/
  | trgSetToggle (n : Nat)
  /-- R124: A queued trigger action reaches its output in CD24 and changes the pin, or is deferred or merged by the rate cap. -/
  | trgActionApply (q t : Nat)
  /-- R125: WIDTH × 5 ns after a HIGH, the output returns low. -/
  | trgWidthReturn (n t : Nat)
  /-- R138: 250 ns after the last change, a deferred trigger change applies its final level. -/
  | trgDeferredChange (n t : Nat)
  /-- R131: Every 10 ms enabled input channels are scanned and fault codes reported or cleared. -/
  | diagScan (found : List Finding)
  /-- R132: Every 10 ms a 20 µs test current window checks each diagnosed analog input for an open leg. -/
  | openWireTest (cls n pos neg : Nat)
  /-- R131: An output condition that has held for 2 µs is reported. -/
  | outputFaultDetect (trg : Bool) (n code : Nat)
  /-- R134: Excitation current above 180 mA folds the output back and reports 0x6. -/
  | excFoldback (n : Nat)
  /-- R131: An excitation output leaves its current limit and code 0x6 clears. -/
  | excFoldbackEnd (n : Nat)
  /-- R134: Foldback held for 2 ms latches the output off, or gives up at RETRY_MAX. -/
  | excLatchOff (n : Nat)
  /-- R134: 500 ms after a latch, the excitation output ramps on again. -/
  | excRetry (n : Nat)
  /-- R136: 100 ms after a sense fault clears, the output returns to remote sense. -/
  | excSenseRestore (n : Nat)
  /-- R137: A trigger output reporting 0x2, 0x3 or 0x6 for 2 µs latches off. -/
  | trgLatchOff (n t : Nat)
  /-- R137: 10 ms after a latch, the trigger output retries at its queued level. -/
  | trgRetry (n t : Nat)
  /-- R144: RUN_CLAIM.CLAIM makes the writer the software producer of an unowned runnel. -/
  | runClaim (r who : Nat)
  /-- R144: RUN_CLAIM.RELEASE releases the runnel, closing any open packet. -/
  | runRelease (r who : Nat)
  /-- R146: RUN_POPEN.OPEN places an unfilled length slot, closing any open packet first. -/
  | runOpen (r who : Nat)
  /-- R145: A push through RUN_PUSH or the window places one data word, waiting for an empty stage. -/
  | runPush (r who w : Nat) (window : Bool)
  /-- R147: A software push not entered within 2 µs is discarded with PUSH_LOST. -/
  | runPushTimeout (r : Nat)
  /-- R146: RUN_PCLOSE.CLOSE checks the segment, retags its last word and fills the length slot. -/
  | runClose (r who : Nat) (ce ue : List Nat)
  /-- R152: A read through RUN_POP or the window pops the next readable word or returns the pad word. -/
  | runPop (r : Nat) (port : RunPort) (err : UpsetKind)
  /-- R153: After TAIL µs with no new readable word, a request promises the readable tail. -/
  | runTailRequest (r : Nat)
  /-- R154: RUN_FLUSH.FLUSH discards the runnel's content, pending until the open packet closes. -/
  | runFlush (r : Nat)
  /-- R192: GO validates the transfer, captures the shadow and enters RUN, or is refused with CFG_CODE. -/
  | slcGo (c : Nat)
  /-- R201: PAUSE in RUN starts a drain toward PAUSED. -/
  | slcPause (c : Nat)
  /-- R193: RESUME continues from PAUSED or HALTED from the registers as they stand. -/
  | slcResume (c : Nat)
  /-- R202: ABORT drains if needed and enters IDLE without completing. -/
  | slcAbort (c : Nat)
  /-- R193: CLRREQ sets SLC_REQS.PENDING to 0. -/
  | slcClrreq (c : Nat)
  /-- R195: A peripheral request count is added to PENDING, saturating with REQ_OVF. -/
  | slcRequest (c : Nat)
  /-- R195: A requester withdraws a request, lowering PENDING by one. -/
  | slcRequestWithdraw (c : Nat)
  /-- R194: A burst starts once buffer room, any pending request and any weir grant are available, and issues its reads. -/
  | slcBurstStart (c : Nat)
  /-- R197: A read response enters the funnel and writes issue as their bytes are held. -/
  | slcReadResponse (c : Nat)
  /-- R199: A write is acknowledged; after the last, read-backs issue or a drain ends. -/
  | slcWriteAck (c : Nat)
  /-- R199: A read-back returns; when all have returned the channel completes. -/
  | slcReadbackReturn (c : Nat)
  /-- R204: An error response halts the channel after a drain, latching ERR, DIR and SLC_EADDR. -/
  | slcError (c dir : Nat) (e : RespFault)
  /-- R215: A waiting sluice grant request is granted in arrival order once HELD leaves room. -/
  | weirGrantWaiting
  /-- R215: A write to WEIR_RGN_RESERVE requests a grant that is made or refused at once. -/
  | weirReserve (who r n : Nat)
  /-- R216: After 1 s of continuous refusal the interval closes and a GAP record is due. -/
  | refusalIntervalTimeout
  /-- R212: A region EN 0→1 validates the region and zeroes its offsets, or sets CFG_ERR. -/
  | weirRgnEnable (r : Nat)
  /-- R217: A region EN 1→0 takes effect only if FILL = DONE. -/
  | weirRgnDisable (r : Nat)
  /-- R217: REWIND zeroes the offsets if FILL = DONE, and otherwise sets REW_REF. -/
  | weirRgnRewind (r : Nat)
  /-- R233: A GRACE write that would make EDEPTH below HELD is ignored and sets CFG_REF. -/
  | weirGraceWrite (v : Nat)
  /-- R231: Every 1 ms the weir sets DEPTH from reserve energy, commit rate, pool and dip. -/
  | weirDepthUpdate
  /-- R222: A write to RSV_RING_DB or a sluice pulse sets the allowance and starts or rechecks fetching. -/
  | ringDoorbell (n : Nat)
  /-- R223: RESUME clears HALT, refills the allowance and fetches from HEAD. -/
  | ringResume (n : Nat)
  /-- R223: ABORT halts an active or idle ring with code 7 after its current fetch. -/
  | ringAbort (n : Nat)
  /-- R223: A fetch finds no allowance, times out, errs or returns a bad descriptor or link, and the ring halts. -/
  | ringFetchFault (n : Nat) (timeout : Bool)
  /-- R221: A fetched descriptor with VALID = 0 makes the ring IDLE, after one recheck if RECHECK is set. -/
  | ringIdleFetch (n : Nat)
  /-- R225: A POST descriptor is checked and admitted as one commit group with a GSEQ, or refused with a status. -/
  | descPost (n : Nat) (unc : Bool)
  /-- R217: A RELEASE descriptor discards bytes from the uncommitted state. -/
  | descRelease (n : Nat)
  /-- R227: A READ descriptor starts copying bytes of a committed group to ADDR. -/
  | descRead (n : Nat)
  /-- R224: A READ completes, writing status 0x0003, 0x0202 or 0x0203. -/
  | descReadDone (n ce : Nat) (lost : List (Nat × Nat))
  /-- R220: A LINK descriptor moves HEAD to NEXT. -/
  | descLink (n : Nat)
  /-- R220: A NOP descriptor completes with no action. -/
  | descNop (n : Nat)
  /-- R220: A FENCE descriptor holds the ring until every earlier admitted group has committed. -/
  | descFence (n : Nat)
  /-- R187: The seal unit completes the Ed25519 signature of a span, completing admission of the group that leads with it. -/
  | sealSignatureDone
  /-- R209: 1 ms after its last byte, a partly filled stripe is padded, closed and programmed. -/
  | stripePadTimeout
  /-- R182: A stripe becomes durable and groups whose trailers it holds commit in GSEQ order, with write-backs. -/
  | groupCommit
  /-- R229: A background erase begins when the die has an allowance. -/
  | eraseStart (die block : Nat)
  /-- R228: An erase completes and the block joins the erased pool. -/
  | eraseDone (die block : Nat)
  /-- R229: Every 250 ms a die's erase allowance rises by one, up to 16. -/
  | eraseAllowanceRefill (die : Nat)
  /-- R230: A failed program or erase retires the block and may retire the die. -/
  | flashOpFail (die block : Nat) (erase : Bool)
  /-- R230: A die unresponsive for 100 ms is retired and a rebuild starts. -/
  | dieTimeout (die : Nat)
  /-- R230: The rebuild of a retired die's contents completes and REBUILD clears. -/
  | rebuildDone (die : Nat)
  /-- R183: Start-up recovery ends, discarding broken groups, and the reservoir leaves RECOVERING with CAP and pool set. -/
  | reservoirRecoveryDone (kept torn : Nat)
  /-- R234: Input falling below 5.5 V activates DIP, narrowing DEPTH and deferring erases. -/
  | dipStart
  /-- R234: Input recovering above 6.0 V before loss ends DIP. -/
  | dipEnd (low : Bool)
  /-- R235: Supply loss is declared and the holdup flush starts, freezing DEPTH and shutting down front-ends. -/
  | supplyLossDeclare
  /-- R235: At the end of the grace window grants and doorbells cease and the cores stop. -/
  | flushGraceEnd
  /-- R235: Every admitted group and the closing seal are committed and the flush report is durable. -/
  | flushComplete (t : Nat) (input : Bool)
  /-- R369: A request unanswered for 8 µs receives TIMEOUT and is logged. -/
  | fabricTimeout (kind i : Nat)
  /-- R369: A target answer after expiry is discarded and counted as LATE. -/
  | fabricLateResponse (i : Nat) (performed : Bool)
  /-- R375: A pulse toggle is seen by the receiver and its count delivered as one happening. -/
  | pulseDeliver (line : Nat)
  /-- R375: The sender sees the acknowledgement and sends its accumulated count. -/
  | pulseAck (line : Nat)
  /-- R378: A crossing into a STOPPED domain with WAKEEN raises a wake and enters WAKING. -/
  | domainWakeRequest (d : Nat)
  /-- R378: A waking domain enters RUN, setting WAKE_SLOW if late, and waiting crossings proceed. -/
  | domainWakeDone (d ns : Nat)
  /-- R378: 1 ms after its last crossing a woken domain returns to STOPPED. -/
  | domainAutoStop (d : Nat)
  /-- R379: Accesses to an OFF domain complete DORMANT, reported at most once per millisecond. -/
  | dormantReport (d : Nat)
  /-- R381: A write of FAB_DBG.EN admits or refuses test-port debug accesses, emitting DEBUG_DETACH on 1→0. -/
  | fabDbgWrite (on : Bool)
  /-- R521: A test-port debug access enters the fabric through port 29 while FAB_DBG.EN = 1. -/
  | debugAccess (write : Bool) (a v : Nat)
  /-- R385: A frame received on a switch port is learned, buffered and queued for egress, and mirrored if enabled. -/
  | switchFrameRx (p : Nat) (f : List Nat) (err : Bool) (t : Nat)
  /-- R385: A queued frame leaves its egress port when its gate and priority allow. -/
  | switchFrameTx (p t : Nat)
  /-- R388: A gate control list interval ends and the port's gates take the next entry. -/
  | gateIntervalEnd (p : Nat)
  /-- R388: A new gate control list takes effect at its first cycle start at or after base time. -/
  | gclActivate (p : Nat)
  /-- R385: A MAC table entry not refreshed for 300 s is removed. -/
  | macAgeing
  /-- R384: A switch port's link comes up at a rate. -/
  | netLinkUp (p rate : Nat) (master : Bool)
  /-- R384: A switch port's link goes down. -/
  | netLinkDown (p : Nat)
  /-- R389: A TC10 port enters sleep through the sleep-request handshake. -/
  | tc10Sleep (p : Nat)
  /-- R389: A sleeping TC10 port wakes on WUP or WUR, forwarding wakes and waking the module if enabled. -/
  | tc10Wake (p : Nat) (wur : Bool)
  /-- R390: NET_PDIAG.RUN takes the link down and starts a TDR cable test. -/
  | netPdiagRun (p : Nat)
  /-- R390: The cable test ends with a result and distance, and the link retrains. -/
  | netPdiagDone (p result dist : Nat)
  /-- R390: SQI falling below 3 emits SQI_LOW once until it returns to 4. -/
  | sqiLow (p sqi : Nat)
  /-- R386: A frame for the module endpoint is answered for neighbour discovery or echo, passed to gPTP or the steward, or discarded. -/
  | endpointDatagram (f : EndpointFrame)
  /-- R391: A sink's EN 0→1 validates its two regions or sets CFG_ERR. -/
  | sinkEnable (x : Nat)
  /-- R393: A sink's EN 1→0 closes its open record. -/
  | sinkDisable (x : Nat)
  /-- R394: A sink requests a grant for one piece, writing it, switching region or discarding it. -/
  | sinkPiece (x : Nat)
  /-- R393: A BUS_FRAME record open for AGE ms closes and RDY advances. -/
  | sinkAgeExpire (x : Nat)
  /-- R398: A frame on a CAN bus is logged by the CAN sink and, if it passes the filter, queued in the receive FIFO. -/
  | canFrameSeen (n : Nat) (f : CanFrame) (t : Nat)
  /-- R399: A read of CAN_RXPOP pops the next receive FIFO word. -/
  | canRxpop (n : Nat)
  /-- R399: A write of CAN_TXPUSH pushes one word of a frame to transmit. -/
  | canTxpush (n w : Nat)
  /-- R399: CAN_TXCTRL.GO queues the pushed frame with its tag. -/
  | canTxGo (n tag : Nat)
  /-- R400: The guardian allows a frame start, consuming a token, or refuses the frame. -/
  | canFrameStart (n : Nat)
  /-- R416: A transmitted frame completes and TX_DONE is emitted with its tag. -/
  | canTxDone (n : Nat)
  /-- R400: The guardian's token bucket gains a token at RATE per second, up to BURST. -/
  | canTokenRefill (n : Nat)
  /-- R400: Dominant transmission beyond 1.5 ms is forced recessive as bus fault code 1. -/
  | canDominantTimeout (n : Nat)
  /-- R401: After a persistent permit write, the guardian copy reloads and takes effect at bus idle. -/
  | canPermitLoad (n : Nat)
  /-- R416: A CAN channel changes error state to error-passive, bus-off or bus-on. -/
  | canErrorState (n st tec rec : Nat)
  /-- R403: A CSI-2 packet on the logged virtual channel is stored in the open fragment, starting or ending frames. -/
  | camPacketRx (n vc : Nat) (p : CamPacket) (bad : Bool) (t : Nat)
  /-- R416: A camera link locks at a gear or unlocks. -/
  | camLockChange (n gear : Nat)
  /-- R402: CAM_I2C.GO starts one I2C transaction to the camera. -/
  | camI2cGo (n : Nat)
  /-- R402: An I2C transaction completes with data or NACK. -/
  | camI2cDone (n data : Nat) (nack : Bool)
  /-- R406: Presence held below 0.8 V for 50 ms makes the dock present, allowing lasers and waking the module. -/
  | dockPresent
  /-- R406: Presence above 2.0 V for 1 ms makes the dock absent and turns every laser off. -/
  | dockAbsent
  /-- R405: A dock lane's link comes up. -/
  | dockLaneUp (l : Nat)
  /-- R407: A dock lane goes down and its unsent download chunks are dealt to other lanes. -/
  | dockLaneDown (l : Nat)
  /-- R407: A lane sends the next download datagram, with LAST at its end and STREAM_DONE when all lanes finish. -/
  | downloadDatagram (num l : Nat)
  /-- R408: A datagram received on a dock lane goes to the steward if a mailbox frame, or to the matching queue. -/
  | dockDatagramRx (l host src port : Nat) (b : List Nat)
  /-- R405: A PAUSE frame from the host halts transmission on its lane. -/
  | dockPauseFrame (l quanta : Nat)
  /-- R408: A read of a dock or twin queue window pops one word of a received frame. -/
  | queuePop (twin : Bool) (q : Nat)
  /-- R408: A write of a queue window pushes one word and sends the frame when complete. -/
  | queuePush (twin : Bool) (q w : Nat)
  /-- R409: A twin lane gains FEC lock and exchanges HELLO. -/
  | twinLaneUp (l : Nat)
  /-- R409: Every 10 ms each twin lane sends a HELLO. -/
  | twinHelloTimer
  /-- R409: Three consecutive missed HELLOs take a twin lane down. -/
  | twinHelloMiss (l : Nat)
  /-- R410: A twin frame unacknowledged for 20 µs is resent, or after 8 tries takes its lane down. -/
  | twinRetryTimeout
  /-- R474: A received HELLO updates partner presence and may resume a pair, rejoin or make a follower leave. -/
  | twinHelloRx (l : Nat) (bytes : List Nat)
  /-- R434: A relayed mailbox frame or response crosses the twin link. -/
  | twinMailboxRelayRx (l : Nat) (bytes : List Nat)
  /-- R410: A twin queue-data frame is delivered to its queue. -/
  | twinQueueDataRx (l : Nat) (bytes : List Nat)
  /-- R468: Every 1 ms the leader sends its TAI time at a sync frame's reference instant. -/
  | twinTimeTransferTx
  /-- R468: A time-transfer frame gives the follower's servo an offset measurement. -/
  | twinTimeTransferRx (l : Nat) (bytes : List Nat)
  /-- R470: A partner-index frame adds the partner's group entry to the pending PARTNER_INDEX entries. -/
  | twinPartnerIndexRx (l : Nat) (bytes : List Nat)
  /-- R470: At 64 pending entries or 1 s after the oldest, a PARTNER_INDEX record is admitted. -/
  | partnerIndexAdmit
  /-- R457: The follower accepts a JOIN, becoming follower with slaved engines and twin time, or refuses it. -/
  | twinJoinFrameRx (l : Nat) (bytes : List Nat)
  /-- R457: An ACCEPT reaches the leader, which becomes leader and emits JOINED, or stays standalone. -/
  | twinAcceptRx (l : Nat) (bytes : List Nat)
  /-- R474: Every 100 ms each module sends its pair STATE. -/
  | twinStateTx
  /-- R465: A STATE message updates the partner's pair state and re-enables a slaved engine whose cycle changed. -/
  | twinStateRx (l : Nat) (bytes : List Nat)
  /-- R450: Every 100 ms each paired module sends its fingerprint to its partner. -/
  | fpExchangeTimer
  /-- R450: A received fingerprint is compared and MISMATCH, FP_MATCH or FP_MISMATCH updated. -/
  | twinFprintRx (l : Nat) (bytes : List Nat) (stale : Bool)
  /-- R463: A DELAY message gives the follower the measured wire delay D. -/
  | twinDelayRx (l : Nat) (bytes : List Nat)
  /-- R469: A PAIRCMD carries a paired log or volume command to the follower, answered by ACCEPT. -/
  | twinPaircmdRx (l : Nat) (bytes : List Nat)
  /-- R471: A LEAVE message makes the follower end its span, release slaved engines and become standalone. -/
  | twinLeaveFrameRx (l : Nat) (bytes : List Nat)
  /-- R455: 10 s after the follower accepted, TWIN_JOIN completes with ATTACHED 0 and the unmet conditions. -/
  | twinJoinTimeout (t : Nat)
  /-- R458: When fingerprint, slaved angles and time lock all hold, the follower attaches. -/
  | twinAttach
  /-- R462: Every 2 µs the leader sends an angle-sync frame. -/
  | syncFrameTx (t : Nat)
  /-- R465: The follower dates a sync frame and realigns each slaved engine's extrapolation, or discards a bad frame. -/
  | syncFrameRx (t : Nat) (bytes : List Nat)
  /-- R464: Four consecutive missing or bad sync frames unlock the wire and invalidate slaved angles. -/
  | syncWireUnlock (t : Nat)
  /-- R463: Once per second the leader sends the probe symbol in place of a frame. -/
  | syncProbe (t : Nat)
  /-- R463: The follower answers a probe 200 ns after seeing it. -/
  | syncProbeAnswer
  /-- R463: The probe answer or its 500 ns timeout reaches the leader, which computes D or keeps the old one. -/
  | syncProbeReturn (roundTrip : Option Nat)
  /-- R422: A mailbox frame is checked and enters the arrival queue, or is discarded. -/
  | mailboxFrameRx (transport src lane : Nat) (bytes : List Nat)
  /-- R430: A reserved command code is answered UNKNOWN_CMD. -/
  | unknownCmd
  /-- R422: A running long command completes and its response is sent. -/
  | longCmdComplete (i : Nat)
  /-- R424: Issues a fresh nonce for a key, or BACKOFF after a failure. -/
  | sessionHello
  /-- R425: Checks the MAC over the nonce and opens a new session, ending any current one. -/
  | sessionOpen
  /-- R424: A nonce becomes invalid 10 s after it was issued. -/
  | nonceExpire (t : Nat)
  /-- R425: 1 s after an authentication failure, SESSION_HELLO is served again. -/
  | authBackoffEnd (t : Nat)
  /-- R428: No frame with the current tag for the idle limit ends the session with cause 2. -/
  | sessionIdleTimeout (t : Nat)
  /-- R428: Ends the session with cause 1. -/
  | sessionClose
  /-- R430: Returns the time base value. -/
  | ping
  /-- R430: Returns identity, census, firmware version and role of each module. -/
  | identify (partner : List Nat)
  /-- R430: Returns part of the device certificate. -/
  | certRead
  /-- R430: Returns reservoir, weir, time, fingerprint and core-hold status. -/
  | statusRead
  /-- R431: Applies masked register writes in order, stopping with ACCESS at a bad entry. -/
  | configApply
  /-- R431: Reads a list of permitted register addresses. -/
  | configRead
  /-- R430: Returns persistent words and their wear counts, with key words as 0. -/
  | pstRead
  /-- R443: Writes changed persistent words, refusing protected and worn words. -/
  | pstWrite
  /-- R423: Writes the race or service key. -/
  | keySet
  /-- R438: Writes a CAN channel's permit words persistently. -/
  | permitSet
  /-- R432: Holds the named cores in steward-commanded reset. -/
  | coreHold
  /-- R432: Releases the named cores to run from word 0. -/
  | coreRelease
  /-- R432: Writes a held core's data or instruction RAM. -/
  | progWrite
  /-- R432: Opens a basin's control store for loading, completing at LOADING. -/
  | wcsOpen
  /-- R432: Writes microwords or nanowords of a basin's control store. -/
  | wcsWrite
  /-- R432: Commits a basin's control store and returns its status. -/
  | wcsCommit
  /-- R433: Starts a log session with the next LSESS. -/
  | logStart
  /-- R433: Ends the log session, completing when its closing seal commits. -/
  | logStop
  /-- R433: Ends the current span, completing when its seal commits. -/
  | sealNow
  /-- R433: Admits a host ANNOTATION record in its own group, completing at commit. -/
  | annotate
  /-- R430: Returns the volume list. -/
  | volList (partner : List (List Nat))
  /-- R433: Creates and opens a new volume. -/
  | volCreate
  /-- R433: Closes the open volume. -/
  | volClose
  /-- R433: Deletes a closed volume, queueing its blocks for erase. -/
  | volDelete
  /-- R433: Starts a download stream of committed groups over the dock or service port. -/
  | downloadStart
  /-- R430: Stops a download stream. -/
  | downloadStop
  /-- R489: Validates and starts entry to Sleep, Deep sleep or Off. -/
  | powerState
  /-- R501: Starts a commit drain followed by a warm reset. -/
  | moduleReset
  /-- R455: Starts a join with the named partner. -/
  | twinJoin
  /-- R471: Returns both modules to standalone. -/
  | twinLeave
  /-- R436: Erases the inactive firmware slot for a new image. -/
  | fwBegin
  /-- R436: Writes part of a firmware image. -/
  | fwData
  /-- R436: Verifies the staged image and marks it pending, rebooting if asked. -/
  | fwCommit
  /-- R430: Returns firmware slot and rollback status. -/
  | fwStatus
  /-- R437: After 30 s without a watchdog reset, the trial slot becomes active and the rollback counter rises. -/
  | fwTrialConfirm (t : Nat)
  /-- R442: A write to the persistent data window makes the word durable and counts wear, or is refused for a worn word. -/
  | pstWordWrite (i v : Nat)
  /-- R447: After 1 ms of quiet or 100 ms of changes, the steward publishes a new fingerprint and generation. -/
  | fpPublish
  /-- R479: Every 100 µs the power stage measures input and load and adjusts charge power and basin ceilings. -/
  | powerSample (mv load vres mw : Nat) (reverse : Bool)
  /-- R480: An ignition level stable for 10 ms is accepted, emitting IGN_ON or IGN_OFF and possibly waking the module. -/
  | ignChange (on : Bool)
  /-- R481: The reserve charger moves from current limit to power limit to float. -/
  | chargerPhaseChange (vres : Nat) (cap : Option Nat)
  /-- R482: Every 600 s in float the charger measures reserve capacitance, flagging RES_LOW. -/
  | capTest (mf : Nat)
  /-- R490: During entry the weir, rings and reservoir become idle and basins start to stop. -/
  | powerEntryDrained
  /-- R490: PREP ms without drain refuses the entry with code 4 or 5. -/
  | powerPrepTimeout
  /-- R491: A basin whose cores all satisfy retain falls to retention and STOPPED. -/
  | basinStop
  /-- R491: BASIN_TO ms without a basin stop refuses entry and restarts stopped basins. -/
  | basinStopTimeout
  /-- R490: All basins stopped, the module takes its target state and replays any latched wake. -/
  | powerEntryComplete
  /-- R496: A wake source transition ends Sleep, Deep sleep or Off and restarts the module. -/
  | wake (src idx : Nat)
  /-- R495: Always-on load above 2 mA browns the module out into Off. -/
  | brownout
  /-- R504: A start-up release step completes and the next begins. -/
  | releaseStepDone (verify0 verify1 : Bool)
  /-- R505: A trim load reads copy A or B into the live registers, or fails. -/
  | trimLoad (copyA copyB resp : Bool) (part stepping : Nat)
  /-- R505: 10 ms after a failed trim load it is retried, entering trim fault after three failures. -/
  | trimRetry (copyA copyB resp : Bool) (part stepping : Nat)
  /-- R505: Every 1 s in trim fault the service port sends a report datagram. -/
  | trimFaultReport
  /-- R501: The commit drain before a warm reset completes and reset asserts. -/
  | commitDrainDone
  /-- R512: A write of RST_WDOG.KICK restarts the watchdog period. -/
  | watchdogKick (t : Nat)
  /-- R500: The steward watchdog expires and a warm reset starts with a commit drain. -/
  | watchdogExpire (t : Nat)
  /-- R512: A bit of RST_HELD written 0→1 holds a core and 1→0 releases it. -/
  | rstHeldWrite (hi : Bool) (v : Nat)
  /-- R508: A core being reset has stopped, drained and been initialised, and is held. -/
  | coreHoldDone (k : Nat)
  /-- R509: RST_BLOCK.GO resets one block, or sets BLK_ERR for a bad class or index. -/
  | rstBlockGo (v : Nat)
  /-- R509: A block reset completes with the block at its reset values. -/
  | blockResetDone
  /-- R531: Every 1 ms each basin's thermal ceiling code falls, rises or holds with junction temperature. -/
  | thermalGovernor (baseT nandT resT : Nat)
  /-- R532: NAND at 100 °C halves RSV_RATE.CAP until it falls to 95 °C. -/
  | nandThermalHold
  /-- R533: An over-temperature junction or base declares supply loss and sets TRIPPED. -/
  | thermalTrip
  /-- R500: The input meets the start condition of R477 from no supply, and a power-on start begins at release step 1. -/
  | powerOn
  /-- R111: Within 10 µs of CRESET the charge integrator has discharged, ending the interval in which conversions carry FLT = 1. -/
  | chargeResetDone (n : Nat)
  /-- R346: A jet, packer or seal operation finishes in its shared unit, its result is pushed to the waiting core, and the unit serves the next waiting requester round-robin. -/
  | coprocessorOpDone (unit : Nat) (kind : UpsetKind) (delay : Bool) (pos : Nat)
  /-- R413: A CAN line rises above +18 V, falls below −12 V or the bus is held dominant for 5 ms, or such a condition clears, updating CAN_STATUS.FAULT and emitting BUS_FAULT. -/
  | canLineFault (n code : Nat)
  /-- R85: At each Sync or Announce interval the module, as grandmaster or as a relaying time-aware system, sends Sync with Follow_Up or Announce on its gPTP ports. -/
  | gptpMessageTx (port : Nat) (kind : GptpKind)
  deriving DecidableEq, Repr

end Sys2Proof
end

