-- ==== Sys2Proof/WellFormed.lean ====
section
/-! DEFINITION. Well-formed commands: each operand names a unit, channel, code or width that some variant of the module has
(01_architecture.md R1 to R7). What a well-formed command does on a module whose variant lacks the unit is the command's
meaning. No sender can send an ill-formed command; its meaning stops with the fault noSuchUnit. -/
namespace Sys2Proof

def Instr.wf : Instr → Bool
  | .registerWrite who a _ => decide (who < 65 ∧ a < 2 ^ 32 ∧ a % 4 = 0)
  | .coreAccessResponse k _ => decide (k < 65)
  | .storeDrain k _ => decide (k < 65)
  | .reservationExpire k => decide (k < 65)
  | .eventEntry k => decide (k < 65)
  | .eventRecordArrive src => decide (0x1000 ≤ src ∧ src < 0xD000)
  | .evtRingRdWrite k _ v => decide (k < 65 ∧ v < 65536)
  | .evtRingEnable k _ _ => decide (k < 65)
  | .evtSend k _ => decide (k < 65)
  | .nop k => decide (k < 65)
  | .dup k => decide (k < 65)
  | .drop k => decide (k < 65)
  | .swap k => decide (k < 65)
  | .over k => decide (k < 65)
  | .rot k => decide (k < 65)
  | .nip k => decide (k < 65)
  | .tuck k => decide (k < 65)
  | .pick k => decide (k < 65)
  | .toR k => decide (k < 65)
  | .rFrom k => decide (k < 65)
  | .rFetch k => decide (k < 65)
  | .depth k => decide (k < 65)
  | .rdrop k => decide (k < 65)
  | .add k => decide (k < 65)
  | .sub k => decide (k < 65)
  | .adc k => decide (k < 65)
  | .sbc k => decide (k < 65)
  | .neg k => decide (k < 65)
  | .abs k => decide (k < 65)
  | .inc k => decide (k < 65)
  | .dec k => decide (k < 65)
  | .adds k => decide (k < 65)
  | .subs k => decide (k < 65)
  | .min k => decide (k < 65)
  | .max k => decide (k < 65)
  | .minu k => decide (k < 65)
  | .maxu k => decide (k < 65)
  | .slt k => decide (k < 65)
  | .sltu k => decide (k < 65)
  | .and k => decide (k < 65)
  | .or k => decide (k < 65)
  | .xor k => decide (k < 65)
  | .not k => decide (k < 65)
  | .shl k => decide (k < 65)
  | .shr k => decide (k < 65)
  | .sar k => decide (k < 65)
  | .rol k => decide (k < 65)
  | .ror k => decide (k < 65)
  | .clz k => decide (k < 65)
  | .popc k => decide (k < 65)
  | .bswap k => decide (k < 65)
  | .sexb k => decide (k < 65)
  | .sexh k => decide (k < 65)
  | .zexb k => decide (k < 65)
  | .zexh k => decide (k < 65)
  | .mul k => decide (k < 65)
  | .mulh k => decide (k < 65)
  | .mulhu k => decide (k < 65)
  | .muld k => decide (k < 65)
  | .muldu k => decide (k < 65)
  | .div k => decide (k < 65)
  | .divu k => decide (k < 65)
  | .rem k => decide (k < 65)
  | .remu k => decide (k < 65)
  | .divmod k => decide (k < 65)
  | .divmodu k => decide (k < 65)
  | .ret k => decide (k < 65)
  | .calli k => decide (k < 65)
  | .jmpi k => decide (k < 65)
  | .lit k imm => decide (k < 65) && decide (imm < 4096)
  | .litx k imm => decide (k < 65) && decide (imm < 4096)
  | .fld k imm => decide (k < 65) && decide (imm < 4096)
  | .fst k imm => decide (k < 65) && decide (imm < 4096)
  | .fadr k imm => decide (k < 65) && decide (imm < 4096)
  | .br k off => decide (k < 65) && decide (off < 4096)
  | .call k off => decide (k < 65) && decide (off < 4096)
  | .sk k cond _ => decide (k < 65) && decide (cond < 8)
  | .skf k cond => decide (k < 65) && decide (cond < 6)
  | .skc k cond _ => decide (k < 65) && decide (cond < 10)
  | .ski k cond imm _ => decide (k < 65) && decide (cond < 8) && decide (imm < 64)
  | .inp k off => decide (k < 65) && decide (off < 2048)
  | .out k off => decide (k < 65) && decide (off < 2048)
  | .ldw k => decide (k < 65)
  | .ldh k => decide (k < 65)
  | .ldhu k => decide (k < 65)
  | .ldb k => decide (k < 65)
  | .ldbu k => decide (k < 65)
  | .stw k => decide (k < 65)
  | .sth k => decide (k < 65)
  | .stb k => decide (k < 65)
  | .ldwInc k => decide (k < 65)
  | .stwInc k => decide (k < 65)
  | .ldhInc k => decide (k < 65)
  | .sthInc k => decide (k < 65)
  | .ldbuInc k => decide (k < 65)
  | .stbInc k => decide (k < 65)
  | .lr k => decide (k < 65)
  | .sc k => decide (k < 65)
  | .rep k => decide (k < 65)
  | .repi k => decide (k < 65)
  | .wait k => decide (k < 65)
  | .fence k => decide (k < 65)
  | .rete k => decide (k < 65)
  | .brk k => decide (k < 65)
  | .swe k => decide (k < 65)
  | .ldi k => decide (k < 65)
  | .sti k => decide (k < 65)
  | .iord k => decide (k < 65)
  | .iowr k => decide (k < 65)
  | .getfp k => decide (k < 65)
  | .setfp k => decide (k < 65)
  | .getiob k => decide (k < 65)
  | .setiob k => decide (k < 65)
  | .getcnt k => decide (k < 65)
  | .getst k => decide (k < 65)
  | .setst k => decide (k < 65)
  | .dcwb k => decide (k < 65)
  | .dcinv k => decide (k < 65)
  | .icinv k => decide (k < 65)
  | .move k => decide (k < 65)
  | .fill k => decide (k < 65)
  | .crc32c k => decide (k < 65)
  | .crc64 k => decide (k < 65)
  | .sqrtu k => decide (k < 65)
  | .mulq k => decide (k < 65)
  | .wcsEntry k i _ => decide (k < 65) && decide (i < 256)
  | .undef k w => decide (k < 65) && decide (w < 65536)
  | .jcfg k => decide (k < 65)
  | .jldc k => decide (k < 65)
  | .jclr k => decide (k < 65)
  | .jfir k => decide (k < 65)
  | .jfft k => decide (k < 65)
  | .jxcm k => decide (k < 65)
  | .pkcfg k => decide (k < 65)
  | .pkenc k => decide (k < 65)
  | .pkdec k => decide (k < 65)
  | .shinit k => decide (k < 65)
  | .shblk k => decide (k < 65)
  | .shchn k => decide (k < 65)
  | .coreModeWrite k _ => decide (k < 65)
  | .coreApWrite k a _ => decide (k < 65 ∧ a < 8)
  | .coreSpillCfgWrite k t _ => decide (k < 65 ∧ t < 4)
  | .bsnMonitorReading n now tj => decide (n < 8 ∧ now < 65536 ∧ tj < 256)
  | .bsnVctrlUpdate n => decide (n < 8)
  | .bsnVctrlWrite n _ => decide (n < 8)
  | .bsnVlimWrite n _ => decide (n < 8)
  | .bsnTokmaxClr n => decide (n < 8)
  | .bsnWcsOpen n => decide (n < 8)
  | .wcsLoadingReached n => decide (n < 8)
  | .bsnWcsWrite n => decide (n < 8)
  | .bsnWcsRead n => decide (n < 8)
  | .bsnWcsCommit n => decide (n < 8)
  | .wcsCommitDone n => decide (n < 8)
  | .bsnWcsAbort n => decide (n < 8)
  | .angEnable n => decide (n < 4)
  | .angDisable n => decide (n < 4)
  | .angResync n => decide (n < 4)
  | .angToothEdge n _ _ => decide (n < 4)
  | .angCamEdge n _ => decide (n < 4)
  | .angCycleWrap n _ => decide (n < 4)
  | .angStallTimeout n _ => decide (n < 4)
  | .angDirPulseEnd n _ => decide (n < 4)
  | .resLoopUpdate n _ _ _ _ => decide (n < 4)
  | .hallTransition n _ uvw => decide (n < 4 ∧ uvw < 8)
  | .encStep n _ _ => decide (n < 4)
  | .encZEdge n _ => decide (n < 4)
  | .angSchedBWrite n _ _ => decide (n < 4)
  | .angSchedCommit n => decide (n < 4)
  | .angSortDone n => decide (n < 4)
  | .angDoneWrite n i _ => decide (n < 4 ∧ i < 2)
  | .schedEventOnly n _ => decide (n < 4)
  | .schedAinGroup n _ => decide (n < 4)
  | .schedFinConvert n _ => decide (n < 4)
  | .schedTrgHigh n _ => decide (n < 4)
  | .schedTrgLow n _ => decide (n < 4)
  | .schedTrgToggle n _ => decide (n < 4)
  | .schedSluiceRequest n _ => decide (n < 4)
  | .schedDinSnapshot n _ => decide (n < 4)
  | .schedOpen n _ => decide (n < 4)
  | .schedDeadline n _ => decide (n < 4)
  | .timeStepWrite _ => true
  | .timeStepApply _ => true
  | .timeEchoRealign => true
  | .ppsEdge _ _ => true
  | .ppsHoldover _ => true
  | .gptpSyncRx port _ _ => decide (port < 13)
  | .gptpPdelay port _ => decide (port < 13)
  | .gptpAnnounce port _ => decide (port < 13)
  | .timNowLoRead who => decide (who < 65)
  | .rtcSecondWrite _ => true
  | .rtcAlarm _ => true
  | .streamEnable i => decide (i < 54)
  | .streamDisable i => decide (i < 54)
  | .ainGo g _ => decide (g < 32)
  | .finGo n _ => decide (n < 16)
  | .finCreset n => decide (n < 16)
  | .dinSnapGo g _ => decide (g < 6)
  | .streamGridPoint i _ => decide (i < 48)
  | .conversionRequestArrive i _ => decide (i < 48)
  | .ainDinTrigger g _ => decide (g < 32)
  | .conversionResult i _ _ => decide (i < 48)
  | .aclkPoint n _ => decide (n < 16)
  | .finBurstNext n _ => decide (n < 16)
  | .packetAgeExpire i => decide (i < 54)
  | .bufferToRunnel i => decide (i < 54)
  | .dinEdge n _ _ => decide (n < 48)
  | .dinDropRecord g => decide (g < 6)
  | .dinMeasTimeout n => decide (n < 48)
  | .overrunReport i => decide (i < 54)
  | .excEnable n => decide (n < 8)
  | .excDisable n => decide (n < 8)
  | .excReady n => decide (n < 8)
  | .excMeasure _ _ _ => true
  | .excShed => true
  | .trgEnable n => decide (n < 16)
  | .trgDisable n => decide (n < 16)
  | .trgSetHigh n => decide (n < 16)
  | .trgSetLow n => decide (n < 16)
  | .trgSetToggle n => decide (n < 16)
  | .trgActionApply q _ => decide (q < 5)
  | .trgWidthReturn n _ => decide (n < 16)
  | .trgDeferredChange n _ => decide (n < 16)
  | .diagScan _ => true
  | .openWireTest cls n _ _ => decide ((cls = 0 ∧ n < 96) ∨ (cls = 1 ∧ n < 16) ∨ (cls = 5 ∧ n < 4))
  | .outputFaultDetect trg n _ => decide (n < if trg then 16 else 8)
  | .excFoldback n => decide (n < 8)
  | .excFoldbackEnd n => decide (n < 8)
  | .excLatchOff n => decide (n < 8)
  | .excRetry n => decide (n < 8)
  | .excSenseRestore n => decide (n < 8)
  | .trgLatchOff n _ => decide (n < 16)
  | .trgRetry n _ => decide (n < 16)
  | .runClaim r _ => decide (r < 64)
  | .runRelease r _ => decide (r < 64)
  | .runOpen r _ => decide (r < 64)
  | .runPush r _ _ _ => decide (r < 64)
  | .runPushTimeout r => decide (r < 64)
  | .runClose r _ _ _ => decide (r < 64)
  | .runPop r _ _ => decide (r < 64)
  | .runTailRequest r => decide (r < 64)
  | .runFlush r => decide (r < 64)
  | .slcGo c => decide (c < 64)
  | .slcPause c => decide (c < 64)
  | .slcResume c => decide (c < 64)
  | .slcAbort c => decide (c < 64)
  | .slcClrreq c => decide (c < 64)
  | .slcRequest c => decide (c < 64)
  | .slcRequestWithdraw c => decide (c < 64)
  | .slcBurstStart c => decide (c < 64)
  | .slcReadResponse c => decide (c < 64)
  | .slcWriteAck c => decide (c < 64)
  | .slcReadbackReturn c => decide (c < 64)
  | .slcError c dir _ => decide (c < 64 ∧ dir < 3)
  | .weirGrantWaiting => true
  | .weirReserve who r _ => decide (who < 65 ∧ r < 16)
  | .refusalIntervalTimeout => true
  | .weirRgnEnable r => decide (r < 16)
  | .weirRgnDisable r => decide (r < 16)
  | .weirRgnRewind r => decide (r < 16)
  | .weirGraceWrite _ => true
  | .weirDepthUpdate => true
  | .ringDoorbell n => decide (n < 8)
  | .ringResume n => decide (n < 8)
  | .ringAbort n => decide (n < 8)
  | .ringFetchFault n _ => decide (n < 8)
  | .ringIdleFetch n => decide (n < 8)
  | .descPost n _ => decide (n < 8)
  | .descRelease n => decide (n < 8)
  | .descRead n => decide (n < 8)
  | .descReadDone n _ _ => decide (n < 8)
  | .descLink n => decide (n < 8)
  | .descNop n => decide (n < 8)
  | .descFence n => decide (n < 8)
  | .sealSignatureDone => true
  | .stripePadTimeout => true
  | .groupCommit => true
  | .eraseStart die block => decide (die < 160 ∧ block < 3725)
  | .eraseDone die block => decide (die < 160 ∧ block < 3725)
  | .eraseAllowanceRefill die => decide (die < 160)
  | .flashOpFail die block _ => decide (die < 160 ∧ block < 3725)
  | .dieTimeout die => decide (die < 160)
  | .rebuildDone die => decide (die < 160)
  | .reservoirRecoveryDone _ _ => true
  | .dipStart => true
  | .dipEnd _ => true
  | .supplyLossDeclare => true
  | .flushGraceEnd => true
  | .flushComplete _ _ => true
  | .fabricTimeout kind i => decide ((kind < 2 ∧ i < 65) ∨ (2 ≤ kind ∧ kind < 5 ∧ i < 64))
  | .fabricLateResponse _ _ => true
  | .pulseDeliver line => decide (line / 256 < 4 ∧ line % 256 < 112)
  | .pulseAck line => decide (line / 256 < 4 ∧ line % 256 < 112)
  | .domainWakeRequest d => decide (1 ≤ d ∧ d ≤ 25)
  | .domainWakeDone d _ => decide (1 ≤ d ∧ d ≤ 25)
  | .domainAutoStop d => decide (1 ≤ d ∧ d ≤ 25)
  | .dormantReport d => decide (d ≤ 25)
  | .fabDbgWrite _ => true
  | .debugAccess _ a _ => decide (a < 2 ^ 40 ∧ a % 4 = 0)
  | .switchFrameRx p _ _ _ => decide (p < 13)
  | .switchFrameTx p _ => decide (p < 13)
  | .gateIntervalEnd p => decide (p < 13)
  | .gclActivate p => decide (p < 13)
  | .macAgeing => true
  | .netLinkUp p rate _ => decide (p < 13 ∧ 1 ≤ rate ∧ rate ≤ 4)
  | .netLinkDown p => decide (p < 13)
  | .tc10Sleep p => decide (8 ≤ p ∧ p < 12)
  | .tc10Wake p _ => decide (8 ≤ p ∧ p < 12)
  | .netPdiagRun p => decide (p < 13)
  | .netPdiagDone p result dist => decide (p < 13 ∧ 1 ≤ result ∧ result ≤ 4 ∧ dist < 1024)
  | .sqiLow p sqi => decide (p < 13 ∧ sqi < 8)
  | .endpointDatagram _ => true
  | .sinkEnable x => decide (x < 3)
  | .sinkDisable x => decide (x < 3)
  | .sinkPiece x => decide (x < 3)
  | .sinkAgeExpire x => decide (x < 3)
  | .canFrameSeen n _ _ => decide (n < 12)
  | .canRxpop n => decide (n < 12)
  | .canTxpush n _ => decide (n < 12)
  | .canTxGo n _ => decide (n < 12)
  | .canFrameStart n => decide (n < 12)
  | .canTxDone n => decide (n < 12)
  | .canTokenRefill n => decide (n < 12)
  | .canDominantTimeout n => decide (n < 12)
  | .canPermitLoad n => decide (n < 12)
  | .canErrorState n st tec rec => decide (n < 12 ∧ st < 3 ∧ tec < 256 ∧ rec < 256)
  | .camPacketRx n _ _ _ _ => decide (n < 8)
  | .camLockChange n gear => decide (n < 8 ∧ gear < 6)
  | .camI2cGo n => decide (n < 8)
  | .camI2cDone n data _ => decide (n < 8 ∧ data < 256)
  | .dockPresent => true
  | .dockAbsent => true
  | .dockLaneUp l => decide (l < 8)
  | .dockLaneDown l => decide (l < 8)
  | .downloadDatagram _ l => decide (l < 8)
  | .dockDatagramRx l _ src port _ => decide (l < 8 ∧ src < 65536 ∧ port < 65536)
  | .dockPauseFrame l quanta => decide (l < 8 ∧ quanta < 65536)
  | .queuePop _ q => decide (q < 4)
  | .queuePush _ q _ => decide (q < 4)
  | .twinLaneUp l => decide (l < 2)
  | .twinHelloTimer => true
  | .twinHelloMiss l => decide (l < 2)
  | .twinRetryTimeout => true
  | .twinHelloRx l _ => decide (l < 2)
  | .twinMailboxRelayRx l _ => decide (l < 2)
  | .twinQueueDataRx l _ => decide (l < 2)
  | .twinTimeTransferTx => true
  | .twinTimeTransferRx l _ => decide (l < 2)
  | .twinPartnerIndexRx l _ => decide (l < 2)
  | .partnerIndexAdmit => true
  | .twinJoinFrameRx l _ => decide (l < 2)
  | .twinAcceptRx l _ => decide (l < 2)
  | .twinStateTx => true
  | .twinStateRx l _ => decide (l < 2)
  | .fpExchangeTimer => true
  | .twinFprintRx l _ _ => decide (l < 2)
  | .twinDelayRx l _ => decide (l < 2)
  | .twinPaircmdRx l _ => decide (l < 2)
  | .twinLeaveFrameRx l _ => decide (l < 2)
  | .twinJoinTimeout _ => true
  | .twinAttach => true
  | .syncFrameTx _ => true
  | .syncFrameRx _ _ => true
  | .syncWireUnlock _ => true
  | .syncProbe _ => true
  | .syncProbeAnswer => true
  | .syncProbeReturn _ => true
  | .mailboxFrameRx transport _ lane _ => decide (transport < 2 ∧ lane < 8)
  | .unknownCmd => true
  | .longCmdComplete _ => true
  | .sessionHello => true
  | .sessionOpen => true
  | .nonceExpire _ => true
  | .authBackoffEnd _ => true
  | .sessionIdleTimeout _ => true
  | .sessionClose => true
  | .ping => true
  | .identify partner => partner.length == 24
  | .certRead => true
  | .statusRead => true
  | .configApply => true
  | .configRead => true
  | .pstRead => true
  | .pstWrite => true
  | .keySet => true
  | .permitSet => true
  | .coreHold => true
  | .coreRelease => true
  | .progWrite => true
  | .wcsOpen => true
  | .wcsWrite => true
  | .wcsCommit => true
  | .logStart => true
  | .logStop => true
  | .sealNow => true
  | .annotate => true
  | .volList partner => partner.all fun e => e.length == 48
  | .volCreate => true
  | .volClose => true
  | .volDelete => true
  | .downloadStart => true
  | .downloadStop => true
  | .powerState => true
  | .moduleReset => true
  | .twinJoin => true
  | .twinLeave => true
  | .fwBegin => true
  | .fwData => true
  | .fwCommit => true
  | .fwStatus => true
  | .fwTrialConfirm _ => true
  | .pstWordWrite i _ => decide (i < 4096)
  | .fpPublish => true
  | .powerSample _ _ _ _ _ => true
  | .ignChange _ => true
  | .chargerPhaseChange _ _ => true
  | .capTest _ => true
  | .powerEntryDrained => true
  | .powerPrepTimeout => true
  | .basinStop => true
  | .basinStopTimeout => true
  | .powerEntryComplete => true
  | .wake src idx => decide (1 ≤ src ∧ src ≤ 6 ∧ idx < 16)
  | .brownout => true
  | .releaseStepDone _ _ => true
  | .trimLoad _ _ _ part stepping => decide ((part = 0x7240 ∨ part = 0x7220 ∨ part = 0x7210) ∧ 1 ≤ stepping ∧ stepping < 256)
  | .trimRetry _ _ _ part stepping => decide ((part = 0x7240 ∨ part = 0x7220 ∨ part = 0x7210) ∧ 1 ≤ stepping ∧ stepping < 256)
  | .trimFaultReport => true
  | .commitDrainDone => true
  | .watchdogKick _ => true
  | .watchdogExpire _ => true
  | .rstHeldWrite _ _ => true
  | .coreHoldDone k => decide (k < 64)
  | .rstBlockGo _ => true
  | .blockResetDone => true
  | .thermalGovernor _ _ _ => true
  | .nandThermalHold => true
  | .thermalTrip => true
  | .powerOn => true
  | .chargeResetDone n => decide (n < 16)
  | .coprocessorOpDone unit _ _ pos => decide (unit < 17 ∧ pos < 256)
  | .canLineFault n code => decide (n < 12 ∧ code < 4)
  | .gptpMessageTx port _ => decide (port < 13)

end Sys2Proof
end

