-- ==== Sys2Proof/Decode.lean ====
section
/-! DEFINITION. The command a word of the opcode table spells. The table of this block gives its rows no bits: a command is
a happening at the module's edge, not a word, so no word spells one. -/
namespace Sys2Proof

/-- The command that a word of nbits bits spells by the table's bits. -/
def decodeTableWord (_nbits _w : Nat) : Option Instr := none

end Sys2Proof
end

