-- ==== Sys2Proof/Config.lean ====
section
/-! DEFINITION. The free values of the model: what the spec leaves open or does not state. None has a body a proof could
see: a statement that holds, holds whatever they are. -/
namespace Sys2Proof

/-- The delivered code of a ratiometric input (04_acquisition.md R105): code times nominal over measured voltage; how the
quotient is rounded, and what a measured voltage of 0 gives, is not stated. -/
opaque Config.ratioCode : Int → Nat → Nat → Int

/-- The rate the servo's PI loop steers TIM_RATE to at a measurement (03_time_and_stamps.md R83): its gains are not stated,
only the limit of 500 ppm, which the model applies. -/
opaque Config.servoRate : Nat → Int

/-- The module's own clockAccuracy, offsetScaledLogVariance and clock identity in the BMCA (R85 names the standard). -/
opaque Config.ownClock : Nat × Nat × Nat

/-- A free value drawn by its number: a word read with an uncorrectable error and used as read
(14_attached_units.md R349). -/
opaque Config.freeWord : Nat → Nat

/-- Word i of the transform of N = 2^LOG complex points (14_attached_units.md R352): inverse or not, LOG, the input words.
The order of the passes and the twiddle rounding, and with them the low bits of the result, are not stated. -/
opaque Config.jetFft : Bool → Nat → List Nat → Nat → Nat

/-- The module's identity, loaded at trim (07_records.md R178). -/
opaque Config.unit : Nat

/-- Byte i of the module's Ed25519 public key (07_records.md R187): drawn at manufacture. -/
opaque Config.publicKey : Nat → Nat

/-- Byte i of the Ed25519 signature of a message under the module's private key, which never leaves the seal unit. -/
opaque Config.sealSignature : List Nat → Nat → Nat

/-- Whether 64 bytes are a valid Ed25519 signature of a message under the Finerux firmware public key
(17_steward_and_sessions.md R435). -/
opaque Config.firmwareSigned : List Nat → List Nat → Bool

/-- The module's device certificate (17_steward_and_sessions.md R430): its length, and byte i. -/
opaque Config.certSize : Nat
opaque Config.certByte : Nat → Nat

/-- Byte i of a key delivered with the module (17_steward_and_sessions.md R423): race key 0, service key 1. -/
opaque Config.keyAtManufacture : Nat → Nat → Nat

/-- The image in a firmware slot as delivered (17_steward_and_sessions.md R436): VERSION and ROLLBACK. -/
opaque Config.slotShipped : Nat → Nat × Nat

/-- Version of the steward ROM (21_reset.md R505). -/
opaque Config.romVersion : Nat

/-- Words of the persistent file as shipped (18_persistent_config.md R441): the firmware rollback counter. -/
opaque Config.rollbackAtManufacture : Nat

/-- What the words of the switch tables mean (16_networks.md R387, whose layout the spec does not give): the ports of a VLAN
as a 14-bit mask, 0 for a VLAN that is not active; the VLAN of an untagged frame on a port; the traffic class of a PCP; a
port's gate control list as gate masks and nanoseconds. -/
opaque Config.vlanPorts : List (Nat × Nat) → Nat → Nat
opaque Config.portVlan : List (Nat × Nat) → Nat → Nat
opaque Config.pcpClass : List (Nat × Nat) → Nat → Nat
opaque Config.gateEntries : List (Nat × Nat) → Nat → List (Nat × Nat)

/-- The module's link-local IPv6 address (16_networks.md R386). -/
opaque Config.linkLocal : Nat

end Sys2Proof
end

