-- ==== Sys2Proof/Machine/State.lean ====
section
/-! DEFINITION. The state of the module: everything the spec gives it, as plain data. `State` holds the queue of waiting
commands, the memory (one byte table over the 40-bit physical address map, 01_architecture.md R26) and `Units`: the
software-visible register fields and the internal state of every unit. -/
namespace Sys2Proof.Machine

/-- Access types of a register field (00_scope.md R9). so: SO outside the core-visible status subset; sov: SO within it;
wos: WO that only the steward writes; w1cs: W1C that only the steward clears. -/
inductive Acc where
  | rw | ro | wo | w1c | w1s | so | sov | wos | w1cs
  deriving DecidableEq, Repr

/-- One register field: the canonical address of its register, its lowest bit, its width, its access type, its reset
value, and the lowest and highest code a write may store (R11: a reserved code leaves the field unchanged). -/
structure Fld where
  addr : Nat
  lo : Nat
  w : Nat
  acc : Acc
  rst : Nat
  min : Nat
  max : Nat
  deriving DecidableEq, Repr

/-- The part codes of FAB_VARIANT.PART (R1, R2). -/
inductive Part where
  | swk7240 | swk7220 | swk7210
  deriving DecidableEq, Repr

/-- The attached-unit census (R2, R4): changed only by a trim and option load. -/
structure Census where
  part : Part := .swk7240
  stepping : Nat := 1
  deriving DecidableEq, Repr

/-- One rebase of the time base (03_time_and_stamps.md R79): from CD04 tick `tick` on, the accumulator stood at `acc`
units of 10^-12 ns and every tick adds 8 ns corrected by `rate` (units of 10^-12). -/
structure TBase where
  tick : Nat
  acc : Nat
  rate : Int
  deriving DecidableEq, Repr

/-- An event record on its way to the event controllers (13_events.md R333, R341): the four engines' angle words at its
time stamp are held with it, since each receiving filter selects its own base (R334). -/
structure EvRec where
  src : Nat
  kind : Nat
  pay : Nat
  time : Nat
  ang : List Nat
  deriving DecidableEq, Repr

/-- The output queue of one event source (R341): undelivered records, oldest first, and whether records were lost since
the last one delivered. -/
structure EvQueue where
  q : List EvRec := []
  lost : Bool := false
  deriving DecidableEq, Repr

/-- A stretch of an angle base's motion (02_angle_bases.md R57): from tick `start` on, the engine publishes the running
maximum of theta + w0 tau + a tau^2 / 2 (tau = t - t0), held at or below `cap` and at or above `floor`. Angles are
absolute counts: cycle times C plus the angle within the cycle. `full`: the angle word is valid; `crank`: ANG_CRANK is
valid. A still stretch has w0 = a = 0. -/
structure Seg where
  start : Nat
  theta : Int
  t0 : Int
  w0 : Rat
  a : Rat
  cap : Int
  floor : Int
  full : Bool
  crank : Bool
  deriving DecidableEq, Repr

/-- A schedule entry (R66, R67) with its index in the shadow bank. -/
structure SchedEntry where
  idx : Nat
  a : Nat
  b : Nat
  deriving DecidableEq, Repr

/-- The internal state of one angle engine. -/
structure AngEngine where
  /-- History of the published angle, newest first; the last 512 ticks are kept (R87). -/
  segs : List Seg := []
  /-- Dated tick of the last accepted edge. -/
  lastEdge : Option Int := none
  /-- Last accepted interval in ticks and the positions it spanned: the reference of R38. -/
  ref : Option (Nat × Nat) := none
  /-- Speed over the previous interval and that interval, for the acceleration term of R57. -/
  wPrev : Option (Rat × Nat) := none
  /-- Wheel position of the last accepted edge, once identified (R42). -/
  pos : Option Nat := none
  /-- Position of the identifying edge. -/
  identPos : Nat := 0
  /-- The confirmation of R43 is under way. -/
  confirming : Bool := false
  /-- Width of the first gap seen, and intervals classified as tooth since (R42). -/
  firstGap : Option (Nat × Nat) := none
  charges : Nat := 0
  seekEdges : Nat := 0
  /-- Absolute angle of the last accepted edge. -/
  absEdge : Int := 0
  /-- Revolutions named by cam edges seen during confirmation, oldest first (R46). -/
  camSeen : List Bool := []
  contraryRun : Nat := 0
  missingRun : Nat := 0
  cycContrary : Bool := false
  cycInside : Bool := false
  /-- The cycle in progress is the one in which FULL_SYNC was entered: it is not judged (R47). -/
  entryCycle : Bool := false
  /-- No FULL_SYNC has been entered since EN 0→1 (R45). -/
  fresh : Bool := true
  /-- CYCLE the angle word last held (R45). -/
  lastCycle : Nat := 0
  /-- Sync state held while STOPPED (R53): 3 CRANK_SYNC, 4 FULL_SYNC, 0 none. -/
  held : Nat := 0
  /-- Forward intervals still to come with classification suspended (R53). -/
  suspended : Nat := 0
  /-- Last edge was in reverse (R53). -/
  lastRev : Bool := false
  /-- Start tick of a tooth pulse whose end is awaited (DIR_MODE 1). -/
  pulseStart : Option Int := none
  /-- Shadow bank: words A and B by entry index. -/
  shadowA : SMap Nat := []
  shadowB : SMap Nat := []
  active : List SchedEntry := []
  inactive : List SchedEntry := []
  rejected : Nat := 0
  /-- A sort whose bank was withdrawn restarts; the sort in progress reads the shadow bank as copied at COMMIT. -/
  sorting : List SchedEntry := []
  /-- Next entry of the active bank to be examined, and the absolute cycle it is armed for (R72, R74). -/
  ptr : Nat := 0
  cyc : Int := 0
  /-- Hall state last seen (R64). -/
  hall : Nat := 0
  /-- Quadrature count (R65). -/
  encCount : Nat := 0
  /-- Resolver loop (R61): consecutive updates with error below 0.5 degrees, with the carrier outside 50-150 %, and with
  the carrier within 60-140 %. -/
  resLock : Nat := 0
  resBad : Nat := 0
  resGood : Nat := 0
  /-- Absolute angle at which the angle word last became valid (R74, 04_acquisition.md R114). -/
  validFrom : Int := 0
  /-- Last update of a follower's engine from the sync wire (19_twin_mode.md R465). -/
  slaveRef : Option (Int × Int) := none
  deriving DecidableEq, Repr

/-- One stage of a runnel (06_runnels.md R142, R143): data, tag as stored, and for a length slot whether it is filled. -/
structure RunWord where
  data : Nat
  tag : Nat
  filled : Bool := true
  deriving DecidableEq, Repr

/-- One runnel: its words from the output stage back (those past the 64th wait for a stage), the open packet, the
promises of R153 and the pending flush of R154. -/
structure Runnel where
  words : List RunWord := []
  /-- Data words of the open packet before its present segment. -/
  total : Nat := 0
  /-- The present segment is the packet's first. -/
  first : Bool := true
  cont : Bool := false
  /-- A pushed word of the present segment was lost (R147). -/
  damage : Bool := false
  /-- Requests raised and not yet used up: promised words left, and reads left in that burst. -/
  prom : List (Nat × Nat) := []
  /-- Words discarded so far by the flush in progress. -/
  flushed : Nat := 0
  /-- The oldest promised burst has begun (R155). -/
  burstOn : Bool := false
  /-- A pending flush with no packet of its own left open covers so many words (R154, R155). -/
  span : Option Nat := none
  deriving DecidableEq, Repr

/-- An item on its way to a runnel (04_acquisition.md R97 to R99): its own words, its stamps, its packet KIND, the MK 1
angle to write when it opens a packet, and what the packet boundary before and after it carries. -/
structure StreamItem where
  words : List Nat
  time : Nat
  angle : Nat
  kind : Nat
  nominal : Option Nat := none
  /-- Opens a new packet. -/
  fresh : Bool := false
  /-- The packet closes after it. -/
  last : Bool := false
  gap : Bool := false
  tstep : Bool := false
  deriving DecidableEq, Repr

/-- A conversion held and not yet converted: its tick, stamps, FLT, and for the angle clock the points skipped before it
and its point's nominal angle. -/
structure Hold where
  tick : Nat
  time : Nat
  angle : Nat
  flt : Bool := false
  skipped : Nat := 0
  nominal : Nat := 0
  fresh : Bool := false
  last : Bool := false
  deriving DecidableEq, Repr

/-- An angle-clock window in progress (R114): its absolute start, the next point, points skipped and not yet reported,
and whether a sample of it has been requested. -/
structure AclkWin where
  start : Int
  next : Nat
  skipped : Nat := 0
  began : Bool := false
  deriving DecidableEq, Repr

/-- One acquisition stream (R93). -/
structure Stream where
  /-- The runnel claimed at EN 0→1, held until the last packet has closed (R94). -/
  run : Nat := 0
  seq : Nat := 0
  /-- The elastic buffer (R99), oldest first. -/
  buf : List StreamItem := []
  /-- Digital groups: records ahead of the elastic buffer (R117). -/
  pre : List StreamItem := []
  /-- A packet is open in the runnel; its header time, words so far and KIND. -/
  openPkt : Bool := false
  pktTime : Nat := 0
  pktWords : Nat := 0
  pktKind : Nat := 0
  /-- EN went 1→0 with items still buffered. -/
  closing : Bool := false
  /-- Items discarded since the last one admitted. -/
  dropped : Nat := 0
  /-- Edges lost and not yet reported by a drop record (R117). -/
  lostEdges : Nat := 0
  /-- Stamps of the last of them. -/
  lostTime : Nat := 0
  lostAngle : Nat := 0
  /-- A time step took effect since the last item captured. -/
  stepped : Bool := false
  /-- A burst or window begins with the next item. -/
  lastHold : Option Nat := none
  lastGrid : Nat := 0
  /-- Time stamp of the last hold. -/
  lastTime : Nat := 0
  holds : List Hold := []
  /-- Requests of the schedule in flight to the block (R102). -/
  fly : Nat := 0
  ovr : Nat := 0
  /-- Decimator: scans taken of the present N, their sums, and the stamps of the first. -/
  decCount : Nat := 0
  decSum : List Int := []
  decTime : Nat := 0
  decAngle : Nat := 0
  burstLeft : Nat := 0
  win : Option AclkWin := none
  lastWin : Option Int := none
  /-- Absolute angle of the base at EN 0→1: angle-clock points before it were never the stream's. -/
  enAngle : Option Int := none
  /-- The charge integrator is being discharged (R111). -/
  creset : Bool := false
  deriving DecidableEq, Repr

/-- Measurement unit of a digital input (R118): times in ns of the last edges. -/
structure DinMeas where
  lastMedge : Option Nat := none
  period : Option Nat := none
  rise : Option Nat := none
  high : Option Nat := none
  deriving DecidableEq, Repr

/-- One excitation output: consecutive measurements above its LIMIT are one excursion (R122); in foldback; regulating at
its output contact because of a sense fault (R136). -/
structure ExcOut where
  isOver : Bool := false
  fold : Bool := false
  local_ : Bool := false
  deriving DecidableEq, Repr

/-- One trigger output (R124, R125, R138): tick of the last change of the driven level, the deferred level, and whether a
return to low is due and when. -/
structure TrgOut where
  lastChange : Option Nat := none
  deferred : Option Bool := none
  ret : Bool := false
  retAt : Nat := 0
  deriving DecidableEq, Repr

/-- Diagnosis of one contact (05_harness_guard.md R129, R131): codes reported (bit k: code k), consecutive scans that
found each code and that found it absent, and what the last open-wire test found. -/
structure Contact where
  rep : Nat := 0
  hits : List Nat := [0, 0, 0, 0, 0, 0, 0, 0]
  misses : List Nat := [0, 0, 0, 0, 0, 0, 0, 0]
  openWire : Bool := false
  deriving DecidableEq, Repr

/-- What leaves the module for the outside world. The model keeps it in order, newest last, so that a response or a frame
is part of the state (log entry 4). -/
inductive OutMsg where
  /-- A gPTP message on a port: kind (0 Sync, 1 Pdelay, 2 Announce), clockClass, priority1, priority2 (R85). -/
  | gptp (port kind cls prio1 prio2 : Nat)
  /-- A frame a switch port or the internal port sends: port, bytes. -/
  | ethFrame (port : Nat) (bytes : List Nat)
  /-- A CAN frame: channel, identifier, IDE, data. -/
  | canFrame (ch id : Nat) (ide : Bool) (data : List Nat)
  /-- A mailbox response: transport, where it goes, bytes. -/
  | mailbox (transport dst : Nat) (bytes : List Nat)
  /-- A download datagram: PATH (0 dock, 1 service port), lane, host address, destination UDP port, bytes. -/
  | datagram (path lane host port : Nat) (bytes : List Nat)
  /-- A dock queue datagram (16_networks.md R408): lane, host address, source and destination UDP ports, bytes. -/
  | dockData (lane host src dst : Nat) (bytes : List Nat)
  /-- A frame on a twin lane, header to CRC (16_networks.md R410). -/
  | twinFrame (lane : Nat) (bytes : List Nat)
  /-- The endpoint's answer to a neighbour solicitation, and to an echo request (R386). -/
  | neighbour (addr : Nat)
  | echoReply (dst addr : Nat) (bytes : List Nat)
  /-- A WUR on a TC10 port (R389). -/
  | wur (port : Nat)
  /-- An I2C transaction to a camera (R402): receiver, device, register, write, data. -/
  | i2c (n dev reg : Nat) (write : Bool) (data : Nat)
  /-- The probe symbol of the angle-sync wire (19_twin_mode.md R463). -/
  | syncProbe
  /-- A frame on the twin angle-sync wire. -/
  | syncFrame (bytes : List Nat)
  /-- The diagnostic datagram of a failed trim load (21_reset.md R505). -/
  | trimFault (bytes : List Nat)
  deriving DecidableEq, Repr

/-- The time base and RTC (03_time_and_stamps.md) beyond their registers. -/
structure TimeUnit where
  /-- Low half of the next TIM_STEP (R91). -/
  stepLo : Nat := 0
  /-- The pending step in ns (R81). -/
  pendStep : Int := 0
  /-- Latches of TIM_NOW_HI, by requester (R91). -/
  latch : SMap Nat := []
  /-- Time at which the echoes were last realigned (R80). -/
  echo : Nat := 0
  /-- Tick of the last accepted PPS edge, and the second the next one is assigned (R84, TIM_SEC). -/
  lastPps : Option Nat := none
  nextSec : Option Nat := none
  /-- Consecutive measurements below 100 ns (R83). -/
  good : Nat := 0
  /-- Last measured offset from the grandmaster, and link delays by port (R85). -/
  gmOffset : Int := 0
  pdelay : SMap Nat := []
  /-- Best Announce held, by port. -/
  announces : SMap (Option Announce) := []
  /-- RTC: whole time in 1/32,768 s at a tick, and that tick (R539). -/
  rtcBase : Nat := 0
  rtcTick : Nat := 0
  /-- Time steps that have taken effect (13_events.md R333, TSTEP). -/
  steps : Nat := 0
  deriving DecidableEq, Repr

/-- A pulse line (15_fabric_and_crossings.md R375): the count its request toggle carries while it crosses, whether the
receiver has taken it and answered, and the sender counter. -/
structure PulseLine where
  flight : Nat := 0
  taken : Bool := false
  ctr : Nat := 0
  deriving DecidableEq, Repr

/-- A clock domain's crossings (R378, R379): woken from STOPPED by a crossing, and accesses and pulses refused since the
last DORMANT event. -/
structure Domain where
  woken : Bool := false
  refused : Nat := 0
  deriving DecidableEq, Repr

/-- A request whose timer expired and whose target has not answered (R369): its destination port, and for a write its
address and bytes. -/
structure LateReq where
  port : Nat
  addr : Nat
  data : List Nat
  deriving DecidableEq, Repr

/-- A sluice burst waiting for a grant (09_reservoir.md R215): its channel, the region, the offset its destination ends
at, and whether the request has failed for lack of depth. -/
structure GrantWait where
  ch : Nat
  rgn : Nat
  end_ : Nat
  failed : Bool
  deriving DecidableEq, Repr

/-- A GAP record to come (07_records.md R174). -/
structure GapRecord where
  cause : Nat
  count : Nat
  tStart : Nat
  tEnd : Nat
  lastGseq : Nat
  deriving DecidableEq, Repr

/-- A refusal interval (R216): when it began, its last refusal, KiB refused, and the last GSEQ committed before it. -/
structure RefusalInterval where
  start : Nat
  last : Nat
  kib : Nat
  gseq : Nat
  deriving DecidableEq, Repr

/-- The weir beyond its registers. -/
structure Weir where
  waits : List GrantWait := []
  interval : Option RefusalInterval := none
  /-- Last result of WEIR_RGN_RESERVE, by 128 times the region plus the requester. -/
  results : SMap Nat := []
  /-- Grants and doorbells have ceased (R235 step 3). -/
  closed : Bool := false
  /-- HELD exceeded EDEPTH at the last update (R232). -/
  short : Bool := false
  gaps : List GapRecord := []
  deriving DecidableEq, Repr

/-- A dock or twin queue (16_networks.md R408): the received frames, each with its BYTES and its words not yet popped, the
frame being pushed, dock frames held by a PAUSE, and the host last heard from (lane, address). -/
structure XQueue where
  rx : List (Nat × List Nat) := []
  tx : List Nat := []
  held : List (List Nat) := []
  host : Option (Nat × Nat) := none
  /-- Tick of the last QUEUE_OVF. -/
  lastOvf : Option Nat := none
  deriving DecidableEq, Repr

/-- A twin frame sent and not acknowledged (R410): its lane is 2 while no lane is up. -/
structure TwinTx where
  seq : Nat
  type : Nat
  payload : List Nat
  lane : Nat
  tries : Nat := 0
  deriving DecidableEq, Repr

/-- The twin link's frame layer (R409, R410). -/
structure TwinLink where
  seq : Nat := 0
  /-- Highest SEQ received in order. -/
  acked : Nat := 65535
  unacked : List TwinTx := []
  /-- HELLOs missed in a row, by lane. -/
  missed : List Nat := [0, 0]
  /-- UNIT, PART, ROLE and PAIR_UNIT of the last HELLO. -/
  hello : Option (Nat × Nat × Nat × Nat) := none
  /-- SEQ of that HELLO. -/
  helloSeq : Nat := 0
  deriving DecidableEq, Repr

/-- An entry of a core's store buffer (11_pipeline_and_timing.md R281): D-space address, size and value, the physical
address and cacheability its aperture gave at issue (R286), and the word address of the store. -/
structure StoreEnt where
  addr : Nat
  size : Nat
  val : Nat
  phys : Nat
  /-- 0 uncached or not an aperture, 1 write-back, 2 write-through. -/
  attr : Nat
  pc : Nat
  deriving DecidableEq, Repr

/-- A line of a cache (R287): its physical address, its 64 bytes, and whether it is dirty. -/
structure CacheLine where
  line : Nat
  bytes : List Nat
  dirty : Bool
  deriving DecidableEq, Repr

/-- What a core waits for (R247, R346): the access or the unit operation an instruction has outstanding. Its operands
have left the stack. -/
inductive Pending where
  /-- A D-space load: address, size, signed, increment form, LR. -/
  | load (addr size : Nat) (signed inc lr : Bool)
  /-- IN or IORD. -/
  | ioRead (addr : Nat)
  /-- OUT or IOWR. -/
  | ioWrite (addr val : Nat)
  | ldi (w : Nat)
  | sti (i w : Nat)
  /-- An operation of an attached unit: the instruction word and its operands, top first. -/
  | cop (word : Nat) (ops : List Nat)
  deriving DecidableEq, Repr

/-- A repeat in progress (R268, R270): the address of its prefix, and whether it is a REPI. -/
structure Repeat where
  prefx : Nat
  intr : Bool
  deriving DecidableEq, Repr

/-- The micro-state of a routine at an interruption point (12_microcode.md R307): its instruction word, the microword to execute next, MT0 to MT3, MAR, MDR,
UC, ZR, NG, MRET; the depth D at entry; the checkpoint of the top K entries. -/
structure Micro where
  entry : Nat
  addr : Nat
  mt : List Nat := [0, 0, 0, 0]
  mar : Nat := 0
  mdr : Nat := 0
  uc : Nat := 0
  zr : Bool := false
  ng : Bool := false
  mret : Nat := 0
  depth : Nat
  k : Nat
  dorgen : Bool
  check : List Nat
  deriving DecidableEq, Repr

/-- A synchronous fast-class event raised and not yet entered (13_events.md R329, R330). -/
structure SyncEvent where
  kind : Nat
  pay : Nat
  /-- Raised when a store-buffer entry drained (R248). -/
  imprecise : Bool
  deriving DecidableEq, Repr

/-- A core beyond its registers (10_ehrel_isa.md R240). Stack lists hold the register-held entries, top first. -/
structure Cpu where
  pc : Nat := 0
  ns : List Nat := []
  nr : List Nat := []
  fs : List Nat := []
  fr : List Nat := []
  /-- Physical granule of the reservation (R265), and CORE_TOKS when it was placed. -/
  res : Option Nat := none
  sbuf : List StoreEnt := []
  acc : Option Pending := none
  rep : Option Repeat := none
  micro : Option Micro := none
  /-- Address of an instruction that may be the first of a pair (R284). -/
  pair : Option Nat := none
  /-- WAIT holds the core. -/
  waiting : Bool := false
  /-- Stopped by a double fault (13_events.md R332). -/
  stopped : Bool := false
  sync : Option SyncEvent := none
  dc : List CacheLine := []
  ic : List CacheLine := []
  /-- Records dropped since the last RING_OVF, and time steps seen by the last record, of the normal and the fast ring
  (13_events.md R333, R338). -/
  nDrops : Nat := 0
  fDrops : Nat := 0
  nSteps : Nat := 0
  fSteps : Nat := 0
  deriving DecidableEq, Repr


/-- Module-wide state of the cores: stopped by a holdup flush or a power-off (R483, R487); the steward stopped; a double
fault of the steward latched by always-on logic (13_events.md R332). -/
structure CoreGate where
  coresOff : Bool := false
  stwOff : Bool := false
  stwDf : Bool := false
  /-- Cores whose reset has been commanded and is not complete (21_reset.md R508). -/
  holding : List Nat := []
  deriving DecidableEq, Repr

/-- A write a sluice channel has issued (08_sluices.md R197). -/
structure SlcWrite where
  addr : Nat
  bytes : List Nat
  deriving DecidableEq, Repr

/-- A sluice channel beyond its registers (R192 to R204). -/
structure Sluice where
  shSrc : Nat := 0
  shDst : Nat := 0
  shCnt : Nat := 0
  /-- Bytes no read has been issued for, and bytes read since GO or RESUME (burst boundaries of INCR4 and FIX4). -/
  left : Nat := 0
  run : Nat := 0
  /-- Reads issued (address, size), oldest first; bytes held in the funnel; address of the next write; writes issued. -/
  reads : List (Nat × Nat) := []
  buf : List Nat := []
  wrAddr : Nat := 0
  writes : List SlcWrite := []
  /-- Units written in this transfer, with the word holding the last byte written there (R199). -/
  touched : List (Nat × Nat) := []
  backs : List Nat := []
  backsIssued : Bool := false
  /-- What DRAINING leads to: 1 PAUSED, 2 IDLE, 3 HALTED. -/
  drain : Nat := 0
  /-- An ABORT came while draining toward HALTED. -/
  abort : Bool := false
  /-- After an error: data of later reads is discarded; later writes no longer count. -/
  discard : Bool := false
  wfail : Bool := false
  /-- The oldest outstanding access timed out. -/
  timedOut : Bool := false
  deriving DecidableEq, Repr

/-- A basin's voltage controller (11_pipeline_and_timing.md R296 to R300): whether the monitor has read since the basin was
initialised, the calm count, consecutive updates of an overrun, and consecutive updates that would end it. -/
structure Volt where
  read : Bool := false
  calm : Nat := 0
  overs : Nat := 0
  under : Nat := 0
  deriving DecidableEq, Repr

/-- A writable control store (12_microcode.md R306, R322): microwords with their attributes (bits 22:0 as R322 writes
them), nanowords written since OPEN, and whether a check runs. -/
structure Wcs where
  micro : SMap Nat := []
  nano : SMap (Option Nat) := []
  checking : Bool := false
  deriving DecidableEq, Repr

/-- A commit group (07_records.md R178 to R184): its bytes from header to trailer, and what the module reads back from
them. -/
structure Group where
  gseq : Nat
  tMin : Nat
  tMax : Nat
  fprint : Nat
  fgen : Nat
  rcount : Nat
  /-- The first record is a SEAL. -/
  sealed : Bool
  hash : List Nat
  bytes : List Nat
  deriving DecidableEq, Repr

/-- A volume (R184, R185, 09_reservoir.md R210): its committed groups in order, and the state of the chain after its last
admission. -/
structure Volume where
  id : List Nat
  isOpen : Bool
  groups : List Group := []
  /-- GSEQ of the next group. -/
  next : Nat := 0
  hash : List Nat
  /-- FPRINT and FGEN of the last group admitted. -/
  lastFp : Option (Nat × Nat) := none
  /-- FIRST of the span in progress, and SSEQ of the next seal. -/
  first : Nat := 0
  sseq : Nat := 0
  /-- A span has ended: the next group leads with its seal. -/
  due : Bool := false
  /-- Log sessions begun on the volume (R167). -/
  sessions : Nat := 0
  /-- The next group leads with a FINGERPRINT record of cause 0. -/
  begun : Bool := false
  /-- Bytes of user capacity its groups and their padding take. -/
  used : Nat := 0
  deriving DecidableEq, Repr

/-- A group asked for: its volume, its records as posted, and what waits for it. -/
structure AdmReq where
  vol : List Nat
  recs : List (List Nat)
  host : Bool := false
  /-- The closing seal of a holdup flush stands alone (R185). -/
  alone : Bool := false
  token : Nat
  /-- A long command of the steward waits for it. -/
  cmd : Bool := false
  deriving DecidableEq, Repr

/-- A group admitted and not yet committed: the token of its request (0: none) and the stripe of its last byte. -/
structure Admitted where
  vol : List Nat
  group : Group
  token : Nat
  cmd : Bool
  stripe : Nat := 0
  /-- SSEQ of the seal it leads with. -/
  sseq : Nat := 0
  deriving DecidableEq, Repr

/-- A descriptor a ring has started and not yet written back (R221, R224): POST and FENCE wait for the commit of a token,
READ copies LEN bytes at OFFSET of group GSEQ to DST. -/
structure Desc where
  addr : Nat
  op : Nat
  evt : Bool
  tag : Nat
  token : Nat := 0
  status : Option Nat := none
  gseq : Nat := 0
  dst : Nat := 0
  len : Nat := 0
  off : Nat := 0
  deriving DecidableEq, Repr

/-- The reservoir (09_reservoir.md) beyond its registers. -/
structure Reservoir where
  vols : List Volume := []
  queue : List AdmReq := []
  /-- The group whose seal is being signed (R187). -/
  signing : Option Admitted := none
  adm : List Admitted := []
  /-- Last token given, and last token committed. -/
  lastTok : Nat := 0
  doneTok : Nat := 0
  /-- GSEQ of the groups long commands wait for, by token. -/
  done : List (Nat × Nat) := []
  /-- DONE offsets still to move, in admission order: region, bytes, token to wait for (R217). -/
  dones : List (Nat × Nat × Nat) := []
  ring : SMap (List Desc) := []
  /-- The open stripe, the bytes in it, and the stripes that are durable (R209). -/
  stripe : Nat := 0
  fill : Nat := 0
  durable : Nat := 0
  /-- Commits of the last 100 ms: tick and bytes. -/
  recent : List (Nat × Nat) := []
  /-- The next group is the first after start-up recovery. -/
  recovery : Bool := false
  /-- GAP cause of the next start, start of the last flush, first time base value of this start. -/
  gapCause : Nat := 0
  flushAt : Nat := 0
  startAt : Nat := 0
  /-- The follower's next group leads with a FINGERPRINT record of cause 2 (19_twin_mode.md R458). -/
  rejoin : Bool := false
  /-- Partner index entries not yet written, oldest first (19_twin_mode.md R470). -/
  index : List (List Nat) := []
  /-- Erase allowances, retired blocks, by die; dies retired; dies being rebuilt. -/
  allow : SMap Nat := []
  bad : SMap Nat := []
  dead : List Nat := []
  rebuilding : List Nat := []
  /-- Erase counts by 65,536 times the die plus the block; erases in progress; erases waiting for the cap. -/
  wear : SMap Nat := []
  erasing : List (Nat × Nat) := []
  waiting : List (Nat × Nat) := []
  /-- The erased pool in KiB. -/
  poolKib : Nat := 67108864
  /-- The NAND governor acts (22_connectors_electrical.md R532). -/
  nandHold : Bool := false
  deriving DecidableEq, Repr

/-- The persistent register file and the fingerprint (18_persistent_config.md). -/
structure Pst where
  /-- Words that differ from their value at manufacture, and writes performed on them. -/
  words : SMap (Option Nat) := []
  wear : SMap Nat := []
  /-- Publications since the steward firmware started (R448), and when the last was made. -/
  p : Nat := 0
  pubTime : Nat := 0
  /-- Instruction RAM and data RAM of each released core, as at its release (R446). -/
  released : SMap (Option (List Nat)) := []
  /-- Result of the last comparison made with the partner (R450). -/
  lastCmp : Option Bool := none
  deriving DecidableEq, Repr

/-- A frame's entry or a camera fragment on its way into a record sink (16_networks.md R392): SOURCE, stamp, angle word,
time steps seen at capture, the entry's bytes or the fragment's payload, and for a camera fragment its frame and record
flags. -/
structure Piece where
  src : Nat
  time : Nat
  angle : Nat
  steps : Nat
  bytes : List Nat
  frame : Nat := 0
  flags : Nat := 0
  deriving DecidableEq, Repr

/-- An open BUS_FRAME record: offset of its header in the region, LENGTH so far, bytes granted, SOURCE, TIME, ANGLE,
TSTEP. -/
structure OpenRec where
  off : Nat
  len : Nat
  granted : Nat
  src : Nat
  time : Nat
  angle : Nat
  tstep : Bool
  deriving DecidableEq, Repr

/-- A record sink (R391 to R395): pieces waiting, the open record, bytes made ready since the last SINK_READY, time steps
seen by each source, and whether SINK_FULL has been said. -/
structure Sink where
  pieces : List Piece := []
  opened : Option OpenRec := none
  ready : Nat := 0
  steps : SMap Nat := []
  full : Bool := false
  deriving DecidableEq, Repr

/-- A learned MAC address (R385): VLAN identifier, port, and the tick it was last seen. -/
structure MacEntry where
  mac : Nat
  vid : Nat
  port : Nat
  seen : Nat
  deriving DecidableEq, Repr

/-- A gate control list in force (R388): its entries as gate mask and nanoseconds, and the entry that runs. -/
structure GateList where
  entries : List (Nat × Nat) := []
  idx : Nat := 0
  deriving DecidableEq, Repr

/-- The Ethernet switch (R385 to R390). Queued frames are held by 8 times the egress port plus the traffic class. `tables`:
the words of the switch tables at offsets 0x8000 to 0xFFFF (R387). -/
structure Switch where
  macs : List MacEntry := []
  queues : SMap (List (List Nat)) := []
  gates : SMap GateList := []
  tables : SMap Nat := []
  /-- Ports whose SQI_LOW has been said. -/
  sqiSaid : List Nat := []
  deriving DecidableEq, Repr

/-- A CAN frame queued for transmission (R399). -/
structure CanTx where
  eflags : Nat
  id : Nat
  data : List Nat
  tag : Nat
  deriving DecidableEq, Repr

/-- A CAN channel (R397 to R401): receive FIFO entries as words, frames to transmit, words pushed of the next one, whether
the front frame is on the bus, guardian tokens, refusals since the last GUARD_REJECT, frames dropped since the last RX_OVF,
ticks of those events, a permit waiting for bus idle. -/
structure CanChan where
  rx : List (List Nat) := []
  tx : List CanTx := []
  push : List Nat := []
  started : Bool := false
  tokens : Nat := 0
  rejects : Nat := 0
  lastReject : Option Nat := none
  drops : Nat := 0
  lastOvf : Option Nat := none
  reload : Bool := false
  deriving DecidableEq, Repr

/-- A camera receiver (R402 to R404): FRAME, whether a frame is open and kept, its stamps, and the fragment being
filled. -/
structure CamRx where
  frame : Nat := 0
  inFrame : Bool := false
  kept : Bool := false
  time : Nat := 0
  angle : Nat := 0
  frag : Nat := 0
  stored : Nat := 0
  data : List Nat := []
  damage : Bool := false
  errSaid : Bool := false
  deriving DecidableEq, Repr

/-- A lane of a download stream (R407): the lane, the host's address, and the ranges it still has to send. -/
structure DownLane where
  lane : Nat
  host : Nat
  todo : List (Nat × Nat)
  deriving DecidableEq, Repr

/-- A download stream: STREAM, volume, OFFSET of the range in it, DPORT, PATH, lanes. -/
structure Download where
  num : Nat
  vol : List Nat
  off : Nat
  dport : Nat
  path : Nat
  lanes : List DownLane
  deriving DecidableEq, Repr


/-- A mailbox frame in the arrival queue (17_steward_and_sessions.md R418, R422): its transport (0 service port, 1 dock, 2
twin relay), where it came from, its fields, and the whole frame. -/
structure MbFrame where
  transport : Nat
  src : Nat
  lane : Nat
  partner : Bool
  mbox : Nat
  tag : Nat
  seq : Nat
  cmd : Nat
  payload : List Nat
  raw : List Nat
  deriving DecidableEq, Repr

/-- A mailbox of the session (R421): LAST, and the response, none while the command runs. -/
structure Mailbox where
  last : Nat
  response : Option (List Nat)
  deriving DecidableEq, Repr

/-- A long command that runs (R422): the frame, the token of the group it waits for, and values its response carries. -/
structure LongCmd where
  frame : MbFrame
  token : Option Nat := none
  vals : List Nat := []
  /-- Its session has ended: the response is discarded (R427). -/
  orphan : Bool := false
  /-- What the twin partner still owes: 0 nothing, 1 its ACCEPT; 2 it refused (19_twin_mode.md R469). -/
  peer : Nat := 0
  /-- What it acts on: 1 with a VOLUME_ID, 2 with a basin, 3 the firmware slots, 4 the power state, 5 the pair. -/
  res : List Nat := []
  deriving DecidableEq, Repr

/-- A firmware slot (R435, R436): VERSION and ROLLBACK of its image. -/
structure FwSlot where
  version : Nat
  rollback : Nat
  deriving DecidableEq, Repr

/-- The image being written: its size, its bytes by offset. -/
structure FwStage where
  size : Nat
  bytes : SMap (Option Nat) := []
  deriving DecidableEq, Repr

/-- Steward firmware (17_steward_and_sessions.md). -/
structure Steward where
  arrivals : List MbFrame := []
  tag : Nat := 0
  /-- The nonce held: KEYSEL and bytes. -/
  nonce : Option (Nat × List Nat) := none
  /-- Tick at which the nonce was drawn, and at which steward firmware started. -/
  nonceAt : Nat := 0
  bootAt : Nat := 0
  backoff : Bool := false
  /-- Tick at which the backoff began, and at which a frame with the current tag was last accepted. -/
  backAt : Nat := 0
  heard : Nat := 0
  boxes : SMap (Option Mailbox) := []
  longs : List LongCmd := []
  /-- Host address each dock lane last received a frame with the current tag from (R433). -/
  laneHost : SMap (Option Nat) := []
  nextStream : Nat := 1
  /-- Firmware slots whose image was written by FW_COMMIT; the pending slot; the staged image. -/
  slots : SMap (Option FwSlot) := []
  pending : Option Nat := none
  /-- The confirmed slot, and the tag of the last session. -/
  active : Nat := 0
  lastTag : Nat := 0
  stage : Option FwStage := none
  /-- The pending slot runs on trial, and the last trial fell back (R437). -/
  trial : Bool := false
  fellBack : Bool := false
  /-- Steward firmware runs: it has started, and no power state, flush or drain has stopped it. -/
  running : Bool := true
  deriving DecidableEq, Repr

/-- The twin pair beyond its registers (19_twin_mode.md): frame number, consecutive good and bad sync frames, tick of the
last HELLO of each lane, and what a join in progress waits for. -/
structure TwinPair where
  fseq : Nat := 0
  good : Nat := 0
  bad : Nat := 0
  lastSeq : Option Nat := none
  /-- Extended frame numbers and dated reference instants of recent sync frames. -/
  dated : List (Nat × Nat) := []
  /-- Reference instants of sent sync frames, by extended frame number: TAI time. -/
  sent : Option (Nat × Nat) := none
  /-- Engines this leader asked for, while JOIN is unanswered. -/
  asked : Option Nat := none
  /-- Tick at which the follower accepted. -/
  joinedAt : Nat := 0
  probe : Option Nat := none
  /-- Frames relayed to the follower whose responses have not come back (17_steward_and_sessions.md R434). -/
  relays : List MbFrame := []
  /-- The leader's tag that the follower's mailboxes belong to. -/
  ftag : Nat := 0
  /-- ACCEPT frames the follower owes, by the token of the group they wait for. -/
  owed : List Nat := []
  deriving DecidableEq, Repr

/-- A jet unit (14_attached_units.md R349): coefficients by 256 times the bank plus the position (18-bit patterns), and per
core the configuration word, the delay line (newest first; shorter lists end in zeros) and the decimation phase. -/
structure Jet where
  coef : SMap Nat := []
  cfg : SMap Nat := []
  delay : SMap (List Int) := []
  phase : SMap Nat := []
  deriving DecidableEq, Repr

/-- A shared unit (R345): the core it serves, and the core it served last. -/
structure CopUnit where
  cur : Option Nat := none
  last : Nat := 0
  deriving DecidableEq, Repr

/-- The chain of the open volume (07_records.md R184): the GSEQ of its last committed group, and that group's chain hash. -/
structure Chain where
  gseq : Option Nat := none
  hash : List Nat := []
  deriving DecidableEq, Repr

/-- Supply, power states, reset and thermal supervision beyond their registers (20_power.md, 21_reset.md,
22_connectors_electrical.md R531 to R533). -/
structure Power where
  /-- 0 awake; 2 Sleep; 3 Deep sleep; 4 Off; 5 no supply. -/
  down : Nat := 0
  /-- Target of the entry in progress (0: none), its stage (1 draining, 2 stopping basins), the basin step 3 has reached,
  and the mailbox of the command that began it. -/
  target : Nat := 0
  stage : Nat := 0
  next : Nat := 0
  mbox : Nat := 0
  /-- The first wake latched during an entry: source and index. -/
  latched : Option (Nat × Nat) := none
  /-- Tick at which Sleep was entered. -/
  sleptAt : Nat := 0
  /-- Domain states as they stood at entry to Sleep. -/
  doms : List Nat := []
  /-- Holdup flush: 0 none, 1 grace window, 2 after it; tick of declaration; groups committed before it, in bytes. -/
  flush : Nat := 0
  flushTick : Nat := 0
  flushBytes : Nat := 0
  /-- RST_CAUSE of the warm reset that a commit drain in progress leads to. -/
  drain : Option Nat := none
  /-- Acquisition, sinks, cameras and mirrors are stopped; front-ends, outputs, ports and lasers are off. -/
  acqOff : Bool := false
  frontOff : Bool := false
  /-- Non-volatile cause behind PWR_LASTOFF: how the running state ends if nothing more is written. -/
  lastOff : Nat := 0
  /-- First release step of this start; trim has been loaded; a failed load waits for its retry; trim fault and its
  cause; the release waits at step 2 for the base to cool. -/
  first : Nat := 1
  loaded : Bool := true
  trimWait : Bool := false
  trimFault : Nat := 0
  hot : Bool := false
  /-- Tick of the last watchdog kick. -/
  kicked : Nat := 0
  /-- Charge power taken away by the load limit, in mW, and samples in a row with the load 3 W below the limit. -/
  cut : Nat := 0
  calm : Nat := 0
  /-- TCODE and milliseconds at 115 degrees or below, by basin. -/
  tcode : SMap Nat := []
  cool : SMap Nat := []
  deriving DecidableEq, Repr

/-- The registers and the internal state of every unit of the module. -/
structure Units where
  census : Census := {}
  regs : SMap Nat := []
  clock : Nat := 0
  free : Nat := 0
  tbase : List TBase := []
  evq : SMap EvQueue := []
  ang : SMap AngEngine := []
  run : SMap Runnel := []
  reqFly : SMap Nat := []
  stream : SMap Stream := []
  dinMeas : SMap DinMeas := []
  exc : SMap ExcOut := []
  excHot : Nat := 0
  trg : SMap TrgOut := []
  trgQ : SMap (List (Nat × Nat)) := []
  contact : SMap Contact := []
  tim : TimeUnit := {}
  out : List OutMsg := []
  rdata : Nat := 0
  pulse : SMap PulseLine := []
  dom : SMap Domain := []
  late : List LateReq := []
  wdFly : SMap Nat := []
  weir : Weir := {}
  queue : SMap XQueue := []
  paused : Nat := 0
  twl : TwinLink := {}
  cpu : SMap Cpu := []
  gate : CoreGate := {}
  slc : SMap Sluice := []
  volt : SMap Volt := []
  wcs : SMap Wcs := []
  rsv : Reservoir := {}
  pst : Pst := {}
  sink : SMap Sink := []
  switch : Switch := {}
  can : SMap CanChan := []
  cam : SMap CamRx := []
  downs : List Download := []
  stw : Steward := {}
  pair : TwinPair := {}
  jet : SMap Jet := []
  pkcfg : SMap Nat := []
  cop : SMap CopUnit := []
  chain : Chain := {}
  pwr : Power := {}
  deriving DecidableEq, Repr

/-- The state of the module. `pending`: the commands waiting, first in, first out. `mem`: the bytes of the physical
address map that differ from what an unlisted byte reads as (R26; Machine/Ops.lean). -/
structure State where
  pending : List Instr := []
  mem : SMap Byte := []
  u : Units := {}
  deriving DecidableEq, Repr

/-- The reasons a command can stop the model. The module itself goes on through every error the spec describes. -/
inductive Fault where
  /-- Raised by a command whose operands name a unit, channel, bit or code the module does not have in any variant (an
  ill-formed command, WellFormed.lean): no sender can send it. Safe. -/
  | noSuchUnit
  deriving DecidableEq, Repr

/-- The reasons the model declines a command. -/
inductive Refusal where
  /-- The command has no meaning in the model yet. Safe: the machine would go on. -/
  | notModelled (mnemonic : String)
  deriving DecidableEq, Repr

/-- The module right after a power-on reset with every field at its After reset value, no command waiting and nothing
written to memory (21_reset.md). -/
def State.reset : State := {}

end Sys2Proof.Machine
end

