-- ==== Sys2Proof/Machine/Regs.lean ====
section
/-! DEFINITION. Every register field of the spec's register tables: where it stands (an address in the IO map of
01_architecture.md R20, core-local registers under 0x1_0000_0000 + 0x1000 k), its bits, its access type (00_scope.md R9),
its reset value and, where the table reserves codes that a write may not store, the codes it accepts. -/
namespace Sys2Proof.Machine

/-! Fields of 00_*.md R2. -/
def Reg.FAB_VARIANT.PART : Fld := ⟨0x1a0000, 16, 16, .ro, 0, 0, 0xffff⟩
def Reg.FAB_VARIANT.STEPPING : Fld := ⟨0x1a0000, 8, 8, .ro, 0, 0, 0xff⟩
def Reg.FAB_PRESENT0.BASIN : Fld := ⟨0x1a0004, 0, 8, .ro, 0, 0, 0xff⟩
def Reg.FAB_PRESENT0.JET : Fld := ⟨0x1a0004, 8, 8, .ro, 0, 0, 0xff⟩
def Reg.FAB_PRESENT0.PACKER : Fld := ⟨0x1a0004, 16, 8, .ro, 0, 0, 0xff⟩
def Reg.FAB_PRESENT0.SEAL : Fld := ⟨0x1a0004, 24, 1, .ro, 0, 0, 1⟩
def Reg.FAB_PRESENT1.XPORT : Fld := ⟨0x1a0008, 0, 8, .ro, 0, 0, 0xff⟩
def Reg.FAB_PRESENT1.GPORT : Fld := ⟨0x1a0008, 8, 4, .ro, 0, 0, 0xf⟩
def Reg.FAB_PRESENT1.CAM : Fld := ⟨0x1a0008, 12, 8, .ro, 0, 0, 0xff⟩
def Reg.FAB_PRESENT1.DOCK : Fld := ⟨0x1a0008, 20, 8, .ro, 0, 0, 0xff⟩
def Reg.FAB_PRESENT1.TWIN : Fld := ⟨0x1a0008, 28, 1, .ro, 0, 0, 1⟩
/-! Fields of 02_*.md R78. -/
def Reg.ANG_CTRL.EN (n : Nat) : Fld := ⟨0x100000 + 0x1000 * n, 0, 1, .rw, 0, 0, 1⟩
def Reg.ANG_CTRL.MODE (n : Nat) : Fld := ⟨0x100000 + 0x1000 * n, 1, 3, .rw, 0, 0, 4⟩
def Reg.ANG_CTRL.CYCLE (n : Nat) : Fld := ⟨0x100000 + 0x1000 * n, 4, 1, .rw, 0, 0, 1⟩
def Reg.ANG_CTRL.ACC_EN (n : Nat) : Fld := ⟨0x100000 + 0x1000 * n, 5, 1, .rw, 1, 0, 1⟩
def Reg.ANG_CTRL.REARM (n : Nat) : Fld := ⟨0x100000 + 0x1000 * n, 6, 1, .rw, 0, 0, 1⟩
def Reg.ANG_CTRL.RESYNC (n : Nat) : Fld := ⟨0x100000 + 0x1000 * n, 7, 1, .wo, 0, 0, 1⟩
def Reg.ANG_STATUS.STATE (n : Nat) : Fld := ⟨0x100000 + 0x1000 * n + 4, 0, 4, .ro, 0, 0, 0xf⟩
def Reg.ANG_STATUS.REV (n : Nat) : Fld := ⟨0x100000 + 0x1000 * n + 4, 4, 1, .ro, 0, 0, 1⟩
def Reg.ANG_STATUS.CAMVALID (n : Nat) : Fld := ⟨0x100000 + 0x1000 * n + 4, 5, 1, .ro, 0, 0, 1⟩
def Reg.ANG_STATUS.CFG_ERR (n : Nat) : Fld := ⟨0x100000 + 0x1000 * n + 4, 6, 1, .ro, 0, 0, 1⟩
def Reg.ANG_STATUS.BANK (n : Nat) : Fld := ⟨0x100000 + 0x1000 * n + 4, 7, 1, .ro, 0, 0, 1⟩
def Reg.ANG_STATUS.BUSY (n : Nat) : Fld := ⟨0x100000 + 0x1000 * n + 4, 8, 1, .ro, 0, 0, 1⟩
def Reg.ANG_STATUS.PENDING (n : Nat) : Fld := ⟨0x100000 + 0x1000 * n + 4, 9, 1, .ro, 0, 0, 1⟩
def Reg.ANG_STATUS.SCHED_ERR (n : Nat) : Fld := ⟨0x100000 + 0x1000 * n + 4, 10, 1, .w1c, 0, 0, 1⟩
def Reg.ANG_STATUS.WR_BUSY (n : Nat) : Fld := ⟨0x100000 + 0x1000 * n + 4, 11, 1, .w1c, 0, 0, 1⟩
def Reg.ANG_STATUS.OVERSPEED (n : Nat) : Fld := ⟨0x100000 + 0x1000 * n + 4, 12, 1, .w1c, 0, 0, 1⟩
def Reg.ANG_STATUS.CFG_CODE (n : Nat) : Fld := ⟨0x100000 + 0x1000 * n + 4, 16, 4, .ro, 0, 0, 0xf⟩
def Reg.ANG_WORD.WORD (n : Nat) : Fld := ⟨0x100000 + 0x1000 * n + 8, 0, 32, .ro, 0xffffffff, 0, 0xffffffff⟩
def Reg.ANG_CRANK.ANGLE (n : Nat) : Fld := ⟨0x100000 + 0x1000 * n + 0xc, 0, 20, .ro, 0, 0, 0xfffff⟩
def Reg.ANG_CRANK.VALID (n : Nat) : Fld := ⟨0x100000 + 0x1000 * n + 0xc, 31, 1, .ro, 0, 0, 1⟩
def Reg.ANG_SPEED.SPEED (n : Nat) : Fld := ⟨0x100000 + 0x1000 * n + 0x10, 0, 24, .ro, 0, 0, 0xffffff⟩
def Reg.ANG_ACCEL.ACCEL (n : Nat) : Fld := ⟨0x100000 + 0x1000 * n + 0x14, 0, 32, .ro, 0, 0, 0xffffffff⟩
def Reg.ANG_PERIOD.TICKS (n : Nat) : Fld := ⟨0x100000 + 0x1000 * n + 0x18, 0, 32, .ro, 0xffffffff, 0, 0xffffffff⟩
def Reg.ANG_SRC.TOOTH (n : Nat) : Fld := ⟨0x100000 + 0x1000 * n + 0x20, 0, 6, .rw, 0, 0, 0x3f⟩
def Reg.ANG_SRC.TEDGE (n : Nat) : Fld := ⟨0x100000 + 0x1000 * n + 0x20, 6, 1, .rw, 0, 0, 1⟩
def Reg.ANG_SRC.CAM (n : Nat) : Fld := ⟨0x100000 + 0x1000 * n + 0x20, 8, 6, .rw, 1, 0, 0x3f⟩
def Reg.ANG_SRC.CEDGE (n : Nat) : Fld := ⟨0x100000 + 0x1000 * n + 0x20, 14, 1, .rw, 0, 0, 1⟩
def Reg.ANG_SRC.CAM_EN (n : Nat) : Fld := ⟨0x100000 + 0x1000 * n + 0x20, 15, 1, .rw, 0, 0, 1⟩
def Reg.ANG_SRC.DIR (n : Nat) : Fld := ⟨0x100000 + 0x1000 * n + 0x20, 16, 6, .rw, 2, 0, 0x3f⟩
def Reg.ANG_SRC.DIR_MODE (n : Nat) : Fld := ⟨0x100000 + 0x1000 * n + 0x20, 22, 2, .rw, 0, 0, 2⟩
def Reg.ANG_SRC.DIR_PW (n : Nat) : Fld := ⟨0x100000 + 0x1000 * n + 0x20, 24, 8, .rw, 0x3c, 0, 0xff⟩
def Reg.ANG_WHEEL_CFG.POSITIONS (n : Nat) : Fld := ⟨0x100000 + 0x1000 * n + 0x24, 0, 9, .rw, 0, 0, 0x1ff⟩
def Reg.ANG_WHEEL_CFG.SPAN (n : Nat) : Fld := ⟨0x100000 + 0x1000 * n + 0x24, 9, 1, .rw, 0, 0, 1⟩
def Reg.ANG_WHEEL_CFG.CONFIRM (n : Nat) : Fld := ⟨0x100000 + 0x1000 * n + 0x24, 10, 1, .rw, 1, 0, 1⟩
def Reg.ANG_WHEEL_CFG.SYNC_TOL (n : Nat) : Fld := ⟨0x100000 + 0x1000 * n + 0x24, 11, 3, .rw, 0, 0, 7⟩
def Reg.ANG_WHEEL_CFG.GAPS (n : Nat) : Fld := ⟨0x100000 + 0x1000 * n + 0x24, 16, 3, .ro, 0, 0, 7⟩
def Reg.ANG_OFFSET.OFFSET (n : Nat) : Fld := ⟨0x100000 + 0x1000 * n + 0x28, 0, 20, .rw, 0, 0, 0xfffff⟩
def Reg.ANG_RATIO.TOOTH_LO (n : Nat) : Fld := ⟨0x100000 + 0x1000 * n + 0x2c, 0, 8, .rw, 8, 0, 0xff⟩
def Reg.ANG_RATIO.TOOTH_HI (n : Nat) : Fld := ⟨0x100000 + 0x1000 * n + 0x2c, 8, 8, .rw, 0x18, 0, 0xff⟩
def Reg.ANG_RATIO.GAP_LO (n : Nat) : Fld := ⟨0x100000 + 0x1000 * n + 0x2c, 16, 8, .rw, 0xc, 0, 0xff⟩
def Reg.ANG_RATIO.GAP_HI (n : Nat) : Fld := ⟨0x100000 + 0x1000 * n + 0x2c, 24, 8, .rw, 0x18, 0, 0xff⟩
def Reg.ANG_CAM_LO.ANGLE (n : Nat) : Fld := ⟨0x100000 + 0x1000 * n + 0x30, 0, 20, .rw, 0, 0, 0xfffff⟩
def Reg.ANG_CAM_HI.ANGLE (n : Nat) : Fld := ⟨0x100000 + 0x1000 * n + 0x34, 0, 20, .rw, 0, 0, 0xfffff⟩
def Reg.ANG_CAM_CFG.VOTE (n : Nat) : Fld := ⟨0x100000 + 0x1000 * n + 0x38, 0, 3, .rw, 2, 0, 7⟩
def Reg.ANG_CAM_CFG.MISS_LIMIT (n : Nat) : Fld := ⟨0x100000 + 0x1000 * n + 0x38, 4, 4, .rw, 4, 0, 0xf⟩
def Reg.ANG_CAMPHASE.ANGLE (n : Nat) : Fld := ⟨0x100000 + 0x1000 * n + 0x3c, 0, 20, .ro, 0, 0, 0xfffff⟩
def Reg.ANG_CAMPHASE.VALID (n : Nat) : Fld := ⟨0x100000 + 0x1000 * n + 0x3c, 31, 1, .ro, 0, 0, 1⟩
def Reg.ANG_STALL.STALL (n : Nat) : Fld := ⟨0x100000 + 0x1000 * n + 0x40, 0, 16, .rw, 0x7d0, 0, 0xffff⟩
def Reg.ANG_STALL.MIN_RPM (n : Nat) : Fld := ⟨0x100000 + 0x1000 * n + 0x40, 16, 16, .rw, 0x28, 0, 0xffff⟩
def Reg.ANG_RES_CFG.SEL (n : Nat) : Fld := ⟨0x100000 + 0x1000 * n + 0x50, 0, 2, .rw, 0, 0, 3⟩
def Reg.ANG_RES_CFG.FREQ (n : Nat) : Fld := ⟨0x100000 + 0x1000 * n + 0x50, 3, 5, .rw, 6, 0, 0x1f⟩
def Reg.ANG_RES_CFG.AMP (n : Nat) : Fld := ⟨0x100000 + 0x1000 * n + 0x50, 8, 4, .rw, 4, 0, 0xf⟩
def Reg.ANG_RES_CFG.FN (n : Nat) : Fld := ⟨0x100000 + 0x1000 * n + 0x50, 12, 3, .rw, 3, 0, 7⟩
def Reg.ANG_RES_STATUS.AMPL (n : Nat) : Fld := ⟨0x100000 + 0x1000 * n + 0x54, 0, 8, .ro, 0, 0, 0xff⟩
def Reg.ANG_RES_STATUS.LOCK (n : Nat) : Fld := ⟨0x100000 + 0x1000 * n + 0x54, 8, 1, .ro, 0, 0, 1⟩
def Reg.ANG_ENC_CFG.LINES (n : Nat) : Fld := ⟨0x100000 + 0x1000 * n + 0x58, 0, 15, .rw, 0, 0, 0x7fff⟩
def Reg.ANG_MOFFSET.OFFSET (n : Nat) : Fld := ⟨0x100000 + 0x1000 * n + 0x64, 0, 20, .rw, 0, 0, 0xfffff⟩
def Reg.ANG_SCHED_CTRL.COMMIT (n : Nat) : Fld := ⟨0x100000 + 0x1000 * n + 0x70, 0, 1, .wo, 0, 0, 1⟩
def Reg.ANG_SCHED_IDX.INDEX (n : Nat) : Fld := ⟨0x100000 + 0x1000 * n + 0x74, 0, 9, .rw, 0, 0, 0x1ff⟩
def Reg.ANG_SCHED_IDX.AUTOINC (n : Nat) : Fld := ⟨0x100000 + 0x1000 * n + 0x74, 31, 1, .rw, 0, 0, 1⟩
def Reg.ANG_SCHED_A.WORD (n : Nat) : Fld := ⟨0x100000 + 0x1000 * n + 0x78, 0, 32, .rw, 0, 0, 0xffffffff⟩
def Reg.ANG_SCHED_B.WORD (n : Nat) : Fld := ⟨0x100000 + 0x1000 * n + 0x7c, 0, 32, .rw, 0, 0, 0xffffffff⟩
def Reg.ANG_SYNCSEQ.SEQ (n : Nat) : Fld := ⟨0x100000 + 0x1000 * n + 0xac, 0, 16, .ro, 0, 0, 0xffff⟩
/-! Fields of 03_*.md R91. -/
def Reg.TIM_CTRL.SRC : Fld := ⟨0x110000, 0, 3, .sov, 0, 0, 4⟩
def Reg.TIM_CTRL.BACKSTEP : Fld := ⟨0x110000, 3, 1, .sov, 0, 0, 1⟩
def Reg.TIM_CTRL.STEP_LIMIT : Fld := ⟨0x110000, 8, 8, .sov, 0xa, 0, 0xff⟩
def Reg.TIM_STATUS.ACTIVE : Fld := ⟨0x110004, 0, 3, .ro, 6, 0, 7⟩
def Reg.TIM_STATUS.LOCK : Fld := ⟨0x110004, 3, 1, .ro, 0, 0, 1⟩
def Reg.TIM_STATUS.SEC_VALID : Fld := ⟨0x110004, 4, 1, .ro, 0, 0, 1⟩
def Reg.TIM_STATUS.RTC_VALID : Fld := ⟨0x110004, 5, 1, .ro, 0, 0, 1⟩
def Reg.TIM_STATUS.STEP_PEND : Fld := ⟨0x110004, 6, 1, .ro, 0, 0, 1⟩
def Reg.TIM_STATUS.GM : Fld := ⟨0x110004, 7, 1, .ro, 0, 0, 1⟩
def Reg.TIM_RATE.RATE : Fld := ⟨0x110010, 0, 32, .sov, 0, 0, 0xffffffff⟩
def Reg.TIM_UTC.OFFSET : Fld := ⟨0x11001c, 0, 16, .sov, 0, 0, 0xffff⟩
def Reg.TIM_UTC.VALID : Fld := ⟨0x11001c, 16, 1, .sov, 0, 0, 1⟩
def Reg.TIM_PPS_CFG.EDGE : Fld := ⟨0x110020, 0, 1, .sov, 0, 0, 1⟩
def Reg.TIM_PPS_CFG.EN : Fld := ⟨0x110020, 1, 1, .sov, 0, 0, 1⟩
def Reg.TIM_PPS_CFG.CABLE : Fld := ⟨0x110020, 8, 16, .sov, 0, 0, 0xffff⟩
def Reg.TIM_SEC.SEC : Fld := ⟨0x110024, 0, 32, .sov, 0, 0, 0xffffffff⟩
def Reg.TIM_PPS_OFFSET.NS : Fld := ⟨0x110028, 0, 32, .ro, 0, 0, 0xffffffff⟩
def Reg.TIM_GPTP_CFG.ROLE : Fld := ⟨0x110030, 0, 2, .sov, 0, 0, 3⟩
def Reg.TIM_GPTP_CFG.PORT : Fld := ⟨0x110030, 4, 4, .sov, 0, 0, 0xc⟩
def Reg.TIM_GPTP_CFG.PRIORITY1 : Fld := ⟨0x110030, 8, 8, .sov, 0xf8, 0, 0xff⟩
def Reg.TIM_GPTP_CFG.PRIORITY2 : Fld := ⟨0x110030, 16, 8, .sov, 0xf8, 0, 0xff⟩
def Reg.TIM_GPTP_STATUS.SLAVE_PORT : Fld := ⟨0x110034, 0, 4, .ro, 0xf, 0, 0xf⟩
def Reg.TIM_GPTP_STATUS.SYNCED : Fld := ⟨0x110034, 4, 1, .ro, 0, 0, 1⟩
def Reg.TIM_GPTP_STATUS.GM_CLASS : Fld := ⟨0x110034, 8, 8, .ro, 0, 0, 0xff⟩
def Reg.TIM_GPTP_STATUS.OFFSET : Fld := ⟨0x110034, 16, 16, .ro, 0, 0, 0xffff⟩
def Reg.TIM_RTC_SEC.SEC : Fld := ⟨0x110040, 0, 32, .ro, 0, 0, 0xffffffff⟩
def Reg.TIM_RTC_ALARM.SEC : Fld := ⟨0x110044, 0, 32, .sov, 0, 0, 0xffffffff⟩
/-! Fields of 04_*.md R110. -/
def Reg.AIN_CH.EN (n : Nat) : Fld := ⟨0x120000 + 4 * n, 0, 1, .rw, 0, 0, 1⟩
def Reg.AIN_CH.GROUP (n : Nat) : Fld := ⟨0x120000 + 4 * n, 1, 5, .rw, 0, 0, 0x1f⟩
def Reg.AIN_CH.RANGE (n : Nat) : Fld := ⟨0x120000 + 4 * n, 6, 3, .rw, 0, 0, 6⟩
def Reg.AIN_CH.FILTER (n : Nat) : Fld := ⟨0x120000 + 4 * n, 9, 2, .rw, 0, 0, 3⟩
def Reg.AIN_CH.RATIO (n : Nat) : Fld := ⟨0x120000 + 4 * n, 11, 4, .rw, 0, 0, 8⟩
def Reg.AIN_LAST.CODE (n : Nat) : Fld := ⟨0x120000 + 4 * n + 0x200, 0, 16, .ro, 0, 0, 0xffff⟩
def Reg.AIN_GCFG.EN (g : Nat) : Fld := ⟨0x120800 + 0x20 * g, 0, 1, .rw, 0, 0, 1⟩
def Reg.AIN_GCFG.TRIG (g : Nat) : Fld := ⟨0x120800 + 0x20 * g, 1, 3, .rw, 0, 0, 3⟩
def Reg.AIN_GCFG.TDIN (g : Nat) : Fld := ⟨0x120800 + 0x20 * g, 4, 6, .rw, 0, 0, 0x3f⟩
def Reg.AIN_GCFG.TEDGE (g : Nat) : Fld := ⟨0x120800 + 0x20 * g, 10, 1, .rw, 0, 0, 1⟩
def Reg.AIN_GCFG.STAMP (g : Nat) : Fld := ⟨0x120800 + 0x20 * g, 11, 1, .rw, 0, 0, 1⟩
def Reg.AIN_GCFG.DECIM (g : Nat) : Fld := ⟨0x120800 + 0x20 * g, 12, 8, .rw, 0, 0, 0xff⟩
def Reg.AIN_GCFG.DMODE (g : Nat) : Fld := ⟨0x120800 + 0x20 * g, 20, 1, .rw, 0, 0, 1⟩
def Reg.AIN_GPERIOD.NS (g : Nat) : Fld := ⟨0x120800 + 0x20 * g + 8, 0, 32, .rw, 0x3e8, 0, 0xffffffff⟩
def Reg.AIN_GPHASE.NS (g : Nat) : Fld := ⟨0x120800 + 0x20 * g + 0xc, 0, 32, .rw, 0, 0, 0xffffffff⟩
def Reg.AIN_GGO.GO (g : Nat) : Fld := ⟨0x120800 + 0x20 * g + 0x10, 0, 1, .wo, 0, 0, 1⟩
def Reg.AIN_GSTATUS.CFG_CODE (g : Nat) : Fld := ⟨0x120800 + 0x20 * g + 0x14, 0, 4, .ro, 0, 0, 0xf⟩
def Reg.AIN_GSTATUS.ACTIVE (g : Nat) : Fld := ⟨0x120800 + 0x20 * g + 0x14, 4, 1, .ro, 0, 0, 1⟩
def Reg.AIN_GSTATUS.SEQ (g : Nat) : Fld := ⟨0x120800 + 0x20 * g + 0x14, 16, 16, .ro, 0, 0, 0xffff⟩
/-! Fields of 04_*.md R114. -/
def Reg.FIN_CFG.EN (n : Nat) : Fld := ⟨0x124000 + 0x40 * n, 0, 1, .rw, 0, 0, 1⟩
def Reg.FIN_CFG.FE (n : Nat) : Fld := ⟨0x124000 + 0x40 * n, 1, 2, .rw, 0, 0, 2⟩
def Reg.FIN_CFG.RANGE (n : Nat) : Fld := ⟨0x124000 + 0x40 * n, 3, 3, .rw, 0, 0, 2⟩
def Reg.FIN_CFG.FILTER (n : Nat) : Fld := ⟨0x124000 + 0x40 * n, 6, 2, .rw, 0, 0, 3⟩
def Reg.FIN_CFG.TC (n : Nat) : Fld := ⟨0x124000 + 0x40 * n, 8, 1, .rw, 0, 0, 1⟩
def Reg.FIN_CFG.TRIG (n : Nat) : Fld := ⟨0x124000 + 0x40 * n, 9, 3, .rw, 0, 0, 4⟩
def Reg.FIN_CFG.STAMP (n : Nat) : Fld := ⟨0x124000 + 0x40 * n, 12, 1, .rw, 0, 0, 1⟩
def Reg.FIN_PERIOD.NS (n : Nat) : Fld := ⟨0x124000 + 0x40 * n + 8, 0, 32, .rw, 0xfa, 0, 0xffffffff⟩
def Reg.FIN_PHASE.NS (n : Nat) : Fld := ⟨0x124000 + 0x40 * n + 0xc, 0, 32, .rw, 0, 0, 0xffffffff⟩
def Reg.FIN_STEP.AC (n : Nat) : Fld := ⟨0x124000 + 0x40 * n + 0x10, 0, 16, .rw, 0x400, 0, 0xffff⟩
def Reg.FIN_BURST.COUNT (n : Nat) : Fld := ⟨0x124000 + 0x40 * n + 0x1c, 0, 16, .rw, 1, 0, 0xffff⟩
def Reg.FIN_GO.GO (n : Nat) : Fld := ⟨0x124000 + 0x40 * n + 0x20, 0, 1, .wo, 0, 0, 1⟩
def Reg.FIN_GO.CRESET (n : Nat) : Fld := ⟨0x124000 + 0x40 * n + 0x20, 1, 1, .wo, 0, 0, 1⟩
def Reg.FIN_STATUS.CFG_CODE (n : Nat) : Fld := ⟨0x124000 + 0x40 * n + 0x24, 0, 4, .ro, 0, 0, 0xf⟩
def Reg.FIN_STATUS.ACTIVE (n : Nat) : Fld := ⟨0x124000 + 0x40 * n + 0x24, 4, 1, .ro, 0, 0, 1⟩
def Reg.FIN_STATUS.ACLK_LOST (n : Nat) : Fld := ⟨0x124000 + 0x40 * n + 0x24, 5, 1, .w1c, 0, 0, 1⟩
def Reg.FIN_STATUS.SEQ (n : Nat) : Fld := ⟨0x124000 + 0x40 * n + 0x24, 16, 16, .ro, 0, 0, 0xffff⟩
def Reg.FIN_LAST.WORD (n : Nat) : Fld := ⟨0x124000 + 0x40 * n + 0x28, 0, 32, .ro, 0, 0, 0xffffffff⟩
/-! Fields of 04_*.md R119. -/
def Reg.DIN_CFG.EN (n : Nat) : Fld := ⟨0x126000 + 0x10 * n, 0, 1, .rw, 0, 0, 1⟩
def Reg.DIN_CFG.COND (n : Nat) : Fld := ⟨0x126000 + 0x10 * n, 1, 2, .rw, 0, 0, 1⟩
def Reg.DIN_CFG.THRESH (n : Nat) : Fld := ⟨0x126000 + 0x10 * n, 3, 3, .rw, 2, 0, 5⟩
def Reg.DIN_CFG.ARM (n : Nat) : Fld := ⟨0x126000 + 0x10 * n, 6, 2, .rw, 2, 0, 3⟩
def Reg.DIN_CFG.FILT (n : Nat) : Fld := ⟨0x126000 + 0x10 * n, 8, 6, .rw, 2, 0, 0x3f⟩
def Reg.DIN_CFG.LOG (n : Nat) : Fld := ⟨0x126000 + 0x10 * n, 14, 2, .rw, 0, 0, 3⟩
def Reg.DIN_CFG.MEAS (n : Nat) : Fld := ⟨0x126000 + 0x10 * n, 16, 3, .rw, 0, 0, 4⟩
def Reg.DIN_CFG.MEDGE (n : Nat) : Fld := ⟨0x126000 + 0x10 * n, 19, 1, .rw, 0, 0, 1⟩
def Reg.DIN_CFG.PULL (n : Nat) : Fld := ⟨0x126000 + 0x10 * n, 20, 1, .rw, 0, 0, 1⟩
def Reg.DIN_MEAS.VALUE (n : Nat) : Fld := ⟨0x126000 + 0x10 * n + 4, 0, 32, .ro, 0xffffffff, 0, 0xffffffff⟩
def Reg.DIN_COUNT.COUNT (n : Nat) : Fld := ⟨0x126000 + 0x10 * n + 8, 0, 32, .ro, 0, 0, 0xffffffff⟩
def Reg.DIN_LEVEL0.LEVEL : Fld := ⟨0x126400, 0, 32, .ro, 0, 0, 0xffffffff⟩
def Reg.DIN_LEVEL1.LEVEL : Fld := ⟨0x126404, 0, 16, .ro, 0, 0, 0xffff⟩
def Reg.DIN_GCFG.EN (g : Nat) : Fld := ⟨0x126500 + 0x20 * g, 0, 1, .rw, 0, 0, 1⟩
def Reg.DIN_GSTATUS.CFG_CODE (g : Nat) : Fld := ⟨0x126500 + 0x20 * g + 8, 0, 4, .ro, 0, 0, 0xf⟩
def Reg.DIN_GSTATUS.ACTIVE (g : Nat) : Fld := ⟨0x126500 + 0x20 * g + 8, 4, 1, .ro, 0, 0, 1⟩
def Reg.DIN_GSTATUS.SEQ (g : Nat) : Fld := ⟨0x126500 + 0x20 * g + 8, 16, 16, .ro, 0, 0, 0xffff⟩
def Reg.DIN_GSNAP.GO (g : Nat) : Fld := ⟨0x126500 + 0x20 * g + 0x10, 0, 1, .wo, 0, 0, 1⟩
/-! Fields of 04_*.md R122. -/
def Reg.EXC_CFG.EN (n : Nat) : Fld := ⟨0x128000 + 0x10 * n, 0, 1, .rw, 0, 0, 1⟩
def Reg.EXC_CFG.VOLT (n : Nat) : Fld := ⟨0x128000 + 0x10 * n, 1, 1, .rw, 0, 0, 1⟩
def Reg.EXC_CFG.SENSE (n : Nat) : Fld := ⟨0x128000 + 0x10 * n, 2, 1, .rw, 0, 0, 1⟩
def Reg.EXC_CFG.LIMIT (n : Nat) : Fld := ⟨0x128000 + 0x10 * n, 8, 8, .rw, 0, 0, 0xff⟩
def Reg.EXC_MEAS.MV (n : Nat) : Fld := ⟨0x128000 + 0x10 * n + 4, 0, 16, .ro, 0, 0, 0xffff⟩
def Reg.EXC_MEAS.CURRENT (n : Nat) : Fld := ⟨0x128000 + 0x10 * n + 4, 16, 16, .ro, 0, 0, 0xffff⟩
def Reg.EXC_STATUS.READY (n : Nat) : Fld := ⟨0x128000 + 0x10 * n + 8, 0, 1, .ro, 0, 0, 1⟩
def Reg.EXC_STATUS.BUDGET_ERR (n : Nat) : Fld := ⟨0x128000 + 0x10 * n + 8, 1, 1, .w1c, 0, 0, 1⟩
def Reg.EXC_STATUS.OVER (n : Nat) : Fld := ⟨0x128000 + 0x10 * n + 8, 2, 1, .w1c, 0, 0, 1⟩
def Reg.EXC_STATUS.SHED (n : Nat) : Fld := ⟨0x128000 + 0x10 * n + 8, 3, 1, .w1c, 0, 0, 1⟩
def Reg.EXC_BUDGET.MW : Fld := ⟨0x128100, 0, 16, .ro, 0, 0, 0xffff⟩
def Reg.EXC_POWER.MW : Fld := ⟨0x128104, 0, 16, .ro, 0, 0, 0xffff⟩
/-! Fields of 04_*.md R125. -/
def Reg.TRG_CFG.EN (n : Nat) : Fld := ⟨0x12A000 + 0x10 * n, 0, 1, .rw, 0, 0, 1⟩
def Reg.TRG_CFG.DRIVE (n : Nat) : Fld := ⟨0x12A000 + 0x10 * n, 1, 1, .rw, 0, 0, 1⟩
def Reg.TRG_CFG.POL (n : Nat) : Fld := ⟨0x12A000 + 0x10 * n, 2, 1, .rw, 0, 0, 1⟩
def Reg.TRG_CFG.WIDTH (n : Nat) : Fld := ⟨0x12A000 + 0x10 * n, 16, 16, .rw, 0, 0, 0xffff⟩
def Reg.TRG_SET.HIGH (n : Nat) : Fld := ⟨0x12A000 + 0x10 * n + 4, 0, 1, .wo, 0, 0, 1⟩
def Reg.TRG_SET.LOW (n : Nat) : Fld := ⟨0x12A000 + 0x10 * n + 4, 1, 1, .wo, 0, 0, 1⟩
def Reg.TRG_SET.TOGGLE (n : Nat) : Fld := ⟨0x12A000 + 0x10 * n + 4, 2, 1, .wo, 0, 0, 1⟩
def Reg.TRG_STATUS.LEVEL (n : Nat) : Fld := ⟨0x12A000 + 0x10 * n + 8, 0, 1, .ro, 0, 0, 1⟩
def Reg.TRG_STATUS.PIN (n : Nat) : Fld := ⟨0x12A000 + 0x10 * n + 8, 1, 1, .ro, 0, 0, 1⟩
def Reg.TRG_STATUS.CAPPED (n : Nat) : Fld := ⟨0x12A000 + 0x10 * n + 8, 2, 1, .w1c, 0, 0, 1⟩
/-! Fields of 06_*.md R160. -/
def Reg.RUN_CFG.REQ_CH (r : Nat) : Fld := ⟨0x130000 + 0x400 * r, 0, 6, .rw, 0, 0, 0x3f⟩
def Reg.RUN_CFG.REQ_EN (r : Nat) : Fld := ⟨0x130000 + 0x400 * r, 6, 1, .rw, 0, 0, 1⟩
def Reg.RUN_CFG.BURST (r : Nat) : Fld := ⟨0x130000 + 0x400 * r, 8, 3, .rw, 4, 0, 5⟩
def Reg.RUN_CFG.TAIL (r : Nat) : Fld := ⟨0x130000 + 0x400 * r, 12, 4, .rw, 2, 0, 0xf⟩
def Reg.RUN_STATUS.FILL (r : Nat) : Fld := ⟨0x130000 + 0x400 * r + 4, 0, 7, .ro, 0, 0, 0x7f⟩
def Reg.RUN_STATUS.STALLED (r : Nat) : Fld := ⟨0x130000 + 0x400 * r + 4, 7, 1, .ro, 1, 0, 1⟩
def Reg.RUN_STATUS.OPEN (r : Nat) : Fld := ⟨0x130000 + 0x400 * r + 4, 8, 1, .ro, 0, 0, 1⟩
def Reg.RUN_STATUS.FLUSH_PEND (r : Nat) : Fld := ⟨0x130000 + 0x400 * r + 4, 9, 1, .ro, 0, 0, 1⟩
def Reg.RUN_STATUS.NOT_OWNER (r : Nat) : Fld := ⟨0x130000 + 0x400 * r + 4, 10, 1, .w1c, 0, 0, 1⟩
def Reg.RUN_STATUS.PUSH_LOST (r : Nat) : Fld := ⟨0x130000 + 0x400 * r + 4, 11, 1, .w1c, 0, 0, 1⟩
def Reg.RUN_STATUS.LATE_POISON (r : Nat) : Fld := ⟨0x130000 + 0x400 * r + 4, 12, 1, .w1c, 0, 0, 1⟩
def Reg.RUN_STATUS.BADACC (r : Nat) : Fld := ⟨0x130000 + 0x400 * r + 4, 13, 1, .w1c, 0, 0, 1⟩
def Reg.RUN_STATUS.REQ_ERR (r : Nat) : Fld := ⟨0x130000 + 0x400 * r + 4, 14, 1, .w1c, 0, 0, 1⟩
def Reg.RUN_OWNER.CLASS (r : Nat) : Fld := ⟨0x130000 + 0x400 * r + 8, 0, 4, .ro, 0, 0, 0xf⟩
def Reg.RUN_OWNER.INDEX (r : Nat) : Fld := ⟨0x130000 + 0x400 * r + 8, 8, 8, .ro, 0, 0, 0xff⟩
def Reg.RUN_FLUSH.FLUSH (r : Nat) : Fld := ⟨0x130000 + 0x400 * r + 0xc, 0, 1, .wo, 0, 0, 1⟩
def Reg.RUN_POP.WORD (r : Nat) : Fld := ⟨0x130000 + 0x400 * r + 0x10, 0, 32, .ro, 0, 0, 0xffffffff⟩
def Reg.RUN_RDSTAT.TAG (r : Nat) : Fld := ⟨0x130000 + 0x400 * r + 0x14, 0, 2, .ro, 0, 0, 3⟩
def Reg.RUN_RDSTAT.PAD (r : Nat) : Fld := ⟨0x130000 + 0x400 * r + 0x14, 2, 1, .ro, 0, 0, 1⟩
def Reg.RUN_CLAIM.CLAIM (r : Nat) : Fld := ⟨0x130000 + 0x400 * r + 0x18, 0, 1, .wo, 0, 0, 1⟩
def Reg.RUN_CLAIM.RELEASE (r : Nat) : Fld := ⟨0x130000 + 0x400 * r + 0x18, 1, 1, .wo, 0, 0, 1⟩
def Reg.RUN_POPEN.OPEN (r : Nat) : Fld := ⟨0x130000 + 0x400 * r + 0x1c, 0, 1, .wo, 0, 0, 1⟩
def Reg.RUN_PUSH.WORD (r : Nat) : Fld := ⟨0x130000 + 0x400 * r + 0x20, 0, 32, .wo, 0, 0, 0xffffffff⟩
def Reg.RUN_PCLOSE.CLOSE (r : Nat) : Fld := ⟨0x130000 + 0x400 * r + 0x24, 0, 1, .wo, 0, 0, 1⟩
/-! Fields of 08_*.md R206. -/
def Reg.SLC_SRC_LO.ADDR (c : Nat) : Fld := ⟨0x21000 + 0x2000 * (c / 8) + 0x80 * (c % 8), 0, 32, .rw, 0, 0, 0xffffffff⟩
def Reg.SLC_SRC_HI.ADDR (c : Nat) : Fld := ⟨0x21000 + 0x2000 * (c / 8) + 0x80 * (c % 8) + 4, 0, 8, .rw, 0, 0, 0xff⟩
def Reg.SLC_DST_LO.ADDR (c : Nat) : Fld := ⟨0x21000 + 0x2000 * (c / 8) + 0x80 * (c % 8) + 8, 0, 32, .rw, 0, 0, 0xffffffff⟩
def Reg.SLC_DST_HI.ADDR (c : Nat) : Fld := ⟨0x21000 + 0x2000 * (c / 8) + 0x80 * (c % 8) + 0xc, 0, 8, .rw, 0, 0, 0xff⟩
def Reg.SLC_COUNT.BYTES (c : Nat) : Fld := ⟨0x21000 + 0x2000 * (c / 8) + 0x80 * (c % 8) + 0x10, 0, 32, .rw, 0, 0, 0xffffffff⟩
def Reg.SLC_CFG.BURST (c : Nat) : Fld := ⟨0x21000 + 0x2000 * (c / 8) + 0x80 * (c % 8) + 0x14, 0, 3, .rw, 4, 0, 7⟩
def Reg.SLC_CFG.PACE (c : Nat) : Fld := ⟨0x21000 + 0x2000 * (c / 8) + 0x80 * (c % 8) + 0x14, 3, 1, .rw, 0, 0, 1⟩
def Reg.SLC_CFG.SMODE (c : Nat) : Fld := ⟨0x21000 + 0x2000 * (c / 8) + 0x80 * (c % 8) + 0x14, 4, 2, .rw, 0, 0, 2⟩
def Reg.SLC_CFG.DMODE (c : Nat) : Fld := ⟨0x21000 + 0x2000 * (c / 8) + 0x80 * (c % 8) + 0x14, 6, 2, .rw, 0, 0, 2⟩
def Reg.SLC_CFG.RELOAD (c : Nat) : Fld := ⟨0x21000 + 0x2000 * (c / 8) + 0x80 * (c % 8) + 0x14, 8, 1, .rw, 0, 0, 1⟩
def Reg.SLC_CFG.CHAIN_EN (c : Nat) : Fld := ⟨0x21000 + 0x2000 * (c / 8) + 0x80 * (c % 8) + 0x14, 9, 1, .rw, 0, 0, 1⟩
def Reg.SLC_CFG.CHAIN_SRC (c : Nat) : Fld := ⟨0x21000 + 0x2000 * (c / 8) + 0x80 * (c % 8) + 0x14, 10, 6, .rw, 0, 0, 0x3f⟩
def Reg.SLC_CFG.SLOT_EN (c : Nat) : Fld := ⟨0x21000 + 0x2000 * (c / 8) + 0x80 * (c % 8) + 0x14, 16, 1, .rw, 0, 0, 1⟩
def Reg.SLC_CFG.SLOT_ENG (c : Nat) : Fld := ⟨0x21000 + 0x2000 * (c / 8) + 0x80 * (c % 8) + 0x14, 17, 2, .rw, 0, 0, 3⟩
def Reg.SLC_CFG.SLOT (c : Nat) : Fld := ⟨0x21000 + 0x2000 * (c / 8) + 0x80 * (c % 8) + 0x14, 19, 6, .rw, 0, 0, 0x3f⟩
def Reg.SLC_CTRL.GO (c : Nat) : Fld := ⟨0x21000 + 0x2000 * (c / 8) + 0x80 * (c % 8) + 0x18, 0, 1, .wo, 0, 0, 1⟩
def Reg.SLC_CTRL.PAUSE (c : Nat) : Fld := ⟨0x21000 + 0x2000 * (c / 8) + 0x80 * (c % 8) + 0x18, 1, 1, .wo, 0, 0, 1⟩
def Reg.SLC_CTRL.RESUME (c : Nat) : Fld := ⟨0x21000 + 0x2000 * (c / 8) + 0x80 * (c % 8) + 0x18, 2, 1, .wo, 0, 0, 1⟩
def Reg.SLC_CTRL.ABORT (c : Nat) : Fld := ⟨0x21000 + 0x2000 * (c / 8) + 0x80 * (c % 8) + 0x18, 3, 1, .wo, 0, 0, 1⟩
def Reg.SLC_CTRL.CLRREQ (c : Nat) : Fld := ⟨0x21000 + 0x2000 * (c / 8) + 0x80 * (c % 8) + 0x18, 4, 1, .wo, 0, 0, 1⟩
def Reg.SLC_STATUS.STATE (c : Nat) : Fld := ⟨0x21000 + 0x2000 * (c / 8) + 0x80 * (c % 8) + 0x1c, 0, 3, .ro, 0, 0, 7⟩
def Reg.SLC_STATUS.WAITING (c : Nat) : Fld := ⟨0x21000 + 0x2000 * (c / 8) + 0x80 * (c % 8) + 0x1c, 3, 1, .ro, 0, 0, 1⟩
def Reg.SLC_STATUS.CFG_CODE (c : Nat) : Fld := ⟨0x21000 + 0x2000 * (c / 8) + 0x80 * (c % 8) + 0x1c, 4, 4, .ro, 0, 0, 0xf⟩
def Reg.SLC_STATUS.ERR (c : Nat) : Fld := ⟨0x21000 + 0x2000 * (c / 8) + 0x80 * (c % 8) + 0x1c, 8, 4, .ro, 0, 0, 0xf⟩
def Reg.SLC_STATUS.DIR (c : Nat) : Fld := ⟨0x21000 + 0x2000 * (c / 8) + 0x80 * (c % 8) + 0x1c, 12, 2, .ro, 0, 0, 3⟩
def Reg.SLC_STATUS.CMD_ERR (c : Nat) : Fld := ⟨0x21000 + 0x2000 * (c / 8) + 0x80 * (c % 8) + 0x1c, 14, 1, .w1c, 0, 0, 1⟩
def Reg.SLC_STATUS.CHAIN_MISS (c : Nat) : Fld := ⟨0x21000 + 0x2000 * (c / 8) + 0x80 * (c % 8) + 0x1c, 15, 1, .w1c, 0, 0, 1⟩
def Reg.SLC_STATUS.REQ_OVF (c : Nat) : Fld := ⟨0x21000 + 0x2000 * (c / 8) + 0x80 * (c % 8) + 0x1c, 16, 1, .w1c, 0, 0, 1⟩
def Reg.SLC_EADDR_LO.ADDR (c : Nat) : Fld := ⟨0x21000 + 0x2000 * (c / 8) + 0x80 * (c % 8) + 0x20, 0, 32, .ro, 0, 0, 0xffffffff⟩
def Reg.SLC_EADDR_HI.ADDR (c : Nat) : Fld := ⟨0x21000 + 0x2000 * (c / 8) + 0x80 * (c % 8) + 0x24, 0, 8, .ro, 0, 0, 0xff⟩
def Reg.SLC_REQS.PENDING (c : Nat) : Fld := ⟨0x21000 + 0x2000 * (c / 8) + 0x80 * (c % 8) + 0x28, 0, 8, .ro, 0, 0, 0xff⟩
/-! Fields of 09_*.md R238. -/
def Reg.RSV_STATUS.STATE : Fld := ⟨0x140000, 0, 3, .ro, 0, 0, 7⟩
def Reg.RSV_STATUS.ERASE_DEFER : Fld := ⟨0x140000, 3, 1, .ro, 0, 0, 1⟩
def Reg.RSV_STATUS.DEGRADED : Fld := ⟨0x140000, 4, 1, .ro, 0, 0, 1⟩
def Reg.RSV_STATUS.REBUILD : Fld := ⟨0x140000, 5, 1, .ro, 0, 0, 1⟩
def Reg.RSV_LSESS.LSESS : Fld := ⟨0x140004, 0, 32, .so, 0, 0, 0xffffffff⟩
def Reg.RSV_RATE.CAP : Fld := ⟨0x140018, 0, 16, .ro, 0, 0, 0xffff⟩
def Reg.RSV_RATE.LIVE : Fld := ⟨0x140018, 16, 16, .ro, 0, 0, 0xffff⟩
def Reg.RSV_HEALTH.DIES : Fld := ⟨0x14001c, 0, 8, .ro, 0, 0, 0xff⟩
def Reg.RSV_HEALTH.RETIRED : Fld := ⟨0x14001c, 8, 8, .ro, 0, 0, 0xff⟩
def Reg.RSV_HEALTH.SPARE : Fld := ⟨0x14001c, 16, 8, .ro, 0, 0, 0xff⟩
def Reg.RSV_HEALTH.LIFE : Fld := ⟨0x14001c, 24, 8, .ro, 0x64, 0, 0xff⟩
def Reg.RSV_FREE.GIB : Fld := ⟨0x140020, 0, 24, .ro, 0, 0, 0xffffff⟩
def Reg.RSV_POOL.MIB : Fld := ⟨0x140024, 0, 32, .ro, 0, 0, 0xffffffff⟩
def Reg.RSV_LFL_FLAGS.VALID : Fld := ⟨0x140028, 0, 1, .ro, 0, 0, 1⟩
def Reg.RSV_LFL_FLAGS.DONE : Fld := ⟨0x140028, 1, 1, .ro, 0, 0, 1⟩
def Reg.RSV_LFL_FLAGS.SHORT : Fld := ⟨0x140028, 2, 1, .ro, 0, 0, 1⟩
def Reg.RSV_RING_CFG.EN (n : Nat) : Fld := ⟨0x140100 + 0x20 * n, 0, 1, .rw, 0, 0, 1⟩
def Reg.RSV_RING_CFG.DB_CH (n : Nat) : Fld := ⟨0x140100 + 0x20 * n, 1, 6, .rw, 0, 0, 0x3f⟩
def Reg.RSV_RING_CFG.DB_EN (n : Nat) : Fld := ⟨0x140100 + 0x20 * n, 7, 1, .rw, 0, 0, 1⟩
def Reg.RSV_RING_HEAD_LO.ADDR (n : Nat) : Fld := ⟨0x140100 + 0x20 * n + 4, 0, 32, .rw, 0, 0, 0xffffffff⟩
def Reg.RSV_RING_HEAD_HI.ADDR (n : Nat) : Fld := ⟨0x140100 + 0x20 * n + 8, 0, 8, .rw, 0, 0, 0xff⟩
def Reg.RSV_RING_DB.ANY (n : Nat) : Fld := ⟨0x140100 + 0x20 * n + 0xc, 0, 32, .wo, 0, 0, 0xffffffff⟩
def Reg.RSV_RING_CTRL.RESUME (n : Nat) : Fld := ⟨0x140100 + 0x20 * n + 0x10, 0, 1, .wo, 0, 0, 1⟩
def Reg.RSV_RING_CTRL.ABORT (n : Nat) : Fld := ⟨0x140100 + 0x20 * n + 0x10, 1, 1, .wo, 0, 0, 1⟩
def Reg.RSV_RING_STATUS.STATE (n : Nat) : Fld := ⟨0x140100 + 0x20 * n + 0x14, 0, 2, .ro, 0, 0, 3⟩
def Reg.RSV_RING_STATUS.HALT (n : Nat) : Fld := ⟨0x140100 + 0x20 * n + 0x14, 4, 4, .ro, 0, 0, 0xf⟩
def Reg.RSV_RING_STATUS.ALLOW (n : Nat) : Fld := ⟨0x140100 + 0x20 * n + 0x14, 8, 13, .ro, 0, 0, 0x1fff⟩
def Reg.RSV_RING_STATUS.RECHECK (n : Nat) : Fld := ⟨0x140100 + 0x20 * n + 0x14, 21, 1, .ro, 0, 0, 1⟩
def Reg.WEIR_CFG.GRACE : Fld := ⟨0x148000, 0, 8, .so, 0x64, 0, 0xff⟩
def Reg.WEIR_CFG.DIP_PCT : Fld := ⟨0x148000, 8, 4, .so, 4, 0, 0xf⟩
def Reg.WEIR_STATUS.DIP : Fld := ⟨0x148004, 0, 1, .ro, 0, 0, 1⟩
def Reg.WEIR_STATUS.FROZEN : Fld := ⟨0x148004, 1, 1, .ro, 0, 0, 1⟩
def Reg.WEIR_STATUS.REFUSING : Fld := ⟨0x148004, 2, 1, .ro, 0, 0, 1⟩
def Reg.WEIR_STATUS.SHORT : Fld := ⟨0x148004, 3, 1, .w1c, 0, 0, 1⟩
def Reg.WEIR_STATUS.CFG_REF : Fld := ⟨0x148004, 4, 1, .w1c, 0, 0, 1⟩
def Reg.WEIR_STATUS.LIMIT : Fld := ⟨0x148004, 5, 3, .ro, 0, 0, 7⟩
def Reg.WEIR_DEPTH.DEPTH : Fld := ⟨0x148008, 0, 16, .ro, 0, 0, 0xffff⟩
def Reg.WEIR_DEPTH.EDEPTH : Fld := ⟨0x148008, 16, 16, .ro, 0, 0, 0xffff⟩
def Reg.WEIR_HELD_LO.BYTES : Fld := ⟨0x14800c, 0, 32, .ro, 0, 0, 0xffffffff⟩
def Reg.WEIR_HELD_HI.BYTES : Fld := ⟨0x148010, 0, 8, .ro, 0, 0, 0xff⟩
def Reg.WEIR_ROOM.KIB : Fld := ⟨0x148014, 0, 32, .ro, 0, 0, 0xffffffff⟩
def Reg.WEIR_VRES.MV : Fld := ⟨0x148018, 0, 16, .ro, 0, 0, 0xffff⟩
def Reg.WEIR_VRES.MF : Fld := ⟨0x148018, 16, 16, .ro, 0, 0, 0xffff⟩
def Reg.WEIR_ENERGY.E : Fld := ⟨0x14801c, 0, 16, .ro, 0, 0, 0xffff⟩
def Reg.WEIR_RGN_CFG.BASE (r : Nat) : Fld := ⟨0x148100 + 0x20 * r, 0, 20, .rw, 0, 0, 0xfffff⟩
def Reg.WEIR_RGN_CFG.SIZE (r : Nat) : Fld := ⟨0x148100 + 0x20 * r, 20, 12, .rw, 0, 0, 0xfff⟩
def Reg.WEIR_RGN_CTRL.EN (r : Nat) : Fld := ⟨0x148100 + 0x20 * r + 4, 0, 1, .rw, 0, 0, 1⟩
def Reg.WEIR_RGN_CTRL.REWIND (r : Nat) : Fld := ⟨0x148100 + 0x20 * r + 4, 1, 1, .wo, 0, 0, 1⟩
def Reg.WEIR_RGN_CTRL.CFG_ERR (r : Nat) : Fld := ⟨0x148100 + 0x20 * r + 4, 8, 1, .ro, 0, 0, 1⟩
def Reg.WEIR_RGN_CTRL.REW_REF (r : Nat) : Fld := ⟨0x148100 + 0x20 * r + 4, 9, 1, .w1c, 0, 0, 1⟩
def Reg.WEIR_RGN_CTRL.WR_REF (r : Nat) : Fld := ⟨0x148100 + 0x20 * r + 4, 10, 1, .w1c, 0, 0, 1⟩
def Reg.WEIR_RGN_RESERVE.N (r : Nat) : Fld := ⟨0x148100 + 0x20 * r + 0x14, 0, 32, .rw, 0xffffffff, 0, 0xffffffff⟩
/-! Fields of 10_*.md R243. -/
def Reg.CORE_ID.CORE (k : Nat) : Fld := ⟨0x100000000 + 0x1000 * k, 0, 3, .ro, 0, 0, 7⟩
def Reg.CORE_ID.BASIN (k : Nat) : Fld := ⟨0x100000000 + 0x1000 * k, 3, 3, .ro, 0, 0, 7⟩
def Reg.CORE_ID.STEWARD (k : Nat) : Fld := ⟨0x100000000 + 0x1000 * k, 6, 1, .ro, 0, 0, 1⟩
def Reg.CORE_STATUS.C (k : Nat) : Fld := ⟨0x100000000 + 0x1000 * k + 4, 0, 1, .rw, 0, 0, 1⟩
def Reg.CORE_STATUS.V (k : Nat) : Fld := ⟨0x100000000 + 0x1000 * k + 4, 1, 1, .rw, 0, 0, 1⟩
def Reg.CORE_STATUS.AF (k : Nat) : Fld := ⟨0x100000000 + 0x1000 * k + 4, 2, 1, .w1c, 0, 0, 1⟩
def Reg.CORE_STATUS.AFT (k : Nat) : Fld := ⟨0x100000000 + 0x1000 * k + 4, 3, 1, .rw, 0, 0, 1⟩
def Reg.CORE_STATUS.RS (k : Nat) : Fld := ⟨0x100000000 + 0x1000 * k + 4, 4, 1, .ro, 0, 0, 1⟩
def Reg.CORE_STATUS.BANK (k : Nat) : Fld := ⟨0x100000000 + 0x1000 * k + 4, 5, 1, .ro, 0, 0, 1⟩
def Reg.CORE_CNT.CNT (k : Nat) : Fld := ⟨0x100000000 + 0x1000 * k + 8, 0, 16, .ro, 0, 0, 0xffff⟩
def Reg.CORE_FP.ADDR (k : Nat) : Fld := ⟨0x100000000 + 0x1000 * k + 0xc, 2, 30, .rw, 0, 0, 0x3fffffff⟩
def Reg.CORE_IOB.ADDR (k : Nat) : Fld := ⟨0x100000000 + 0x1000 * k + 0x10, 2, 30, .rw, 0, 0, 0x3fffffff⟩
def Reg.CORE_RES.VALID (k : Nat) : Fld := ⟨0x100000000 + 0x1000 * k + 0x14, 0, 1, .ro, 0, 0, 1⟩
def Reg.CORE_RES.GRANULE (k : Nat) : Fld := ⟨0x100000000 + 0x1000 * k + 0x14, 4, 28, .ro, 0, 0, 0xfffffff⟩
def Reg.CORE_FAULT.SPACE (k : Nat) : Fld := ⟨0x100000000 + 0x1000 * k + 0x18, 0, 2, .ro, 0, 0, 3⟩
def Reg.CORE_FAULT.WRITE (k : Nat) : Fld := ⟨0x100000000 + 0x1000 * k + 0x18, 2, 1, .ro, 0, 0, 1⟩
def Reg.CORE_FAULT.IMPRECISE (k : Nat) : Fld := ⟨0x100000000 + 0x1000 * k + 0x18, 3, 1, .ro, 0, 0, 1⟩
def Reg.CORE_FAULT.ERR (k : Nat) : Fld := ⟨0x100000000 + 0x1000 * k + 0x18, 4, 4, .ro, 0, 0, 0xf⟩
def Reg.CORE_FPC.PC (k : Nat) : Fld := ⟨0x100000000 + 0x1000 * k + 0x1c, 0, 32, .ro, 0, 0, 0xffffffff⟩
/-! Fields of 11_*.md R303. -/
def Reg.CORE_MODE.DET (k : Nat) : Fld := ⟨0x100000000 + 0x1000 * k + 0x80, 0, 1, .rw, 0, 0, 1⟩
def Reg.CORE_MODE.ICE (k : Nat) : Fld := ⟨0x100000000 + 0x1000 * k + 0x80, 1, 1, .rw, 1, 0, 1⟩
def Reg.CORE_MODE.DCE (k : Nat) : Fld := ⟨0x100000000 + 0x1000 * k + 0x80, 2, 1, .rw, 1, 0, 1⟩
def Reg.CORE_MODE.DUAL (k : Nat) : Fld := ⟨0x100000000 + 0x1000 * k + 0x80, 3, 1, .rw, 1, 0, 1⟩
def Reg.CORE_MODE.PRED (k : Nat) : Fld := ⟨0x100000000 + 0x1000 * k + 0x80, 4, 1, .rw, 1, 0, 1⟩
def Reg.CORE_MODE.WMODE (k : Nat) : Fld := ⟨0x100000000 + 0x1000 * k + 0x80, 8, 2, .rw, 0, 0, 2⟩
def Reg.CORE_APa.EN (k a : Nat) : Fld := ⟨0x100000000 + 0x1000 * k + 4 * a + 0xa0, 0, 1, .rw, 0, 0, 1⟩
def Reg.CORE_APa.ATTR (k a : Nat) : Fld := ⟨0x100000000 + 0x1000 * k + 4 * a + 0xa0, 1, 2, .rw, 0, 0, 2⟩
def Reg.CORE_APa.BASE (k a : Nat) : Fld := ⟨0x100000000 + 0x1000 * k + 4 * a + 0xa0, 8, 8, .rw, 0, 0, 0xff⟩
/-! Fields of 11_*.md R304. -/
def Reg.BSN_VCTRL.MODE (n : Nat) : Fld := ⟨0x20000 + 0x2000 * n, 0, 2, .rw, 0, 0, 2⟩
def Reg.BSN_VCTRL.ENG (n : Nat) : Fld := ⟨0x20000 + 0x2000 * n, 2, 2, .rw, 0, 0, 3⟩
def Reg.BSN_VLIM.VMIN (n : Nat) : Fld := ⟨0x20000 + 0x2000 * n + 4, 0, 7, .rw, 0, 0, 0x64⟩
def Reg.BSN_VLIM.VMAX (n : Nat) : Fld := ⟨0x20000 + 0x2000 * n + 4, 8, 7, .rw, 0x64, 0, 0x64⟩
def Reg.BSN_VSET.VFIX (n : Nat) : Fld := ⟨0x20000 + 0x2000 * n + 8, 0, 7, .rw, 0x32, 0, 0x64⟩
def Reg.BSN_VSET.VFB (n : Nat) : Fld := ⟨0x20000 + 0x2000 * n + 8, 8, 7, .rw, 0x64, 0, 0x64⟩
def Reg.BSN_TARGET.PERIOD (n : Nat) : Fld := ⟨0x20000 + 0x2000 * n + 0xc, 0, 16, .rw, 0xdc, 0, 0xffff⟩
def Reg.BSN_BUDGET.TOKENS (n : Nat) : Fld := ⟨0x20000 + 0x2000 * n + 0x10, 0, 16, .rw, 0, 0, 0xffff⟩
def Reg.BSN_BUDGET.LOOKAHEAD (n : Nat) : Fld := ⟨0x20000 + 0x2000 * n + 0x10, 16, 4, .rw, 1, 0, 0xf⟩
def Reg.BSN_VSTATUS.VNOW (n : Nat) : Fld := ⟨0x20000 + 0x2000 * n + 0x14, 0, 7, .ro, 0x32, 0, 0x7f⟩
def Reg.BSN_VSTATUS.CEIL (n : Nat) : Fld := ⟨0x20000 + 0x2000 * n + 0x14, 8, 7, .ro, 0x64, 0, 0x7f⟩
def Reg.BSN_VSTATUS.ACTIVE (n : Nat) : Fld := ⟨0x20000 + 0x2000 * n + 0x14, 16, 2, .ro, 0, 0, 3⟩
def Reg.BSN_VSTATUS.AT_TOP (n : Nat) : Fld := ⟨0x20000 + 0x2000 * n + 0x14, 18, 1, .ro, 0, 0, 1⟩
def Reg.BSN_VSTATUS.OVR (n : Nat) : Fld := ⟨0x20000 + 0x2000 * n + 0x14, 19, 1, .ro, 0, 0, 1⟩
def Reg.BSN_VSTATUS.OVR_SEEN (n : Nat) : Fld := ⟨0x20000 + 0x2000 * n + 0x14, 20, 1, .w1c, 0, 0, 1⟩
def Reg.BSN_VSTATUS.CFG_ERR (n : Nat) : Fld := ⟨0x20000 + 0x2000 * n + 0x14, 21, 1, .w1c, 0, 0, 1⟩
def Reg.BSN_TOKEN.NOW (n : Nat) : Fld := ⟨0x20000 + 0x2000 * n + 0x18, 0, 16, .ro, 0, 0, 0xffff⟩
def Reg.BSN_TOKMAX.MAX (n : Nat) : Fld := ⟨0x20000 + 0x2000 * n + 0x1c, 0, 16, .ro, 0, 0, 0xffff⟩
def Reg.BSN_TOKMAX.CLR (n : Nat) : Fld := ⟨0x20000 + 0x2000 * n + 0x1c, 31, 1, .wo, 0, 0, 1⟩
def Reg.BSN_TREQ.T (n : Nat) : Fld := ⟨0x20000 + 0x2000 * n + 0x20, 0, 16, .ro, 0xffff, 0, 0xffff⟩
def Reg.BSN_TJ.TEMP (n : Nat) : Fld := ⟨0x20000 + 0x2000 * n + 0x24, 0, 8, .ro, 0, 0, 0xff⟩
/-! Fields of 12_*.md R325. -/
def Reg.BSN_WCS_CTRL.OPEN (n : Nat) : Fld := ⟨0x20000 + 0x2000 * n + 0xc00, 0, 1, .so, 0, 0, 1⟩
def Reg.BSN_WCS_CTRL.WRITE (n : Nat) : Fld := ⟨0x20000 + 0x2000 * n + 0xc00, 1, 1, .so, 0, 0, 1⟩
def Reg.BSN_WCS_CTRL.COMMIT (n : Nat) : Fld := ⟨0x20000 + 0x2000 * n + 0xc00, 2, 1, .so, 0, 0, 1⟩
def Reg.BSN_WCS_CTRL.ABORT (n : Nat) : Fld := ⟨0x20000 + 0x2000 * n + 0xc00, 3, 1, .so, 0, 0, 1⟩
def Reg.BSN_WCS_CTRL.READ (n : Nat) : Fld := ⟨0x20000 + 0x2000 * n + 0xc00, 4, 1, .so, 0, 0, 1⟩
def Reg.BSN_WCS_STATUS.STATE (n : Nat) : Fld := ⟨0x20000 + 0x2000 * n + 0xc04, 0, 2, .ro, 0, 0, 3⟩
def Reg.BSN_WCS_STATUS.UE (n : Nat) : Fld := ⟨0x20000 + 0x2000 * n + 0xc04, 2, 1, .w1c, 0, 0, 1⟩
def Reg.BSN_WCS_STATUS.CFG_CODE (n : Nat) : Fld := ⟨0x20000 + 0x2000 * n + 0xc04, 4, 4, .ro, 0, 0, 0xf⟩
def Reg.BSN_WCS_STATUS.FAULT_IDX (n : Nat) : Fld := ⟨0x20000 + 0x2000 * n + 0xc04, 8, 8, .ro, 0, 0, 0xff⟩
def Reg.BSN_WCS_STATUS.ENTRIES (n : Nat) : Fld := ⟨0x20000 + 0x2000 * n + 0xc04, 16, 9, .ro, 0, 0, 0x1ff⟩
def Reg.BSN_WCS_ADDR.INDEX (n : Nat) : Fld := ⟨0x20000 + 0x2000 * n + 0xc08, 0, 8, .so, 0, 0, 0xff⟩
def Reg.BSN_WCS_ADDR.SPACE (n : Nat) : Fld := ⟨0x20000 + 0x2000 * n + 0xc08, 8, 1, .so, 0, 0, 1⟩
def Reg.BSN_WCS_ADDR.AUTOINC (n : Nat) : Fld := ⟨0x20000 + 0x2000 * n + 0xc08, 31, 1, .so, 0, 0, 1⟩
/-! Fields of 13_*.md R344. -/
def Reg.EVT_CTRL.NIE (k : Nat) : Fld := ⟨0x100000000 + 0x1000 * k + 0x100, 0, 1, .rw, 0, 0, 1⟩
def Reg.EVT_CTRL.FIE (k : Nat) : Fld := ⟨0x100000000 + 0x1000 * k + 0x100, 1, 1, .rw, 0, 0, 1⟩
def Reg.EVT_CTRL.SBASE (k : Nat) : Fld := ⟨0x100000000 + 0x1000 * k + 0x100, 4, 3, .rw, 4, 0, 4⟩
def Reg.EVT_ACTIVE.NACT (k : Nat) : Fld := ⟨0x100000000 + 0x1000 * k + 0x104, 0, 1, .ro, 0, 0, 1⟩
def Reg.EVT_ACTIVE.FACT (k : Nat) : Fld := ⟨0x100000000 + 0x1000 * k + 0x104, 1, 1, .ro, 0, 0, 1⟩
def Reg.EVT_ACTIVE.NPEND (k : Nat) : Fld := ⟨0x100000000 + 0x1000 * k + 0x104, 2, 1, .ro, 0, 0, 1⟩
def Reg.EVT_ACTIVE.FPEND (k : Nat) : Fld := ⟨0x100000000 + 0x1000 * k + 0x104, 3, 1, .ro, 0, 0, 1⟩
def Reg.EVT_FCAUSE.KIND (k : Nat) : Fld := ⟨0x100000000 + 0x1000 * k + 0x108, 0, 8, .ro, 0, 0, 0xff⟩
def Reg.EVT_FCAUSEP.PAYLOAD (k : Nat) : Fld := ⟨0x100000000 + 0x1000 * k + 0x10c, 0, 32, .ro, 0, 0, 0xffffffff⟩
def Reg.EVT_NVEC.PC (k : Nat) : Fld := ⟨0x100000000 + 0x1000 * k + 0x110, 0, 32, .rw, 2, 0, 0xffffffff⟩
def Reg.EVT_FVEC.PC (k : Nat) : Fld := ⟨0x100000000 + 0x1000 * k + 0x114, 0, 32, .rw, 1, 0, 0xffffffff⟩
def Reg.EVT_SEND.TARGET (k : Nat) : Fld := ⟨0x100000000 + 0x1000 * k + 0x150, 0, 7, .wo, 0, 0, 0x7f⟩
def Reg.EVT_SEND.CLASS (k : Nat) : Fld := ⟨0x100000000 + 0x1000 * k + 0x150, 7, 1, .wo, 0, 0, 1⟩
def Reg.EVT_SEND.KIND (k : Nat) : Fld := ⟨0x100000000 + 0x1000 * k + 0x150, 8, 8, .wo, 0, 0, 0xff⟩
def Reg.EVT_SEND.BASE (k : Nat) : Fld := ⟨0x100000000 + 0x1000 * k + 0x150, 16, 3, .wo, 0, 0, 7⟩
def Reg.EVT_SENDP.PAYLOAD (k : Nat) : Fld := ⟨0x100000000 + 0x1000 * k + 0x154, 0, 32, .rw, 0, 0, 0xffffffff⟩
def Reg.EVT_STATUS.CFG_ERR (k : Nat) : Fld := ⟨0x100000000 + 0x1000 * k + 0x158, 0, 1, .w1c, 0, 0, 1⟩
def Reg.EVT_STATUS.RD_ERR (k : Nat) : Fld := ⟨0x100000000 + 0x1000 * k + 0x158, 1, 1, .w1c, 0, 0, 1⟩
def Reg.EVT_STATUS.SEND_ERR (k : Nat) : Fld := ⟨0x100000000 + 0x1000 * k + 0x158, 2, 1, .w1c, 0, 0, 1⟩
def Reg.EVT_FLTn_A.SRC (k n : Nat) : Fld := ⟨0x100000000 + 0x1000 * k + 8 * n + 0x200, 0, 16, .rw, 0, 0, 0xffff⟩
def Reg.EVT_FLTn_A.MASK (k n : Nat) : Fld := ⟨0x100000000 + 0x1000 * k + 8 * n + 0x200, 16, 16, .rw, 0, 0, 0xffff⟩
def Reg.EVT_FLTn_B.KLO (k n : Nat) : Fld := ⟨0x100000000 + 0x1000 * k + 8 * n + 0x204, 0, 8, .rw, 0, 0, 0xff⟩
def Reg.EVT_FLTn_B.KHI (k n : Nat) : Fld := ⟨0x100000000 + 0x1000 * k + 8 * n + 0x204, 8, 8, .rw, 0, 0, 0xff⟩
def Reg.EVT_FLTn_B.CLASS (k n : Nat) : Fld := ⟨0x100000000 + 0x1000 * k + 8 * n + 0x204, 16, 1, .rw, 0, 0, 1⟩
def Reg.EVT_FLTn_B.BASE (k n : Nat) : Fld := ⟨0x100000000 + 0x1000 * k + 8 * n + 0x204, 17, 3, .rw, 4, 0, 4⟩
def Reg.EVT_FLTn_B.EN (k n : Nat) : Fld := ⟨0x100000000 + 0x1000 * k + 8 * n + 0x204, 31, 1, .rw, 0, 0, 1⟩
/-! Fields of 14_*.md R360. -/
def Reg.BSN_JET_STATUS.BUSY (n : Nat) : Fld := ⟨0x20000 + 0x2000 * n + 0xd00, 0, 1, .ro, 0, 0, 1⟩
def Reg.BSN_JET_STATUS.OWNER (n : Nat) : Fld := ⟨0x20000 + 0x2000 * n + 0xd00, 1, 3, .ro, 0, 0, 7⟩
def Reg.BSN_JET_STATUS.UE (n : Nat) : Fld := ⟨0x20000 + 0x2000 * n + 0xd00, 4, 1, .w1c, 0, 0, 1⟩
def Reg.BSN_PK_STATUS.BUSY (n : Nat) : Fld := ⟨0x20000 + 0x2000 * n + 0xd10, 0, 1, .ro, 0, 0, 1⟩
def Reg.BSN_PK_STATUS.OWNER (n : Nat) : Fld := ⟨0x20000 + 0x2000 * n + 0xd10, 1, 3, .ro, 0, 0, 7⟩
/-! Fields of 15_*.md R381. -/
def Reg.FAB_DBG.EN : Fld := ⟨0x190000, 0, 1, .so, 0, 0, 1⟩
def Reg.FAB_DBG.ACTIVE : Fld := ⟨0x190000, 1, 1, .ro, 0, 0, 1⟩
def Reg.FAB_ELOG_INFO.CODE : Fld := ⟨0x190010, 0, 3, .ro, 0, 0, 7⟩
def Reg.FAB_ELOG_INFO.WRITE : Fld := ⟨0x190010, 3, 1, .ro, 0, 0, 1⟩
def Reg.FAB_ELOG_INFO.REQ : Fld := ⟨0x190010, 4, 5, .ro, 0, 0, 0x1f⟩
def Reg.FAB_ELOG_INFO.TGT : Fld := ⟨0x190010, 9, 5, .ro, 0, 0, 0x1f⟩
def Reg.FAB_ELOG_INFO.VALID : Fld := ⟨0x190010, 31, 1, .w1c, 0, 0, 1⟩
def Reg.FAB_ELOG_ADDR_LO.ADDR : Fld := ⟨0x190014, 0, 32, .ro, 0, 0, 0xffffffff⟩
def Reg.FAB_ELOG_ADDR_HI.ADDR : Fld := ⟨0x190018, 0, 8, .ro, 0, 0, 0xff⟩
def Reg.XNG_DOMd.STATE (d : Nat) : Fld := ⟨0x191000 + 4 * d, 0, 2, .ro, 0, 0, 3⟩
def Reg.XNG_DOMd.WAKEEN (d : Nat) : Fld := ⟨0x191000 + 4 * d, 2, 1, .so, 1, 0, 1⟩
def Reg.XNG_DOMd.POVR (d : Nat) : Fld := ⟨0x191000 + 4 * d, 3, 1, .w1c, 0, 0, 1⟩
def Reg.XNG_DOMd.WAKE_SLOW (d : Nat) : Fld := ⟨0x191000 + 4 * d, 4, 1, .w1c, 0, 0, 1⟩
def Reg.XNG_DOMd.LAST_WAKE (d : Nat) : Fld := ⟨0x191000 + 4 * d, 16, 16, .ro, 0, 0, 0xffff⟩
/-! Fields of 16_*.md R411. -/
def Reg.SINK_CFG.REG0 (x : Nat) : Fld := ⟨0x150000 + 0x10000 * x, 0, 4, .rw, 0, 0, 0xf⟩
def Reg.SINK_CFG.REG1 (x : Nat) : Fld := ⟨0x150000 + 0x10000 * x, 4, 4, .rw, 1, 0, 0xf⟩
def Reg.SINK_CFG.EN (x : Nat) : Fld := ⟨0x150000 + 0x10000 * x, 8, 1, .rw, 0, 0, 1⟩
def Reg.SINK_CFG.BASE (x : Nat) : Fld := ⟨0x150000 + 0x10000 * x, 9, 3, .rw, 4, 0, 4⟩
def Reg.SINK_CFG.MAXREC (x : Nat) : Fld := ⟨0x150000 + 0x10000 * x, 16, 8, .rw, 0x10, 0, 0xff⟩
def Reg.SINK_CFG.AGE (x : Nat) : Fld := ⟨0x150000 + 0x10000 * x, 24, 8, .rw, 0xa, 0, 0xff⟩
def Reg.SINK_STATUS.CUR (x : Nat) : Fld := ⟨0x150000 + 0x10000 * x + 4, 0, 1, .ro, 0, 0, 1⟩
def Reg.SINK_STATUS.OPEN (x : Nat) : Fld := ⟨0x150000 + 0x10000 * x + 4, 1, 1, .ro, 0, 0, 1⟩
def Reg.SINK_STATUS.FULL (x : Nat) : Fld := ⟨0x150000 + 0x10000 * x + 4, 2, 1, .w1c, 0, 0, 1⟩
def Reg.SINK_STATUS.CFG_ERR (x : Nat) : Fld := ⟨0x150000 + 0x10000 * x + 4, 3, 1, .ro, 0, 0, 1⟩
def Reg.SINK_NOTIFY.KIB (x : Nat) : Fld := ⟨0x150000 + 0x10000 * x + 0x10, 0, 16, .rw, 0x400, 0, 0xffff⟩
/-! Fields of 16_*.md R412. -/
def Reg.NET_PCFG.EN (p : Nat) : Fld := ⟨0x151000 + 0x40 * p, 0, 1, .so, 0, 0, 1⟩
def Reg.NET_PCFG.ROLE (p : Nat) : Fld := ⟨0x151000 + 0x40 * p, 1, 2, .so, 2, 0, 2⟩
def Reg.NET_PCFG.SPEED (p : Nat) : Fld := ⟨0x151000 + 0x40 * p, 3, 2, .so, 0, 0, 2⟩
def Reg.NET_PCFG.TC10 (p : Nat) : Fld := ⟨0x151000 + 0x40 * p, 5, 1, .so, 0, 0, 1⟩
def Reg.NET_PCFG.WAKEFWD (p : Nat) : Fld := ⟨0x151000 + 0x40 * p, 6, 1, .so, 0, 0, 1⟩
def Reg.NET_PCFG.WAKEEN (p : Nat) : Fld := ⟨0x151000 + 0x40 * p, 7, 1, .so, 0, 0, 1⟩
def Reg.NET_PSTATUS.LINK (p : Nat) : Fld := ⟨0x151000 + 0x40 * p + 4, 0, 1, .ro, 0, 0, 1⟩
def Reg.NET_PSTATUS.RATE (p : Nat) : Fld := ⟨0x151000 + 0x40 * p + 4, 1, 3, .ro, 0, 0, 7⟩
def Reg.NET_PSTATUS.MASTER (p : Nat) : Fld := ⟨0x151000 + 0x40 * p + 4, 4, 1, .ro, 0, 0, 1⟩
def Reg.NET_PSTATUS.TC10 (p : Nat) : Fld := ⟨0x151000 + 0x40 * p + 4, 5, 2, .ro, 0, 0, 3⟩
def Reg.NET_PSTATUS.SQI (p : Nat) : Fld := ⟨0x151000 + 0x40 * p + 4, 8, 3, .ro, 0, 0, 7⟩
def Reg.NET_PDIAG.RUN (p : Nat) : Fld := ⟨0x151000 + 0x40 * p + 8, 0, 1, .wos, 0, 0, 1⟩
def Reg.NET_PDIAG.BUSY (p : Nat) : Fld := ⟨0x151000 + 0x40 * p + 8, 1, 1, .ro, 0, 0, 1⟩
def Reg.NET_PDIAG.RESULT (p : Nat) : Fld := ⟨0x151000 + 0x40 * p + 8, 2, 3, .ro, 0, 0, 7⟩
def Reg.NET_PDIAG.DIST (p : Nat) : Fld := ⟨0x151000 + 0x40 * p + 8, 8, 10, .ro, 0, 0, 0x3ff⟩
def Reg.NET_PMIR.RX (p : Nat) : Fld := ⟨0x151000 + 0x40 * p + 0xc, 0, 1, .so, 0, 0, 1⟩
def Reg.NET_PMIR.TX (p : Nat) : Fld := ⟨0x151000 + 0x40 * p + 0xc, 1, 1, .so, 0, 0, 1⟩
def Reg.NET_PMIR.SNAP (p : Nat) : Fld := ⟨0x151000 + 0x40 * p + 0xc, 4, 6, .so, 0, 0, 0x3f⟩
/-! Fields of 16_*.md R413. -/
def Reg.CAN_CFG.EN (n : Nat) : Fld := ⟨0x161000 + 0x100 * n, 0, 1, .rw, 0, 0, 1⟩
def Reg.CAN_CFG.TERM (n : Nat) : Fld := ⟨0x161000 + 0x100 * n, 1, 1, .rw, 0, 0, 1⟩
def Reg.CAN_CFG.FD (n : Nat) : Fld := ⟨0x161000 + 0x100 * n, 2, 1, .rw, 1, 0, 1⟩
def Reg.CAN_CFG.WAKEEN (n : Nat) : Fld := ⟨0x161000 + 0x100 * n, 3, 1, .rw, 0, 0, 1⟩
def Reg.CAN_DBT.TDC (n : Nat) : Fld := ⟨0x161000 + 0x100 * n + 8, 31, 1, .rw, 1, 0, 1⟩
def Reg.CAN_STATUS.STATE (n : Nat) : Fld := ⟨0x161000 + 0x100 * n + 0xc, 0, 2, .ro, 3, 0, 3⟩
def Reg.CAN_STATUS.TEC (n : Nat) : Fld := ⟨0x161000 + 0x100 * n + 0xc, 8, 8, .ro, 0, 0, 0xff⟩
def Reg.CAN_STATUS.REC (n : Nat) : Fld := ⟨0x161000 + 0x100 * n + 0xc, 16, 8, .ro, 0, 0, 0xff⟩
def Reg.CAN_STATUS.FAULT (n : Nat) : Fld := ⟨0x161000 + 0x100 * n + 0xc, 24, 4, .ro, 0, 0, 0xf⟩
def Reg.CAN_STATUS.GUARD_REJ (n : Nat) : Fld := ⟨0x161000 + 0x100 * n + 0xc, 28, 1, .w1c, 0, 0, 1⟩
def Reg.CAN_STATUS.RXOVF (n : Nat) : Fld := ⟨0x161000 + 0x100 * n + 0xc, 29, 1, .w1c, 0, 0, 1⟩
def Reg.CAN_STATUS.TXERR (n : Nat) : Fld := ⟨0x161000 + 0x100 * n + 0xc, 30, 1, .w1c, 0, 0, 1⟩
def Reg.CAN_PERMIT0.MODE (n : Nat) : Fld := ⟨0x161000 + 0x100 * n + 0x10, 0, 2, .ro, 0, 0, 3⟩
def Reg.CAN_PERMIT0.IDE (n : Nat) : Fld := ⟨0x161000 + 0x100 * n + 0x10, 2, 2, .ro, 0, 0, 3⟩
def Reg.CAN_PERMIT0.BURST (n : Nat) : Fld := ⟨0x161000 + 0x100 * n + 0x10, 4, 8, .ro, 0, 0, 0xff⟩
def Reg.CAN_PERMIT0.RATE (n : Nat) : Fld := ⟨0x161000 + 0x100 * n + 0x10, 12, 16, .ro, 0, 0, 0xffff⟩
def Reg.CAN_RXPOP.WORD (n : Nat) : Fld := ⟨0x161000 + 0x100 * n + 0x24, 0, 32, .ro, 0, 0, 0xffffffff⟩
def Reg.CAN_RXCNT.COUNT (n : Nat) : Fld := ⟨0x161000 + 0x100 * n + 0x28, 0, 7, .ro, 0, 0, 0x7f⟩
def Reg.CAN_TXPUSH.WORD (n : Nat) : Fld := ⟨0x161000 + 0x100 * n + 0x2c, 0, 32, .wo, 0, 0, 0xffffffff⟩
def Reg.CAN_TXCTRL.GO (n : Nat) : Fld := ⟨0x161000 + 0x100 * n + 0x30, 0, 1, .wo, 0, 0, 1⟩
def Reg.CAN_TXCTRL.TAG (n : Nat) : Fld := ⟨0x161000 + 0x100 * n + 0x30, 16, 16, .wo, 0, 0, 0xffff⟩
/-! Fields of 16_*.md R414. -/
def Reg.CAM_CFG.EN (n : Nat) : Fld := ⟨0x171000 + 0x80 * n, 0, 1, .so, 0, 0, 1⟩
def Reg.CAM_CFG.GEAR (n : Nat) : Fld := ⟨0x171000 + 0x80 * n, 1, 3, .so, 5, 1, 5⟩
def Reg.CAM_CFG.VC (n : Nat) : Fld := ⟨0x171000 + 0x80 * n, 4, 4, .so, 0, 0, 0xf⟩
def Reg.CAM_CFG.KEEP (n : Nat) : Fld := ⟨0x171000 + 0x80 * n, 8, 4, .so, 0, 0, 0xf⟩
def Reg.CAM_STATUS.LOCK (n : Nat) : Fld := ⟨0x171000 + 0x80 * n + 4, 0, 1, .ro, 0, 0, 1⟩
def Reg.CAM_STATUS.GEAR (n : Nat) : Fld := ⟨0x171000 + 0x80 * n + 4, 1, 3, .ro, 0, 0, 7⟩
def Reg.CAM_STATUS.FRAME (n : Nat) : Fld := ⟨0x171000 + 0x80 * n + 4, 16, 16, .ro, 0, 0, 0xffff⟩
def Reg.CAM_I2C.DATA (n : Nat) : Fld := ⟨0x171000 + 0x80 * n + 8, 0, 8, .so, 0, 0, 0xff⟩
def Reg.CAM_I2C.REG (n : Nat) : Fld := ⟨0x171000 + 0x80 * n + 8, 8, 8, .so, 0, 0, 0xff⟩
def Reg.CAM_I2C.DEV (n : Nat) : Fld := ⟨0x171000 + 0x80 * n + 8, 16, 7, .so, 0, 0, 0x7f⟩
def Reg.CAM_I2C.WRITE (n : Nat) : Fld := ⟨0x171000 + 0x80 * n + 8, 23, 1, .so, 0, 0, 1⟩
def Reg.CAM_I2C.GO (n : Nat) : Fld := ⟨0x171000 + 0x80 * n + 8, 24, 1, .wos, 0, 0, 1⟩
def Reg.CAM_I2C.BUSY (n : Nat) : Fld := ⟨0x171000 + 0x80 * n + 8, 25, 1, .ro, 0, 0, 1⟩
def Reg.CAM_I2C.NACK (n : Nat) : Fld := ⟨0x171000 + 0x80 * n + 8, 26, 1, .ro, 0, 0, 1⟩
/-! Fields of 16_*.md R415. -/
def Reg.DOCK_CFG.LASER_EN : Fld := ⟨0x180000, 0, 1, .so, 0, 0, 1⟩
def Reg.DOCK_CFG.LANES : Fld := ⟨0x180000, 8, 8, .so, 0xff, 0, 0xff⟩
def Reg.DOCK_STATUS.PRESENT : Fld := ⟨0x180004, 0, 1, .ro, 0, 0, 1⟩
def Reg.DOCK_STATUS.LASER : Fld := ⟨0x180004, 1, 1, .ro, 0, 0, 1⟩
def Reg.DOCK_STATUS.LANEUP : Fld := ⟨0x180004, 8, 8, .ro, 0, 0, 0xff⟩
def Reg.DOCK_STATUS.STREAM : Fld := ⟨0x180004, 16, 1, .ro, 0, 0, 1⟩
def Reg.DOCK_QCFG.PORT (q : Nat) : Fld := ⟨0x180000 + 0x10 * q + 0x100, 0, 16, .so, 0, 0, 0xffff⟩
def Reg.DOCK_QCFG.EN (q : Nat) : Fld := ⟨0x180000 + 0x10 * q + 0x100, 16, 1, .so, 0, 0, 1⟩
def Reg.TWN_CFG.EN : Fld := ⟨0x188000, 0, 1, .so, 0, 0, 1⟩
def Reg.TWN_CFG.LANES : Fld := ⟨0x188000, 1, 2, .so, 3, 0, 3⟩
def Reg.TWN_STATUS.LANEUP : Fld := ⟨0x188004, 0, 2, .ro, 0, 0, 3⟩
def Reg.TWN_STATUS.PARTNER : Fld := ⟨0x188004, 2, 1, .ro, 0, 0, 1⟩
def Reg.TWN_STATUS.PART : Fld := ⟨0x188004, 16, 16, .ro, 0, 0, 0xffff⟩
/-! Fields of 17_*.md R439. -/
def Reg.SES_STATUS.OPEN : Fld := ⟨0xf30000, 0, 1, .sov, 0, 0, 1⟩
def Reg.SES_STATUS.LEVEL : Fld := ⟨0xf30000, 1, 1, .sov, 0, 0, 1⟩
def Reg.SES_STATUS.TRANSPORT : Fld := ⟨0xf30000, 2, 2, .sov, 0, 0, 3⟩
def Reg.SES_STATUS.SLOT : Fld := ⟨0xf30000, 4, 1, .sov, 0, 0, 1⟩
def Reg.SES_STATUS.TRIAL : Fld := ⟨0xf30000, 5, 1, .sov, 0, 0, 1⟩
def Reg.SES_STATUS.FALLBACK : Fld := ⟨0xf30000, 6, 1, .sov, 0, 0, 1⟩
def Reg.SES_STATUS.RECOVERY : Fld := ⟨0xf30000, 7, 1, .sov, 0, 0, 1⟩
def Reg.SES_FWVER.VERSION : Fld := ⟨0xf30004, 0, 32, .sov, 0, 0, 0xffffffff⟩
/-! Fields of 18_*.md R451. -/
def Reg.PST_STATUS.STALE : Fld := ⟨0xf20000, 0, 1, .sov, 1, 0, 1⟩
def Reg.PST_STATUS.MISMATCH : Fld := ⟨0xf20000, 1, 1, .sov, 0, 0, 1⟩
def Reg.PST_STATUS.WORN_WR : Fld := ⟨0xf20000, 2, 1, .sov, 0, 0, 1⟩
def Reg.PST_STATUS.LIST_ERR : Fld := ⟨0xf20000, 3, 1, .sov, 0, 0, 1⟩
def Reg.PST_STATUS.ANY_WARN : Fld := ⟨0xf20000, 4, 1, .sov, 0, 0, 1⟩
def Reg.PST_STATUS.ANY_WORN : Fld := ⟨0xf20000, 5, 1, .sov, 0, 0, 1⟩
def Reg.PST_STATUS.LIST_IDX : Fld := ⟨0xf20000, 16, 11, .sov, 0, 0, 0x7ff⟩
def Reg.PST_GEN.GEN : Fld := ⟨0xf2000c, 0, 32, .sov, 0, 0, 0xffffffff⟩
def Reg.PST_PEER_GEN.GEN : Fld := ⟨0xf20018, 0, 32, .sov, 0, 0, 0xffffffff⟩
/-! Fields of 19_*.md R475. -/
def Reg.TWN_PAIR.ROLE : Fld := ⟨0x188020, 0, 2, .so, 0, 0, 3⟩
def Reg.TWN_PAIR.ATTACHED : Fld := ⟨0x188020, 2, 1, .so, 0, 0, 1⟩
def Reg.TWN_PAIR.ENGMASK : Fld := ⟨0x188020, 4, 4, .so, 0, 0, 0xf⟩
def Reg.TWN_PAIR.WAIT : Fld := ⟨0x188020, 8, 3, .so, 0, 0, 7⟩
def Reg.TWN_PARTNER_UNIT.UNIT : Fld := ⟨0x188024, 0, 32, .so, 0, 0, 0xffffffff⟩
def Reg.TWN_SYNC_STATUS.LOCK : Fld := ⟨0x188028, 0, 1, .ro, 0, 0, 1⟩
def Reg.TWN_SYNC_STATUS.DRIVE : Fld := ⟨0x188028, 1, 1, .ro, 0, 0, 1⟩
def Reg.TWN_SYNC_STATUS.FRAME : Fld := ⟨0x188028, 16, 16, .ro, 0, 0, 0xffff⟩
def Reg.TWN_SYNC_DELAY.D : Fld := ⟨0x18802c, 0, 8, .ro, 0, 0, 0xff⟩
def Reg.TWN_SYNC_DELAY.VALID : Fld := ⟨0x18802c, 8, 1, .ro, 0, 0, 1⟩
/-! Fields of 20_*.md R497. -/
def Reg.BSN_PWR_STATUS.STATE (n : Nat) : Fld := ⟨0x20000 + 0x2000 * n + 0x800, 0, 3, .ro, 0, 0, 7⟩
def Reg.BSN_PWR_STATUS.WAITING (n : Nat) : Fld := ⟨0x20000 + 0x2000 * n + 0x800, 8, 8, .ro, 0, 0, 0xff⟩
def Reg.BSN_PWR_STATUS.RETAIN (n : Nat) : Fld := ⟨0x20000 + 0x2000 * n + 0x800, 16, 8, .ro, 0, 0, 0xff⟩
/-! Fields of 20_*.md R498. -/
def Reg.PWR_STATUS.STATE : Fld := ⟨0xf00000, 0, 3, .sov, 0, 0, 7⟩
def Reg.PWR_STATUS.IGN : Fld := ⟨0xf00000, 3, 1, .sov, 0, 0, 1⟩
def Reg.PWR_STATUS.LIMIT : Fld := ⟨0xf00000, 4, 1, .sov, 0, 0, 1⟩
def Reg.PWR_STATUS.LOWIN : Fld := ⟨0xf00000, 5, 1, .sov, 0, 0, 1⟩
def Reg.PWR_STATUS.RES_LOW : Fld := ⟨0xf00000, 6, 1, .sov, 0, 0, 1⟩
def Reg.PWR_INPUT.MV : Fld := ⟨0xf00004, 0, 16, .sov, 0, 0, 0xffff⟩
def Reg.PWR_INPUT.LOAD : Fld := ⟨0xf00004, 16, 16, .sov, 0, 0, 0xffff⟩
def Reg.PWR_CHG.MODE : Fld := ⟨0xf00008, 0, 3, .sov, 0, 0, 7⟩
def Reg.PWR_CHG.MW : Fld := ⟨0xf00008, 16, 16, .sov, 0, 0, 0xffff⟩
def Reg.PWR_CFG.PREP : Fld := ⟨0xf0000c, 0, 10, .so, 0x1f4, 0, 0x3ff⟩
def Reg.PWR_CFG.BASIN_TO : Fld := ⟨0xf0000c, 16, 8, .so, 0x14, 0, 0xff⟩
def Reg.PWR_REFUSER.CODE : Fld := ⟨0xf00010, 0, 4, .sov, 0, 0, 0xf⟩
def Reg.PWR_REFUSER.BASIN : Fld := ⟨0xf00010, 4, 3, .sov, 0, 0, 7⟩
def Reg.PWR_REFUSER.INDEX : Fld := ⟨0xf00010, 8, 3, .sov, 0, 0, 7⟩
def Reg.PWR_REFUSER.TARGET : Fld := ⟨0xf00010, 16, 3, .sov, 0, 0, 7⟩
def Reg.PWR_LASTWAKE.SRC : Fld := ⟨0xf00014, 0, 4, .sov, 0, 0, 0xf⟩
def Reg.PWR_LASTWAKE.INDEX : Fld := ⟨0xf00014, 8, 4, .sov, 0, 0, 0xf⟩
def Reg.PWR_LASTWAKE.REPLAY : Fld := ⟨0xf00014, 12, 1, .sov, 0, 0, 1⟩
def Reg.PWR_LASTWAKE.FROM : Fld := ⟨0xf00014, 16, 3, .sov, 0, 0, 7⟩
def Reg.PWR_LASTOFF.CAUSE : Fld := ⟨0xf00018, 0, 3, .sov, 0, 0, 7⟩
def Reg.PWR_AO.UA : Fld := ⟨0xf0001c, 0, 12, .sov, 0, 0, 0xfff⟩
/-! Fields of 21_*.md R512. -/
def Reg.RST_CAUSE.CAUSE : Fld := ⟨0xf10000, 0, 4, .sov, 0, 0, 0xf⟩
def Reg.RST_CAUSE.PREV : Fld := ⟨0xf10000, 4, 4, .sov, 0, 0, 0xf⟩
def Reg.RST_CAUSE.TRIM_B : Fld := ⟨0xf10000, 8, 1, .sov, 0, 0, 1⟩
def Reg.RST_CAUSE.TRIM_FAILS : Fld := ⟨0xf10000, 9, 2, .sov, 0, 0, 3⟩
def Reg.RST_CAUSE.STW_DF : Fld := ⟨0xf10000, 11, 1, .sov, 0, 0, 1⟩
def Reg.RST_STATUS.STEP : Fld := ⟨0xf10004, 0, 4, .sov, 4, 0, 0xf⟩
def Reg.RST_STATUS.BLK_ERR : Fld := ⟨0xf10004, 4, 1, .sov, 0, 0, 1⟩
def Reg.RST_WDOG.TIMEOUT : Fld := ⟨0xf10008, 0, 14, .so, 0x3e8, 0, 0x3fff⟩
def Reg.RST_WDOG.KICK : Fld := ⟨0xf10008, 31, 1, .wos, 0, 0, 1⟩
def Reg.RST_BLOCK.CLASS : Fld := ⟨0xf1000c, 0, 5, .so, 0, 0, 0x1f⟩
def Reg.RST_BLOCK.INDEX : Fld := ⟨0xf1000c, 8, 6, .so, 0, 0, 0x3f⟩
def Reg.RST_BLOCK.BUSY : Fld := ⟨0xf1000c, 30, 1, .ro, 0, 0, 1⟩
def Reg.RST_BLOCK.GO : Fld := ⟨0xf1000c, 31, 1, .wos, 0, 0, 1⟩
/-! Fields of 22_*.md R537. -/
def Reg.PWR_THERM.BASE_T : Fld := ⟨0xf04000, 0, 8, .sov, 0, 0, 0xff⟩
def Reg.PWR_THERM.NAND_T : Fld := ⟨0xf04000, 8, 8, .sov, 0, 0, 0xff⟩
def Reg.PWR_THERM.RES_T : Fld := ⟨0xf04000, 16, 8, .sov, 0, 0, 0xff⟩
def Reg.PWR_THERM.STATE : Fld := ⟨0xf04000, 24, 2, .sov, 0, 0, 3⟩
def Reg.PWR_THERM.TRIPPED : Fld := ⟨0xf04000, 26, 1, .sov, 0, 0, 1⟩
def Reg.PWR_THERM_CEIL.GOV : Fld := ⟨0xf04004, 0, 8, .sov, 0, 0, 0xff⟩
def Reg.PWR_THERM_CEIL.LCODE : Fld := ⟨0xf04004, 8, 7, .sov, 0x64, 0, 0x7f⟩
/-! Fields of 02_*.md R78. -/
def Reg.ANG_MSRC0.A (n : Nat) : Fld := ⟨0x100000 + 0x1000 * n + 0x5c, 0, 6, .rw, 0, 0, 0x3f⟩
def Reg.ANG_MSRC0.B (n : Nat) : Fld := ⟨0x100000 + 0x1000 * n + 0x5c, 8, 6, .rw, 1, 0, 0x3f⟩
def Reg.ANG_MSRC0.Z (n : Nat) : Fld := ⟨0x100000 + 0x1000 * n + 0x5c, 16, 6, .rw, 2, 0, 0x3f⟩
def Reg.ANG_MSRC1.U (n : Nat) : Fld := ⟨0x100000 + 0x1000 * n + 0x60, 0, 6, .rw, 0, 0, 0x3f⟩
def Reg.ANG_MSRC1.V (n : Nat) : Fld := ⟨0x100000 + 0x1000 * n + 0x60, 8, 6, .rw, 1, 0, 0x3f⟩
def Reg.ANG_MSRC1.W (n : Nat) : Fld := ⟨0x100000 + 0x1000 * n + 0x60, 16, 6, .rw, 2, 0, 0x3f⟩
def Reg.ANG_DONE0.SLOT (n : Nat) : Fld := ⟨0x100000 + 0x1000 * n + 0x80, 0, 32, .w1s, 0, 0, 0xffffffff⟩
def Reg.ANG_OPEN0.SLOT (n : Nat) : Fld := ⟨0x100000 + 0x1000 * n + 0x88, 0, 32, .ro, 0, 0, 0xffffffff⟩
def Reg.ANG_DONE1.SLOT (n : Nat) : Fld := ⟨0x100000 + 0x1000 * n + 0x84, 0, 32, .w1s, 0, 0, 0xffffffff⟩
def Reg.ANG_OPEN1.SLOT (n : Nat) : Fld := ⟨0x100000 + 0x1000 * n + 0x8c, 0, 32, .ro, 0, 0, 0xffffffff⟩
def Reg.ANG_NOISE.COUNT (n : Nat) : Fld := ⟨0x100000 + 0x1000 * n + 0x90, 0, 31, .ro, 0, 0, 0x7fffffff⟩
def Reg.ANG_NOISE.OVF (n : Nat) : Fld := ⟨0x100000 + 0x1000 * n + 0x90, 31, 1, .w1c, 0, 0, 1⟩
def Reg.ANG_MISMATCH.COUNT (n : Nat) : Fld := ⟨0x100000 + 0x1000 * n + 0x94, 0, 31, .ro, 0, 0, 0x7fffffff⟩
def Reg.ANG_MISMATCH.OVF (n : Nat) : Fld := ⟨0x100000 + 0x1000 * n + 0x94, 31, 1, .w1c, 0, 0, 1⟩
def Reg.ANG_SYNCLOSS.COUNT (n : Nat) : Fld := ⟨0x100000 + 0x1000 * n + 0x98, 0, 31, .ro, 0, 0, 0x7fffffff⟩
def Reg.ANG_SYNCLOSS.OVF (n : Nat) : Fld := ⟨0x100000 + 0x1000 * n + 0x98, 31, 1, .w1c, 0, 0, 1⟩
def Reg.ANG_CAMERR.COUNT (n : Nat) : Fld := ⟨0x100000 + 0x1000 * n + 0x9c, 0, 31, .ro, 0, 0, 0x7fffffff⟩
def Reg.ANG_CAMERR.OVF (n : Nat) : Fld := ⟨0x100000 + 0x1000 * n + 0x9c, 31, 1, .w1c, 0, 0, 1⟩
def Reg.ANG_MISSED.COUNT (n : Nat) : Fld := ⟨0x100000 + 0x1000 * n + 0xa0, 0, 31, .ro, 0, 0, 0x7fffffff⟩
def Reg.ANG_MISSED.OVF (n : Nat) : Fld := ⟨0x100000 + 0x1000 * n + 0xa0, 31, 1, .w1c, 0, 0, 1⟩
def Reg.ANG_LATE.COUNT (n : Nat) : Fld := ⟨0x100000 + 0x1000 * n + 0xa4, 0, 31, .ro, 0, 0, 0x7fffffff⟩
def Reg.ANG_LATE.OVF (n : Nat) : Fld := ⟨0x100000 + 0x1000 * n + 0xa4, 31, 1, .w1c, 0, 0, 1⟩
def Reg.ANG_EVTDROP.COUNT (n : Nat) : Fld := ⟨0x100000 + 0x1000 * n + 0xa8, 0, 31, .ro, 0, 0, 0x7fffffff⟩
def Reg.ANG_EVTDROP.OVF (n : Nat) : Fld := ⟨0x100000 + 0x1000 * n + 0xa8, 31, 1, .w1c, 0, 0, 1⟩
def Reg.ANG_WHEEL.POS (n i : Nat) : Fld := ⟨0x100000 + 0x1000 * n + 4 * i + 0x100, 0, 32, .rw, 0, 0, 0xffffffff⟩
/-! Fields of 03_*.md R91. -/
def Reg.TIM_NOW_LO.NS : Fld := ⟨0x110008, 0, 32, .ro, 0, 0, 0xffffffff⟩
def Reg.TIM_NOW_HI.NS : Fld := ⟨0x11000c, 0, 32, .ro, 0, 0, 0xffffffff⟩
def Reg.TIM_STEP_LO.NS : Fld := ⟨0x110014, 0, 32, .wos, 0, 0, 0xffffffff⟩
def Reg.TIM_STEP_HI.NS : Fld := ⟨0x110018, 0, 32, .wos, 0, 0, 0xffffffff⟩
def Reg.TIM_PPS_NOISE.COUNT : Fld := ⟨0x110050, 0, 31, .ro, 0, 0, 0x7fffffff⟩
def Reg.TIM_PPS_NOISE.OVF : Fld := ⟨0x110050, 31, 1, .w1c, 0, 0, 1⟩
def Reg.TIM_PPS_MISS.COUNT : Fld := ⟨0x110054, 0, 31, .ro, 0, 0, 0x7fffffff⟩
def Reg.TIM_PPS_MISS.OVF : Fld := ⟨0x110054, 31, 1, .w1c, 0, 0, 1⟩
def Reg.TIM_STEPS.COUNT : Fld := ⟨0x110058, 0, 31, .ro, 0, 0, 0x7fffffff⟩
def Reg.TIM_STEPS.OVF : Fld := ⟨0x110058, 31, 1, .w1c, 0, 0, 1⟩
/-! Fields of 04_*.md R96. -/
def Reg.AIN_GSTREAM.RUNNEL (g : Nat) : Fld := ⟨0x120800 + 0x20 * g + 4, 0, 6, .rw, 0, 0, 0x3f⟩
def Reg.AIN_GSTREAM.BASE (g : Nat) : Fld := ⟨0x120800 + 0x20 * g + 4, 8, 3, .rw, 4, 0, 4⟩
def Reg.AIN_GSTREAM.PKT_WORDS (g : Nat) : Fld := ⟨0x120800 + 0x20 * g + 4, 12, 12, .rw, 0x400, 0, 0xfff⟩
def Reg.AIN_GSTREAM.AGE (g : Nat) : Fld := ⟨0x120800 + 0x20 * g + 4, 24, 8, .rw, 0, 0, 0xff⟩
def Reg.FIN_STREAM.RUNNEL (n : Nat) : Fld := ⟨0x124000 + 0x40 * n + 4, 0, 6, .rw, 0, 0, 0x3f⟩
def Reg.FIN_STREAM.BASE (n : Nat) : Fld := ⟨0x124000 + 0x40 * n + 4, 8, 3, .rw, 4, 0, 4⟩
def Reg.FIN_STREAM.PKT_WORDS (n : Nat) : Fld := ⟨0x124000 + 0x40 * n + 4, 12, 12, .rw, 0x400, 0, 0xfff⟩
def Reg.FIN_STREAM.AGE (n : Nat) : Fld := ⟨0x124000 + 0x40 * n + 4, 24, 8, .rw, 0, 0, 0xff⟩
def Reg.DIN_GSTREAM.RUNNEL (g : Nat) : Fld := ⟨0x126500 + 0x20 * g + 4, 0, 6, .rw, 0, 0, 0x3f⟩
def Reg.DIN_GSTREAM.BASE (g : Nat) : Fld := ⟨0x126500 + 0x20 * g + 4, 8, 3, .rw, 4, 0, 4⟩
def Reg.DIN_GSTREAM.PKT_WORDS (g : Nat) : Fld := ⟨0x126500 + 0x20 * g + 4, 12, 12, .rw, 0x400, 0, 0xfff⟩
def Reg.DIN_GSTREAM.AGE (g : Nat) : Fld := ⟨0x126500 + 0x20 * g + 4, 24, 8, .rw, 0, 0, 0xff⟩
/-! Fields of 04_*.md R110. -/
def Reg.AIN_OVRNG.INPUT (n : Nat) : Fld := ⟨0x120000 + 4 * n + 0x400, 0, 32, .w1c, 0, 0, 0xffffffff⟩
/-! Fields of 04_*.md R114. -/
def Reg.FIN_AWIN_LO.ANGLE (n : Nat) : Fld := ⟨0x124000 + 0x40 * n + 0x14, 0, 20, .rw, 0, 0, 0xfffff⟩
def Reg.FIN_AWIN_HI.ANGLE (n : Nat) : Fld := ⟨0x124000 + 0x40 * n + 0x18, 0, 20, .rw, 0, 0, 0xfffff⟩
/-! Fields of 04_*.md R110. -/
def Reg.AIN_GOVR.COUNT (g : Nat) : Fld := ⟨0x120800 + 0x20 * g + 0x18, 0, 31, .ro, 0, 0, 0x7fffffff⟩
def Reg.AIN_GOVR.OVF (g : Nat) : Fld := ⟨0x120800 + 0x20 * g + 0x18, 31, 1, .w1c, 0, 0, 1⟩
def Reg.AIN_GDROP.COUNT (g : Nat) : Fld := ⟨0x120800 + 0x20 * g + 0x1c, 0, 31, .ro, 0, 0, 0x7fffffff⟩
def Reg.AIN_GDROP.OVF (g : Nat) : Fld := ⟨0x120800 + 0x20 * g + 0x1c, 31, 1, .w1c, 0, 0, 1⟩
def Reg.FIN_OVR.COUNT (n : Nat) : Fld := ⟨0x124000 + 0x40 * n + 0x2c, 0, 31, .ro, 0, 0, 0x7fffffff⟩
def Reg.FIN_OVR.OVF (n : Nat) : Fld := ⟨0x124000 + 0x40 * n + 0x2c, 31, 1, .w1c, 0, 0, 1⟩
def Reg.FIN_DROP.COUNT (n : Nat) : Fld := ⟨0x124000 + 0x40 * n + 0x30, 0, 31, .ro, 0, 0, 0x7fffffff⟩
def Reg.FIN_DROP.OVF (n : Nat) : Fld := ⟨0x124000 + 0x40 * n + 0x30, 31, 1, .w1c, 0, 0, 1⟩
def Reg.FIN_SKIP.COUNT (n : Nat) : Fld := ⟨0x124000 + 0x40 * n + 0x34, 0, 31, .ro, 0, 0, 0x7fffffff⟩
def Reg.FIN_SKIP.OVF (n : Nat) : Fld := ⟨0x124000 + 0x40 * n + 0x34, 31, 1, .w1c, 0, 0, 1⟩
def Reg.DIN_GDROP.COUNT (g : Nat) : Fld := ⟨0x126500 + 0x20 * g + 0xc, 0, 31, .ro, 0, 0, 0x7fffffff⟩
def Reg.DIN_GDROP.OVF (g : Nat) : Fld := ⟨0x126500 + 0x20 * g + 0xc, 31, 1, .w1c, 0, 0, 1⟩
/-! Fields of 05_*.md R140. -/
def Reg.AIN_FAULT.NOW (n : Nat) : Fld := ⟨0x120000 + 4 * n + 0x1000, 0, 4, .ro, 0, 0, 0xf⟩
def Reg.AIN_FAULT.LATCHED (n : Nat) : Fld := ⟨0x120000 + 4 * n + 0x1000, 4, 1, .ro, 0, 0, 1⟩
def Reg.AIN_FAULT.DIAG (n : Nat) : Fld := ⟨0x120000 + 4 * n + 0x1000, 5, 1, .rw, 1, 0, 1⟩
def Reg.AIN_FAULT.SEEN (n : Nat) : Fld := ⟨0x120000 + 4 * n + 0x1000, 8, 7, .w1c, 0, 0, 0x7f⟩
def Reg.AIN_FAULT.RETRY_MAX (n : Nat) : Fld := ⟨0x120000 + 4 * n + 0x1000, 16, 4, .ro, 0, 0, 0xf⟩
def Reg.AIN_FAULT.RETRIES (n : Nat) : Fld := ⟨0x120000 + 4 * n + 0x1000, 20, 8, .ro, 0, 0, 0xff⟩
def Reg.FIN_FAULT.NOW (n : Nat) : Fld := ⟨0x124000 + 0x40 * n + 0x38, 0, 4, .ro, 0, 0, 0xf⟩
def Reg.FIN_FAULT.LATCHED (n : Nat) : Fld := ⟨0x124000 + 0x40 * n + 0x38, 4, 1, .ro, 0, 0, 1⟩
def Reg.FIN_FAULT.DIAG (n : Nat) : Fld := ⟨0x124000 + 0x40 * n + 0x38, 5, 1, .rw, 1, 0, 1⟩
def Reg.FIN_FAULT.SEEN (n : Nat) : Fld := ⟨0x124000 + 0x40 * n + 0x38, 8, 7, .w1c, 0, 0, 0x7f⟩
def Reg.FIN_FAULT.RETRY_MAX (n : Nat) : Fld := ⟨0x124000 + 0x40 * n + 0x38, 16, 4, .ro, 0, 0, 0xf⟩
def Reg.FIN_FAULT.RETRIES (n : Nat) : Fld := ⟨0x124000 + 0x40 * n + 0x38, 20, 8, .ro, 0, 0, 0xff⟩
def Reg.DIN_FAULT.NOW (n : Nat) : Fld := ⟨0x126000 + 0x10 * n + 0xc, 0, 4, .ro, 0, 0, 0xf⟩
def Reg.DIN_FAULT.LATCHED (n : Nat) : Fld := ⟨0x126000 + 0x10 * n + 0xc, 4, 1, .ro, 0, 0, 1⟩
def Reg.DIN_FAULT.DIAG (n : Nat) : Fld := ⟨0x126000 + 0x10 * n + 0xc, 5, 1, .rw, 1, 0, 1⟩
def Reg.DIN_FAULT.SEEN (n : Nat) : Fld := ⟨0x126000 + 0x10 * n + 0xc, 8, 7, .w1c, 0, 0, 0x7f⟩
def Reg.DIN_FAULT.RETRY_MAX (n : Nat) : Fld := ⟨0x126000 + 0x10 * n + 0xc, 16, 4, .ro, 0, 0, 0xf⟩
def Reg.DIN_FAULT.RETRIES (n : Nat) : Fld := ⟨0x126000 + 0x10 * n + 0xc, 20, 8, .ro, 0, 0, 0xff⟩
def Reg.ANG_RES_FAULT.NOW (n : Nat) : Fld := ⟨0x100000 + 0x1000 * n + 0xb0, 0, 4, .ro, 0, 0, 0xf⟩
def Reg.ANG_RES_FAULT.LATCHED (n : Nat) : Fld := ⟨0x100000 + 0x1000 * n + 0xb0, 4, 1, .ro, 0, 0, 1⟩
def Reg.ANG_RES_FAULT.DIAG (n : Nat) : Fld := ⟨0x100000 + 0x1000 * n + 0xb0, 5, 1, .rw, 1, 0, 1⟩
def Reg.ANG_RES_FAULT.SEEN (n : Nat) : Fld := ⟨0x100000 + 0x1000 * n + 0xb0, 8, 7, .w1c, 0, 0, 0x7f⟩
def Reg.ANG_RES_FAULT.RETRY_MAX (n : Nat) : Fld := ⟨0x100000 + 0x1000 * n + 0xb0, 16, 4, .ro, 0, 0, 0xf⟩
def Reg.ANG_RES_FAULT.RETRIES (n : Nat) : Fld := ⟨0x100000 + 0x1000 * n + 0xb0, 20, 8, .ro, 0, 0, 0xff⟩
def Reg.TIM_PPS_FAULT.NOW : Fld := ⟨0x110060, 0, 4, .ro, 0, 0, 0xf⟩
def Reg.TIM_PPS_FAULT.LATCHED : Fld := ⟨0x110060, 4, 1, .ro, 0, 0, 1⟩
def Reg.TIM_PPS_FAULT.DIAG : Fld := ⟨0x110060, 5, 1, .rw, 1, 0, 1⟩
def Reg.TIM_PPS_FAULT.SEEN : Fld := ⟨0x110060, 8, 7, .w1c, 0, 0, 0x7f⟩
def Reg.TIM_PPS_FAULT.RETRY_MAX : Fld := ⟨0x110060, 16, 4, .ro, 0, 0, 0xf⟩
def Reg.TIM_PPS_FAULT.RETRIES : Fld := ⟨0x110060, 20, 8, .ro, 0, 0, 0xff⟩
def Reg.TWN_SYNC_FAULT.NOW : Fld := ⟨0x188030, 0, 4, .ro, 0, 0, 0xf⟩
def Reg.TWN_SYNC_FAULT.LATCHED : Fld := ⟨0x188030, 4, 1, .ro, 0, 0, 1⟩
def Reg.TWN_SYNC_FAULT.DIAG : Fld := ⟨0x188030, 5, 1, .rw, 1, 0, 1⟩
def Reg.TWN_SYNC_FAULT.SEEN : Fld := ⟨0x188030, 8, 7, .w1c, 0, 0, 0x7f⟩
def Reg.TWN_SYNC_FAULT.RETRY_MAX : Fld := ⟨0x188030, 16, 4, .ro, 0, 0, 0xf⟩
def Reg.TWN_SYNC_FAULT.RETRIES : Fld := ⟨0x188030, 20, 8, .ro, 0, 0, 0xff⟩
def Reg.PWR_IGN_FAULT.NOW : Fld := ⟨0xf00020, 0, 4, .ro, 0, 0, 0xf⟩
def Reg.PWR_IGN_FAULT.LATCHED : Fld := ⟨0xf00020, 4, 1, .ro, 0, 0, 1⟩
def Reg.PWR_IGN_FAULT.DIAG : Fld := ⟨0xf00020, 5, 1, .rw, 1, 0, 1⟩
def Reg.PWR_IGN_FAULT.SEEN : Fld := ⟨0xf00020, 8, 7, .w1c, 0, 0, 0x7f⟩
def Reg.PWR_IGN_FAULT.RETRY_MAX : Fld := ⟨0xf00020, 16, 4, .ro, 0, 0, 0xf⟩
def Reg.PWR_IGN_FAULT.RETRIES : Fld := ⟨0xf00020, 20, 8, .ro, 0, 0, 0xff⟩
def Reg.EXC_FAULT.NOW (n : Nat) : Fld := ⟨0x128000 + 0x10 * n + 0xc, 0, 4, .ro, 0, 0, 0xf⟩
def Reg.EXC_FAULT.LATCHED (n : Nat) : Fld := ⟨0x128000 + 0x10 * n + 0xc, 4, 1, .ro, 0, 0, 1⟩
def Reg.EXC_FAULT.DIAG (n : Nat) : Fld := ⟨0x128000 + 0x10 * n + 0xc, 5, 1, .ro, 1, 0, 1⟩
def Reg.EXC_FAULT.SEEN (n : Nat) : Fld := ⟨0x128000 + 0x10 * n + 0xc, 8, 7, .w1c, 0, 0, 0x7f⟩
def Reg.EXC_FAULT.RETRY_MAX (n : Nat) : Fld := ⟨0x128000 + 0x10 * n + 0xc, 16, 4, .rw, 3, 0, 0xf⟩
def Reg.EXC_FAULT.RETRIES (n : Nat) : Fld := ⟨0x128000 + 0x10 * n + 0xc, 20, 8, .ro, 0, 0, 0xff⟩
def Reg.TRG_FAULT.NOW (n : Nat) : Fld := ⟨0x12A000 + 0x10 * n + 0xc, 0, 4, .ro, 0, 0, 0xf⟩
def Reg.TRG_FAULT.LATCHED (n : Nat) : Fld := ⟨0x12A000 + 0x10 * n + 0xc, 4, 1, .ro, 0, 0, 1⟩
def Reg.TRG_FAULT.DIAG (n : Nat) : Fld := ⟨0x12A000 + 0x10 * n + 0xc, 5, 1, .ro, 1, 0, 1⟩
def Reg.TRG_FAULT.SEEN (n : Nat) : Fld := ⟨0x12A000 + 0x10 * n + 0xc, 8, 7, .w1c, 0, 0, 0x7f⟩
def Reg.TRG_FAULT.RETRY_MAX (n : Nat) : Fld := ⟨0x12A000 + 0x10 * n + 0xc, 16, 4, .rw, 3, 0, 0xf⟩
def Reg.TRG_FAULT.RETRIES (n : Nat) : Fld := ⟨0x12A000 + 0x10 * n + 0xc, 20, 8, .ro, 0, 0, 0xff⟩
def Reg.TRG_CAPPED.COUNT (n : Nat) : Fld := ⟨0x12A200 + 4 * n, 0, 31, .ro, 0, 0, 0x7fffffff⟩
def Reg.TRG_CAPPED.OVF (n : Nat) : Fld := ⟨0x12A200 + 4 * n, 31, 1, .w1c, 0, 0, 1⟩
/-! Fields of 06_*.md R160. -/
def Reg.RUN_CE.COUNT (r : Nat) : Fld := ⟨0x130000 + 0x400 * r + 0x30, 0, 31, .ro, 0, 0, 0x7fffffff⟩
def Reg.RUN_CE.OVF (r : Nat) : Fld := ⟨0x130000 + 0x400 * r + 0x30, 31, 1, .w1c, 0, 0, 1⟩
def Reg.RUN_UE.COUNT (r : Nat) : Fld := ⟨0x130000 + 0x400 * r + 0x34, 0, 31, .ro, 0, 0, 0x7fffffff⟩
def Reg.RUN_UE.OVF (r : Nat) : Fld := ⟨0x130000 + 0x400 * r + 0x34, 31, 1, .w1c, 0, 0, 1⟩
def Reg.RUN_SEGS.COUNT (r : Nat) : Fld := ⟨0x130000 + 0x400 * r + 0x38, 0, 31, .ro, 0, 0, 0x7fffffff⟩
def Reg.RUN_SEGS.OVF (r : Nat) : Fld := ⟨0x130000 + 0x400 * r + 0x38, 31, 1, .w1c, 0, 0, 1⟩
def Reg.RUN_DISCARD.COUNT (r : Nat) : Fld := ⟨0x130000 + 0x400 * r + 0x3c, 0, 31, .ro, 0, 0, 0x7fffffff⟩
def Reg.RUN_DISCARD.OVF (r : Nat) : Fld := ⟨0x130000 + 0x400 * r + 0x3c, 31, 1, .w1c, 0, 0, 1⟩
/-! Fields of 08_*.md R206. -/
def Reg.SLC_XFERS.COUNT (c : Nat) : Fld := ⟨0x21000 + 0x2000 * (c / 8) + 0x80 * (c % 8) + 0x2c, 0, 31, .ro, 0, 0, 0x7fffffff⟩
def Reg.SLC_XFERS.OVF (c : Nat) : Fld := ⟨0x21000 + 0x2000 * (c / 8) + 0x80 * (c % 8) + 0x2c, 31, 1, .w1c, 0, 0, 1⟩
/-! Fields of 09_*.md R238. -/
def Reg.RSV_ADMIT_LO.GSEQ : Fld := ⟨0x140008, 0, 32, .ro, 0xffffffff, 0, 0xffffffff⟩
def Reg.RSV_COMMIT_LO.GSEQ : Fld := ⟨0x140010, 0, 32, .ro, 0xffffffff, 0, 0xffffffff⟩
def Reg.RSV_ADMIT_HI.GSEQ : Fld := ⟨0x14000c, 0, 32, .ro, 0xffffffff, 0, 0xffffffff⟩
def Reg.RSV_COMMIT_HI.GSEQ : Fld := ⟨0x140014, 0, 32, .ro, 0xffffffff, 0, 0xffffffff⟩
def Reg.RSV_LFL_MS.V : Fld := ⟨0x14002c, 0, 32, .ro, 0, 0, 0xffffffff⟩
def Reg.RSV_LFL_MIB.V : Fld := ⟨0x140030, 0, 32, .ro, 0, 0, 0xffffffff⟩
def Reg.RSV_LFL_LOST.V : Fld := ⟨0x140034, 0, 32, .ro, 0, 0, 0xffffffff⟩
def Reg.RSV_LFL_EJ.V : Fld := ⟨0x140038, 0, 32, .ro, 0, 0, 0xffffffff⟩
def Reg.WEIR_RGN_FILL.OFFSET (r : Nat) : Fld := ⟨0x148100 + 0x20 * r + 8, 0, 32, .ro, 0, 0, 0xffffffff⟩
def Reg.WEIR_RGN_POST.OFFSET (r : Nat) : Fld := ⟨0x148100 + 0x20 * r + 0xc, 0, 32, .ro, 0, 0, 0xffffffff⟩
def Reg.WEIR_RGN_DONE.OFFSET (r : Nat) : Fld := ⟨0x148100 + 0x20 * r + 0x10, 0, 32, .ro, 0, 0, 0xffffffff⟩
def Reg.RSV_RING_DONE.COUNT (n : Nat) : Fld := ⟨0x140100 + 0x20 * n + 0x18, 0, 31, .ro, 0, 0, 0x7fffffff⟩
def Reg.RSV_RING_DONE.OVF (n : Nat) : Fld := ⟨0x140100 + 0x20 * n + 0x18, 31, 1, .w1c, 0, 0, 1⟩
def Reg.RSV_CE.COUNT : Fld := ⟨0x140040, 0, 31, .ro, 0, 0, 0x7fffffff⟩
def Reg.RSV_CE.OVF : Fld := ⟨0x140040, 31, 1, .w1c, 0, 0, 1⟩
def Reg.RSV_UE.COUNT : Fld := ⟨0x140044, 0, 31, .ro, 0, 0, 0x7fffffff⟩
def Reg.RSV_UE.OVF : Fld := ⟨0x140044, 31, 1, .w1c, 0, 0, 1⟩
def Reg.RSV_REFUSED.COUNT : Fld := ⟨0x140048, 0, 31, .ro, 0, 0, 0x7fffffff⟩
def Reg.RSV_REFUSED.OVF : Fld := ⟨0x140048, 31, 1, .w1c, 0, 0, 1⟩
def Reg.RSV_PFAIL.COUNT : Fld := ⟨0x14004c, 0, 31, .ro, 0, 0, 0x7fffffff⟩
def Reg.RSV_PFAIL.OVF : Fld := ⟨0x14004c, 31, 1, .w1c, 0, 0, 1⟩
def Reg.RSV_EFAIL.COUNT : Fld := ⟨0x140050, 0, 31, .ro, 0, 0, 0x7fffffff⟩
def Reg.RSV_EFAIL.OVF : Fld := ⟨0x140050, 31, 1, .w1c, 0, 0, 1⟩
def Reg.RSV_ERASE_CAPPED.COUNT : Fld := ⟨0x140054, 0, 31, .ro, 0, 0, 0x7fffffff⟩
def Reg.RSV_ERASE_CAPPED.OVF : Fld := ⟨0x140054, 31, 1, .w1c, 0, 0, 1⟩
def Reg.WEIR_REFUSED.COUNT : Fld := ⟨0x148020, 0, 31, .ro, 0, 0, 0x7fffffff⟩
def Reg.WEIR_REFUSED.OVF : Fld := ⟨0x148020, 31, 1, .w1c, 0, 0, 1⟩
def Reg.WEIR_DIPS.COUNT : Fld := ⟨0x148024, 0, 31, .ro, 0, 0, 0x7fffffff⟩
def Reg.WEIR_DIPS.OVF : Fld := ⟨0x148024, 31, 1, .w1c, 0, 0, 1⟩
/-! Fields of 11_*.md R303. -/
def Reg.CORE_TOKS.COUNT (k : Nat) : Fld := ⟨0x100000000 + 0x1000 * k + 0xc0, 0, 31, .ro, 0, 0, 0x7fffffff⟩
def Reg.CORE_TOKS.OVF (k : Nat) : Fld := ⟨0x100000000 + 0x1000 * k + 0xc0, 31, 1, .w1c, 0, 0, 1⟩
def Reg.CORE_INSNS.COUNT (k : Nat) : Fld := ⟨0x100000000 + 0x1000 * k + 0xc4, 0, 31, .ro, 0, 0, 0x7fffffff⟩
def Reg.CORE_INSNS.OVF (k : Nat) : Fld := ⟨0x100000000 + 0x1000 * k + 0xc4, 31, 1, .w1c, 0, 0, 1⟩
def Reg.CORE_PAIRS.COUNT (k : Nat) : Fld := ⟨0x100000000 + 0x1000 * k + 0xc8, 0, 31, .ro, 0, 0, 0x7fffffff⟩
def Reg.CORE_PAIRS.OVF (k : Nat) : Fld := ⟨0x100000000 + 0x1000 * k + 0xc8, 31, 1, .w1c, 0, 0, 1⟩
def Reg.CORE_ICMISS.COUNT (k : Nat) : Fld := ⟨0x100000000 + 0x1000 * k + 0xcc, 0, 31, .ro, 0, 0, 0x7fffffff⟩
def Reg.CORE_ICMISS.OVF (k : Nat) : Fld := ⟨0x100000000 + 0x1000 * k + 0xcc, 31, 1, .w1c, 0, 0, 1⟩
def Reg.CORE_DCMISS.COUNT (k : Nat) : Fld := ⟨0x100000000 + 0x1000 * k + 0xd0, 0, 31, .ro, 0, 0, 0x7fffffff⟩
def Reg.CORE_DCMISS.OVF (k : Nat) : Fld := ⟨0x100000000 + 0x1000 * k + 0xd0, 31, 1, .w1c, 0, 0, 1⟩
/-! Fields of 11_*.md R304. -/
def Reg.BSN_OVRCNT.COUNT (n : Nat) : Fld := ⟨0x20000 + 0x2000 * n + 0x28, 0, 31, .ro, 0, 0, 0x7fffffff⟩
def Reg.BSN_OVRCNT.OVF (n : Nat) : Fld := ⟨0x20000 + 0x2000 * n + 0x28, 31, 1, .w1c, 0, 0, 1⟩
/-! Fields of 12_*.md R325. -/
def Reg.BSN_WCS_DATA0.WORD (n : Nat) : Fld := ⟨0x20000 + 0x2000 * n + 0xc0c, 0, 32, .so, 0, 0, 0xffffffff⟩
def Reg.BSN_WCS_DATA1.WORD (n : Nat) : Fld := ⟨0x20000 + 0x2000 * n + 0xc10, 0, 32, .so, 0, 0, 0xffffffff⟩
def Reg.BSN_WCS_DATA2.WORD (n : Nat) : Fld := ⟨0x20000 + 0x2000 * n + 0xc14, 0, 24, .so, 0, 0, 0xffffff⟩
def Reg.BSN_WCS_CE.COUNT (n : Nat) : Fld := ⟨0x20000 + 0x2000 * n + 0xc18, 0, 31, .ro, 0, 0, 0x7fffffff⟩
def Reg.BSN_WCS_CE.OVF (n : Nat) : Fld := ⟨0x20000 + 0x2000 * n + 0xc18, 31, 1, .w1c, 0, 0, 1⟩
/-! Fields of 13_*.md R344. -/
def Reg.EVT_NRING_DROP.COUNT (k : Nat) : Fld := ⟨0x100000000 + 0x1000 * k + 0x13c, 0, 31, .ro, 0, 0, 0x7fffffff⟩
def Reg.EVT_NRING_DROP.OVF (k : Nat) : Fld := ⟨0x100000000 + 0x1000 * k + 0x13c, 31, 1, .w1c, 0, 0, 1⟩
def Reg.EVT_FRING_DROP.COUNT (k : Nat) : Fld := ⟨0x100000000 + 0x1000 * k + 0x14c, 0, 31, .ro, 0, 0, 0x7fffffff⟩
def Reg.EVT_FRING_DROP.OVF (k : Nat) : Fld := ⟨0x100000000 + 0x1000 * k + 0x14c, 31, 1, .w1c, 0, 0, 1⟩
/-! Fields of 14_*.md R360. -/
def Reg.BSN_JET_OPS.COUNT (n : Nat) : Fld := ⟨0x20000 + 0x2000 * n + 0xd04, 0, 31, .ro, 0, 0, 0x7fffffff⟩
def Reg.BSN_JET_OPS.OVF (n : Nat) : Fld := ⟨0x20000 + 0x2000 * n + 0xd04, 31, 1, .w1c, 0, 0, 1⟩
def Reg.BSN_JET_CE.COUNT (n : Nat) : Fld := ⟨0x20000 + 0x2000 * n + 0xd08, 0, 31, .ro, 0, 0, 0x7fffffff⟩
def Reg.BSN_JET_CE.OVF (n : Nat) : Fld := ⟨0x20000 + 0x2000 * n + 0xd08, 31, 1, .w1c, 0, 0, 1⟩
def Reg.BSN_PK_IN.COUNT (n : Nat) : Fld := ⟨0x20000 + 0x2000 * n + 0xd14, 0, 31, .ro, 0, 0, 0x7fffffff⟩
def Reg.BSN_PK_IN.OVF (n : Nat) : Fld := ⟨0x20000 + 0x2000 * n + 0xd14, 31, 1, .w1c, 0, 0, 1⟩
def Reg.BSN_PK_OUT.COUNT (n : Nat) : Fld := ⟨0x20000 + 0x2000 * n + 0xd18, 0, 31, .ro, 0, 0, 0x7fffffff⟩
def Reg.BSN_PK_OUT.OVF (n : Nat) : Fld := ⟨0x20000 + 0x2000 * n + 0xd18, 31, 1, .w1c, 0, 0, 1⟩
/-! Fields of 15_*.md R381. -/
def Reg.FAB_TIMEOUTS.COUNT : Fld := ⟨0x190020, 0, 31, .ro, 0, 0, 0x7fffffff⟩
def Reg.FAB_TIMEOUTS.OVF : Fld := ⟨0x190020, 31, 1, .w1c, 0, 0, 1⟩
def Reg.FAB_NOUNIT.COUNT : Fld := ⟨0x190024, 0, 31, .ro, 0, 0, 0x7fffffff⟩
def Reg.FAB_NOUNIT.OVF : Fld := ⟨0x190024, 31, 1, .w1c, 0, 0, 1⟩
def Reg.FAB_CE.COUNT : Fld := ⟨0x190028, 0, 31, .ro, 0, 0, 0x7fffffff⟩
def Reg.FAB_CE.OVF : Fld := ⟨0x190028, 31, 1, .w1c, 0, 0, 1⟩
def Reg.FAB_UE.COUNT : Fld := ⟨0x19002c, 0, 31, .ro, 0, 0, 0x7fffffff⟩
def Reg.FAB_UE.OVF : Fld := ⟨0x19002c, 31, 1, .w1c, 0, 0, 1⟩
def Reg.FAB_LATE.COUNT : Fld := ⟨0x190030, 0, 31, .ro, 0, 0, 0x7fffffff⟩
def Reg.FAB_LATE.OVF : Fld := ⟨0x190030, 31, 1, .w1c, 0, 0, 1⟩
def Reg.XNG_POVRCNT.COUNT : Fld := ⟨0x191080, 0, 31, .ro, 0, 0, 0x7fffffff⟩
def Reg.XNG_POVRCNT.OVF : Fld := ⟨0x191080, 31, 1, .w1c, 0, 0, 1⟩
def Reg.XNG_DORMANT.COUNT : Fld := ⟨0x191084, 0, 31, .ro, 0, 0, 0x7fffffff⟩
def Reg.XNG_DORMANT.OVF : Fld := ⟨0x191084, 31, 1, .w1c, 0, 0, 1⟩
def Reg.XNG_WAKES.COUNT : Fld := ⟨0x191088, 0, 31, .ro, 0, 0, 0x7fffffff⟩
def Reg.XNG_WAKES.OVF : Fld := ⟨0x191088, 31, 1, .w1c, 0, 0, 1⟩
/-! Fields of 16_*.md R411. -/
def Reg.SINK_RDY0.OFFSET (x : Nat) : Fld := ⟨0x150000 + 0x10000 * x + 8, 0, 32, .ro, 0, 0, 0xffffffff⟩
def Reg.SINK_RDY1.OFFSET (x : Nat) : Fld := ⟨0x150000 + 0x10000 * x + 0xc, 0, 32, .ro, 0, 0, 0xffffffff⟩
def Reg.SINK_DROP.COUNT (x : Nat) : Fld := ⟨0x150000 + 0x10000 * x + 0x14, 0, 31, .ro, 0, 0, 0x7fffffff⟩
def Reg.SINK_DROP.OVF (x : Nat) : Fld := ⟨0x150000 + 0x10000 * x + 0x14, 31, 1, .w1c, 0, 0, 1⟩
/-! Fields of 16_*.md R412. -/
def Reg.NET_PRX.COUNT (p : Nat) : Fld := ⟨0x151000 + 0x40 * p + 0x10, 0, 31, .ro, 0, 0, 0x7fffffff⟩
def Reg.NET_PRX.OVF (p : Nat) : Fld := ⟨0x151000 + 0x40 * p + 0x10, 31, 1, .w1c, 0, 0, 1⟩
def Reg.NET_PRXERR.COUNT (p : Nat) : Fld := ⟨0x151000 + 0x40 * p + 0x14, 0, 31, .ro, 0, 0, 0x7fffffff⟩
def Reg.NET_PRXERR.OVF (p : Nat) : Fld := ⟨0x151000 + 0x40 * p + 0x14, 31, 1, .w1c, 0, 0, 1⟩
def Reg.NET_PDROP.COUNT (p : Nat) : Fld := ⟨0x151000 + 0x40 * p + 0x18, 0, 31, .ro, 0, 0, 0x7fffffff⟩
def Reg.NET_PDROP.OVF (p : Nat) : Fld := ⟨0x151000 + 0x40 * p + 0x18, 31, 1, .w1c, 0, 0, 1⟩
/-! Fields of 16_*.md R413. -/
def Reg.CAN_NBT.BRP (n : Nat) : Fld := ⟨0x161000 + 0x100 * n + 4, 0, 8, .rw, 0, 0, 0xff⟩
def Reg.CAN_NBT.TSEG1 (n : Nat) : Fld := ⟨0x161000 + 0x100 * n + 4, 8, 8, .rw, 0, 0, 0xff⟩
def Reg.CAN_NBT.TSEG2 (n : Nat) : Fld := ⟨0x161000 + 0x100 * n + 4, 16, 7, .rw, 0, 0, 0x7f⟩
def Reg.CAN_NBT.SJW (n : Nat) : Fld := ⟨0x161000 + 0x100 * n + 4, 24, 7, .rw, 0, 0, 0x7f⟩
def Reg.CAN_DBT.BRP (n : Nat) : Fld := ⟨0x161000 + 0x100 * n + 8, 0, 5, .rw, 0, 0, 0x1f⟩
def Reg.CAN_DBT.TSEG1 (n : Nat) : Fld := ⟨0x161000 + 0x100 * n + 8, 8, 5, .rw, 0, 0, 0x1f⟩
def Reg.CAN_DBT.TSEG2 (n : Nat) : Fld := ⟨0x161000 + 0x100 * n + 8, 16, 4, .rw, 0, 0, 0xf⟩
def Reg.CAN_DBT.SJW (n : Nat) : Fld := ⟨0x161000 + 0x100 * n + 8, 24, 4, .rw, 0, 0, 0xf⟩
def Reg.CAN_PERMIT1.ID_LO (n : Nat) : Fld := ⟨0x161000 + 0x100 * n + 0x14, 0, 29, .ro, 0, 0, 0x1fffffff⟩
def Reg.CAN_PERMIT2.ID_HI (n : Nat) : Fld := ⟨0x161000 + 0x100 * n + 0x18, 0, 29, .ro, 0, 0, 0x1fffffff⟩
def Reg.CAN_RXFLT.ID (n : Nat) : Fld := ⟨0x161000 + 0x100 * n + 0x1c, 0, 29, .rw, 0, 0, 0x1fffffff⟩
def Reg.CAN_RXFLT.IDE (n : Nat) : Fld := ⟨0x161000 + 0x100 * n + 0x1c, 31, 1, .rw, 0, 0, 1⟩
def Reg.CAN_RXMASK.ID (n : Nat) : Fld := ⟨0x161000 + 0x100 * n + 0x20, 0, 29, .rw, 0, 0, 0x1fffffff⟩
def Reg.CAN_RXMASK.IDE (n : Nat) : Fld := ⟨0x161000 + 0x100 * n + 0x20, 31, 1, .rw, 0, 0, 1⟩
def Reg.CAN_RXFRM.COUNT (n : Nat) : Fld := ⟨0x161000 + 0x100 * n + 0x40, 0, 31, .ro, 0, 0, 0x7fffffff⟩
def Reg.CAN_RXFRM.OVF (n : Nat) : Fld := ⟨0x161000 + 0x100 * n + 0x40, 31, 1, .w1c, 0, 0, 1⟩
def Reg.CAN_RXERR.COUNT (n : Nat) : Fld := ⟨0x161000 + 0x100 * n + 0x44, 0, 31, .ro, 0, 0, 0x7fffffff⟩
def Reg.CAN_RXERR.OVF (n : Nat) : Fld := ⟨0x161000 + 0x100 * n + 0x44, 31, 1, .w1c, 0, 0, 1⟩
def Reg.CAN_GUARDREJ.COUNT (n : Nat) : Fld := ⟨0x161000 + 0x100 * n + 0x48, 0, 31, .ro, 0, 0, 0x7fffffff⟩
def Reg.CAN_GUARDREJ.OVF (n : Nat) : Fld := ⟨0x161000 + 0x100 * n + 0x48, 31, 1, .w1c, 0, 0, 1⟩
/-! Fields of 16_*.md R414. -/
def Reg.CAM_DISC.COUNT (n : Nat) : Fld := ⟨0x171000 + 0x80 * n + 0x10, 0, 31, .ro, 0, 0, 0x7fffffff⟩
def Reg.CAM_DISC.OVF (n : Nat) : Fld := ⟨0x171000 + 0x80 * n + 0x10, 31, 1, .w1c, 0, 0, 1⟩
def Reg.CAM_ERR.COUNT (n : Nat) : Fld := ⟨0x171000 + 0x80 * n + 0x14, 0, 31, .ro, 0, 0, 0x7fffffff⟩
def Reg.CAM_ERR.OVF (n : Nat) : Fld := ⟨0x171000 + 0x80 * n + 0x14, 31, 1, .w1c, 0, 0, 1⟩
def Reg.CAM_WDROP.COUNT (n : Nat) : Fld := ⟨0x171000 + 0x80 * n + 0x18, 0, 31, .ro, 0, 0, 0x7fffffff⟩
def Reg.CAM_WDROP.OVF (n : Nat) : Fld := ⟨0x171000 + 0x80 * n + 0x18, 31, 1, .w1c, 0, 0, 1⟩
/-! Fields of 16_*.md R415. -/
def Reg.DOCK_QDROP.COUNT (q : Nat) : Fld := ⟨0x180000 + 0x10 * q + 0x104, 0, 31, .ro, 0, 0, 0x7fffffff⟩
def Reg.DOCK_QDROP.OVF (q : Nat) : Fld := ⟨0x180000 + 0x10 * q + 0x104, 31, 1, .w1c, 0, 0, 1⟩
def Reg.TWN_QDROP.COUNT (q : Nat) : Fld := ⟨0x188000 + 0x10 * q + 0x104, 0, 31, .ro, 0, 0, 0x7fffffff⟩
def Reg.TWN_QDROP.OVF (q : Nat) : Fld := ⟨0x188000 + 0x10 * q + 0x104, 31, 1, .w1c, 0, 0, 1⟩
def Reg.TWN_CRCERR.COUNT : Fld := ⟨0x188008, 0, 31, .ro, 0, 0, 0x7fffffff⟩
def Reg.TWN_CRCERR.OVF : Fld := ⟨0x188008, 31, 1, .w1c, 0, 0, 1⟩
def Reg.TWN_BADTYPE.COUNT : Fld := ⟨0x18800c, 0, 31, .ro, 0, 0, 0x7fffffff⟩
def Reg.TWN_BADTYPE.OVF : Fld := ⟨0x18800c, 31, 1, .w1c, 0, 0, 1⟩
def Reg.TWN_RETRY.COUNT : Fld := ⟨0x188010, 0, 31, .ro, 0, 0, 0x7fffffff⟩
def Reg.TWN_RETRY.OVF : Fld := ⟨0x188010, 31, 1, .w1c, 0, 0, 1⟩
/-! Fields of 17_*.md R439. -/
def Reg.SES_OPENS.COUNT : Fld := ⟨0xf30008, 0, 31, .ro, 0, 0, 0x7fffffff⟩
def Reg.SES_OPENS.OVF : Fld := ⟨0xf30008, 31, 1, .w1c, 0, 0, 1⟩
def Reg.SES_AUTHFAIL.COUNT : Fld := ⟨0xf3000c, 0, 31, .ro, 0, 0, 0x7fffffff⟩
def Reg.SES_AUTHFAIL.OVF : Fld := ⟨0xf3000c, 31, 1, .w1c, 0, 0, 1⟩
def Reg.SES_TAKEOVER.COUNT : Fld := ⟨0xf30010, 0, 31, .ro, 0, 0, 0x7fffffff⟩
def Reg.SES_TAKEOVER.OVF : Fld := ⟨0xf30010, 31, 1, .w1c, 0, 0, 1⟩
def Reg.SES_BADFRAME.COUNT : Fld := ⟨0xf30014, 0, 31, .ro, 0, 0, 0x7fffffff⟩
def Reg.SES_BADFRAME.OVF : Fld := ⟨0xf30014, 31, 1, .w1c, 0, 0, 1⟩
def Reg.SES_DROP.COUNT : Fld := ⟨0xf30018, 0, 31, .ro, 0, 0, 0x7fffffff⟩
def Reg.SES_DROP.OVF : Fld := ⟨0xf30018, 31, 1, .w1c, 0, 0, 1⟩
/-! Fields of 18_*.md R451. -/
def Reg.PST_FP_LO.FP : Fld := ⟨0xf20004, 0, 32, .sov, 0, 0, 0xffffffff⟩
def Reg.PST_FP_HI.FP : Fld := ⟨0xf20008, 0, 32, .sov, 0, 0, 0xffffffff⟩
def Reg.PST_PEER_FP_LO.FP : Fld := ⟨0xf20010, 0, 32, .sov, 0, 0, 0xffffffff⟩
def Reg.PST_PEER_FP_HI.FP : Fld := ⟨0xf20014, 0, 32, .sov, 0, 0, 0xffffffff⟩
def Reg.PST_WORNWR.COUNT : Fld := ⟨0xf2001c, 0, 31, .ro, 0, 0, 0x7fffffff⟩
def Reg.PST_WORNWR.OVF : Fld := ⟨0xf2001c, 31, 1, .w1c, 0, 0, 1⟩
/-! Fields of 19_*.md R475. -/
def Reg.TWN_SYNC_CRC.COUNT : Fld := ⟨0x188034, 0, 31, .ro, 0, 0, 0x7fffffff⟩
def Reg.TWN_SYNC_CRC.OVF : Fld := ⟨0x188034, 31, 1, .w1c, 0, 0, 1⟩
def Reg.TWN_DETACHES.COUNT : Fld := ⟨0x188038, 0, 31, .ro, 0, 0, 0x7fffffff⟩
def Reg.TWN_DETACHES.OVF : Fld := ⟨0x188038, 31, 1, .w1c, 0, 0, 1⟩
/-! Fields of 20_*.md R498. -/
def Reg.PWR_REFUSED.COUNT : Fld := ⟨0xf00030, 0, 31, .ro, 0, 0, 0x7fffffff⟩
def Reg.PWR_REFUSED.OVF : Fld := ⟨0xf00030, 31, 1, .w1c, 0, 0, 1⟩
def Reg.PWR_WAKES.COUNT : Fld := ⟨0xf00034, 0, 31, .ro, 0, 0, 0x7fffffff⟩
def Reg.PWR_WAKES.OVF : Fld := ⟨0xf00034, 31, 1, .w1c, 0, 0, 1⟩
def Reg.PWR_REPLAYS.COUNT : Fld := ⟨0xf00038, 0, 31, .ro, 0, 0, 0x7fffffff⟩
def Reg.PWR_REPLAYS.OVF : Fld := ⟨0xf00038, 31, 1, .w1c, 0, 0, 1⟩
/-! Fields of 21_*.md R512. -/
def Reg.RST_HELD_LO.CORE : Fld := ⟨0xf10010, 0, 32, .sov, 0xffffffff, 0, 0xffffffff⟩
def Reg.RST_RELMASK_LO.CORE : Fld := ⟨0xf10018, 0, 32, .ro, 0, 0, 0xffffffff⟩
def Reg.RST_HELD_HI.CORE : Fld := ⟨0xf10014, 0, 32, .sov, 0xffffffff, 0, 0xffffffff⟩
def Reg.RST_RELMASK_HI.CORE : Fld := ⟨0xf1001c, 0, 32, .ro, 0, 0, 0xffffffff⟩
def Reg.RST_WDOGS.COUNT : Fld := ⟨0xf10020, 0, 31, .ro, 0, 0, 0x7fffffff⟩
def Reg.RST_WDOGS.OVF : Fld := ⟨0xf10020, 31, 1, .w1c, 0, 0, 1⟩
def Reg.RST_BLOCKS.COUNT : Fld := ⟨0xf10024, 0, 31, .ro, 0, 0, 0x7fffffff⟩
def Reg.RST_BLOCKS.OVF : Fld := ⟨0xf10024, 31, 1, .w1c, 0, 0, 1⟩
/-! Fields of 22_*.md R537. -/
def Reg.PWR_THERM_TRIPS.COUNT : Fld := ⟨0xf04008, 0, 31, .ro, 0, 0, 0x7fffffff⟩
def Reg.PWR_THERM_TRIPS.OVF : Fld := ⟨0xf04008, 31, 1, .w1c, 0, 0, 1⟩
/-! Fields of 13_*.md R344. -/
def Reg.EVT_NSAVE_PC.PC (k : Nat) : Fld := ⟨0x100000000 + 0x1000 * k + 0x118, 0, 32, .rw, 0, 0, 0xffffffff⟩
def Reg.EVT_FSAVE_PC.PC (k : Nat) : Fld := ⟨0x100000000 + 0x1000 * k + 0x124, 0, 32, .rw, 0, 0, 0xffffffff⟩
def Reg.EVT_NSAVE_ST.STATUS (k : Nat) : Fld := ⟨0x100000000 + 0x1000 * k + 0x11c, 0, 6, .rw, 0, 0, 0x3f⟩
def Reg.EVT_FSAVE_ST.STATUS (k : Nat) : Fld := ⟨0x100000000 + 0x1000 * k + 0x128, 0, 6, .rw, 0, 0, 0x3f⟩
def Reg.EVT_NSAVE_CNT.CNT (k : Nat) : Fld := ⟨0x100000000 + 0x1000 * k + 0x120, 0, 16, .rw, 0, 0, 0xffff⟩
def Reg.EVT_FSAVE_CNT.CNT (k : Nat) : Fld := ⟨0x100000000 + 0x1000 * k + 0x12c, 0, 16, .rw, 0, 0, 0xffff⟩
def Reg.EVT_NRING_CFG.BASE (k : Nat) : Fld := ⟨0x100000000 + 0x1000 * k + 0x130, 0, 17, .rw, 0x1d800, 0, 0x1ffff⟩
def Reg.EVT_NRING_CFG.SIZE (k : Nat) : Fld := ⟨0x100000000 + 0x1000 * k + 0x130, 20, 3, .rw, 0, 0, 4⟩
def Reg.EVT_NRING_CFG.EN (k : Nat) : Fld := ⟨0x100000000 + 0x1000 * k + 0x130, 31, 1, .rw, 1, 0, 1⟩
def Reg.EVT_FRING_CFG.BASE (k : Nat) : Fld := ⟨0x100000000 + 0x1000 * k + 0x140, 0, 17, .rw, 0x1dc00, 0, 0x1ffff⟩
def Reg.EVT_FRING_CFG.SIZE (k : Nat) : Fld := ⟨0x100000000 + 0x1000 * k + 0x140, 20, 3, .rw, 0, 0, 4⟩
def Reg.EVT_FRING_CFG.EN (k : Nat) : Fld := ⟨0x100000000 + 0x1000 * k + 0x140, 31, 1, .rw, 1, 0, 1⟩
def Reg.EVT_NRING_WR.INDEX (k : Nat) : Fld := ⟨0x100000000 + 0x1000 * k + 0x134, 0, 16, .ro, 0, 0, 0xffff⟩
def Reg.EVT_FRING_WR.INDEX (k : Nat) : Fld := ⟨0x100000000 + 0x1000 * k + 0x144, 0, 16, .ro, 0, 0, 0xffff⟩
def Reg.EVT_NRING_RD.INDEX (k : Nat) : Fld := ⟨0x100000000 + 0x1000 * k + 0x138, 0, 16, .rw, 0, 0, 0xffff⟩
def Reg.EVT_FRING_RD.INDEX (k : Nat) : Fld := ⟨0x100000000 + 0x1000 * k + 0x148, 0, 16, .rw, 0, 0, 0xffff⟩
/-! Fields of 10_*.md R243. -/
def Reg.CORE_NDS_CFG.BASE (k : Nat) : Fld := ⟨0x100000000 + 0x1000 * k + 0x40, 0, 17, .rw, 0x1e000, 0, 0x1ffff⟩
def Reg.CORE_NDS_CFG.WORDS (k : Nat) : Fld := ⟨0x100000000 + 0x1000 * k + 0x40, 20, 12, .rw, 0x400, 0, 0xfff⟩
def Reg.CORE_NRS_CFG.BASE (k : Nat) : Fld := ⟨0x100000000 + 0x1000 * k + 0x48, 0, 17, .rw, 0x1f000, 0, 0x1ffff⟩
def Reg.CORE_NRS_CFG.WORDS (k : Nat) : Fld := ⟨0x100000000 + 0x1000 * k + 0x48, 20, 12, .rw, 0x100, 0, 0xfff⟩
def Reg.CORE_FDS_CFG.BASE (k : Nat) : Fld := ⟨0x100000000 + 0x1000 * k + 0x50, 0, 17, .rw, 0x1f400, 0, 0x1ffff⟩
def Reg.CORE_FDS_CFG.WORDS (k : Nat) : Fld := ⟨0x100000000 + 0x1000 * k + 0x50, 20, 12, .rw, 0x100, 0, 0xfff⟩
def Reg.CORE_FRS_CFG.BASE (k : Nat) : Fld := ⟨0x100000000 + 0x1000 * k + 0x58, 0, 17, .rw, 0x1f800, 0, 0x1ffff⟩
def Reg.CORE_FRS_CFG.WORDS (k : Nat) : Fld := ⟨0x100000000 + 0x1000 * k + 0x58, 20, 12, .rw, 0x80, 0, 0xfff⟩
def Reg.CORE_NDS_USED.WORDS (k : Nat) : Fld := ⟨0x100000000 + 0x1000 * k + 0x44, 0, 13, .ro, 0, 0, 0x1fff⟩
def Reg.CORE_NRS_USED.WORDS (k : Nat) : Fld := ⟨0x100000000 + 0x1000 * k + 0x4c, 0, 13, .ro, 0, 0, 0x1fff⟩
def Reg.CORE_FDS_USED.WORDS (k : Nat) : Fld := ⟨0x100000000 + 0x1000 * k + 0x54, 0, 13, .ro, 0, 0, 0x1fff⟩
def Reg.CORE_FRS_USED.WORDS (k : Nat) : Fld := ⟨0x100000000 + 0x1000 * k + 0x5c, 0, 13, .ro, 0, 0, 0x1fff⟩

/-- The fields at an offset of one census block; none at a reserved offset (R10). -/
def Reg.censusAt (off : Nat) : List Fld :=
  match off with
  | 0x0 => [Reg.FAB_VARIANT.PART, Reg.FAB_VARIANT.STEPPING]
  | 0x4 => [Reg.FAB_PRESENT0.BASIN, Reg.FAB_PRESENT0.JET, Reg.FAB_PRESENT0.PACKER, Reg.FAB_PRESENT0.SEAL]
  | 0x8 => [Reg.FAB_PRESENT1.XPORT, Reg.FAB_PRESENT1.GPORT, Reg.FAB_PRESENT1.CAM, Reg.FAB_PRESENT1.DOCK, Reg.FAB_PRESENT1.TWIN]
  | _ => []

/-- The fields at an offset of one ang block; none at a reserved offset (R10). -/
def Reg.angAt (n off : Nat) : List Fld :=
  if 0x100 ≤ off ∧ off < 0x130 ∧ off % 4 = 0 then [Reg.ANG_WHEEL.POS n ((off - 0x100) / 4)] else
  match off with
  | 0x0 => [Reg.ANG_CTRL.EN n, Reg.ANG_CTRL.MODE n, Reg.ANG_CTRL.CYCLE n, Reg.ANG_CTRL.ACC_EN n, Reg.ANG_CTRL.REARM n, Reg.ANG_CTRL.RESYNC n]
  | 0x4 => [Reg.ANG_STATUS.STATE n, Reg.ANG_STATUS.REV n, Reg.ANG_STATUS.CAMVALID n, Reg.ANG_STATUS.CFG_ERR n, Reg.ANG_STATUS.BANK n, Reg.ANG_STATUS.BUSY n, Reg.ANG_STATUS.PENDING n, Reg.ANG_STATUS.SCHED_ERR n, Reg.ANG_STATUS.WR_BUSY n, Reg.ANG_STATUS.OVERSPEED n, Reg.ANG_STATUS.CFG_CODE n]
  | 0x8 => [Reg.ANG_WORD.WORD n]
  | 0xc => [Reg.ANG_CRANK.ANGLE n, Reg.ANG_CRANK.VALID n]
  | 0x10 => [Reg.ANG_SPEED.SPEED n]
  | 0x14 => [Reg.ANG_ACCEL.ACCEL n]
  | 0x18 => [Reg.ANG_PERIOD.TICKS n]
  | 0x20 => [Reg.ANG_SRC.TOOTH n, Reg.ANG_SRC.TEDGE n, Reg.ANG_SRC.CAM n, Reg.ANG_SRC.CEDGE n, Reg.ANG_SRC.CAM_EN n, Reg.ANG_SRC.DIR n, Reg.ANG_SRC.DIR_MODE n, Reg.ANG_SRC.DIR_PW n]
  | 0x24 => [Reg.ANG_WHEEL_CFG.POSITIONS n, Reg.ANG_WHEEL_CFG.SPAN n, Reg.ANG_WHEEL_CFG.CONFIRM n, Reg.ANG_WHEEL_CFG.SYNC_TOL n, Reg.ANG_WHEEL_CFG.GAPS n]
  | 0x28 => [Reg.ANG_OFFSET.OFFSET n]
  | 0x2c => [Reg.ANG_RATIO.TOOTH_LO n, Reg.ANG_RATIO.TOOTH_HI n, Reg.ANG_RATIO.GAP_LO n, Reg.ANG_RATIO.GAP_HI n]
  | 0x30 => [Reg.ANG_CAM_LO.ANGLE n]
  | 0x34 => [Reg.ANG_CAM_HI.ANGLE n]
  | 0x38 => [Reg.ANG_CAM_CFG.VOTE n, Reg.ANG_CAM_CFG.MISS_LIMIT n]
  | 0x3c => [Reg.ANG_CAMPHASE.ANGLE n, Reg.ANG_CAMPHASE.VALID n]
  | 0x40 => [Reg.ANG_STALL.STALL n, Reg.ANG_STALL.MIN_RPM n]
  | 0x50 => [Reg.ANG_RES_CFG.SEL n, Reg.ANG_RES_CFG.FREQ n, Reg.ANG_RES_CFG.AMP n, Reg.ANG_RES_CFG.FN n]
  | 0x54 => [Reg.ANG_RES_STATUS.AMPL n, Reg.ANG_RES_STATUS.LOCK n]
  | 0x58 => [Reg.ANG_ENC_CFG.LINES n]
  | 0x5c => [Reg.ANG_MSRC0.A n, Reg.ANG_MSRC0.B n, Reg.ANG_MSRC0.Z n]
  | 0x60 => [Reg.ANG_MSRC1.U n, Reg.ANG_MSRC1.V n, Reg.ANG_MSRC1.W n]
  | 0x64 => [Reg.ANG_MOFFSET.OFFSET n]
  | 0x70 => [Reg.ANG_SCHED_CTRL.COMMIT n]
  | 0x74 => [Reg.ANG_SCHED_IDX.INDEX n, Reg.ANG_SCHED_IDX.AUTOINC n]
  | 0x78 => [Reg.ANG_SCHED_A.WORD n]
  | 0x7c => [Reg.ANG_SCHED_B.WORD n]
  | 0x80 => [Reg.ANG_DONE0.SLOT n]
  | 0x84 => [Reg.ANG_DONE1.SLOT n]
  | 0x88 => [Reg.ANG_OPEN0.SLOT n]
  | 0x8c => [Reg.ANG_OPEN1.SLOT n]
  | 0x90 => [Reg.ANG_NOISE.COUNT n, Reg.ANG_NOISE.OVF n]
  | 0x94 => [Reg.ANG_MISMATCH.COUNT n, Reg.ANG_MISMATCH.OVF n]
  | 0x98 => [Reg.ANG_SYNCLOSS.COUNT n, Reg.ANG_SYNCLOSS.OVF n]
  | 0x9c => [Reg.ANG_CAMERR.COUNT n, Reg.ANG_CAMERR.OVF n]
  | 0xa0 => [Reg.ANG_MISSED.COUNT n, Reg.ANG_MISSED.OVF n]
  | 0xa4 => [Reg.ANG_LATE.COUNT n, Reg.ANG_LATE.OVF n]
  | 0xa8 => [Reg.ANG_EVTDROP.COUNT n, Reg.ANG_EVTDROP.OVF n]
  | 0xac => [Reg.ANG_SYNCSEQ.SEQ n]
  | 0xb0 => [Reg.ANG_RES_FAULT.NOW n, Reg.ANG_RES_FAULT.LATCHED n, Reg.ANG_RES_FAULT.DIAG n, Reg.ANG_RES_FAULT.SEEN n, Reg.ANG_RES_FAULT.RETRY_MAX n, Reg.ANG_RES_FAULT.RETRIES n]
  | _ => []

/-- The fields at an offset of one tim block; none at a reserved offset (R10). -/
def Reg.timAt (off : Nat) : List Fld :=
  match off with
  | 0x0 => [Reg.TIM_CTRL.SRC, Reg.TIM_CTRL.BACKSTEP, Reg.TIM_CTRL.STEP_LIMIT]
  | 0x4 => [Reg.TIM_STATUS.ACTIVE, Reg.TIM_STATUS.LOCK, Reg.TIM_STATUS.SEC_VALID, Reg.TIM_STATUS.RTC_VALID, Reg.TIM_STATUS.STEP_PEND, Reg.TIM_STATUS.GM]
  | 0x8 => [Reg.TIM_NOW_LO.NS]
  | 0xc => [Reg.TIM_NOW_HI.NS]
  | 0x10 => [Reg.TIM_RATE.RATE]
  | 0x14 => [Reg.TIM_STEP_LO.NS]
  | 0x18 => [Reg.TIM_STEP_HI.NS]
  | 0x1c => [Reg.TIM_UTC.OFFSET, Reg.TIM_UTC.VALID]
  | 0x20 => [Reg.TIM_PPS_CFG.EDGE, Reg.TIM_PPS_CFG.EN, Reg.TIM_PPS_CFG.CABLE]
  | 0x24 => [Reg.TIM_SEC.SEC]
  | 0x28 => [Reg.TIM_PPS_OFFSET.NS]
  | 0x30 => [Reg.TIM_GPTP_CFG.ROLE, Reg.TIM_GPTP_CFG.PORT, Reg.TIM_GPTP_CFG.PRIORITY1, Reg.TIM_GPTP_CFG.PRIORITY2]
  | 0x34 => [Reg.TIM_GPTP_STATUS.SLAVE_PORT, Reg.TIM_GPTP_STATUS.SYNCED, Reg.TIM_GPTP_STATUS.GM_CLASS, Reg.TIM_GPTP_STATUS.OFFSET]
  | 0x40 => [Reg.TIM_RTC_SEC.SEC]
  | 0x44 => [Reg.TIM_RTC_ALARM.SEC]
  | 0x50 => [Reg.TIM_PPS_NOISE.COUNT, Reg.TIM_PPS_NOISE.OVF]
  | 0x54 => [Reg.TIM_PPS_MISS.COUNT, Reg.TIM_PPS_MISS.OVF]
  | 0x58 => [Reg.TIM_STEPS.COUNT, Reg.TIM_STEPS.OVF]
  | 0x60 => [Reg.TIM_PPS_FAULT.NOW, Reg.TIM_PPS_FAULT.LATCHED, Reg.TIM_PPS_FAULT.DIAG, Reg.TIM_PPS_FAULT.SEEN, Reg.TIM_PPS_FAULT.RETRY_MAX, Reg.TIM_PPS_FAULT.RETRIES]
  | _ => []

/-- The fields at an offset of one aing block; none at a reserved offset (R10). -/
def Reg.aingAt (g off : Nat) : List Fld :=
  match off with
  | 0x0 => [Reg.AIN_GCFG.EN g, Reg.AIN_GCFG.TRIG g, Reg.AIN_GCFG.TDIN g, Reg.AIN_GCFG.TEDGE g, Reg.AIN_GCFG.STAMP g, Reg.AIN_GCFG.DECIM g, Reg.AIN_GCFG.DMODE g]
  | 0x4 => [Reg.AIN_GSTREAM.RUNNEL g, Reg.AIN_GSTREAM.BASE g, Reg.AIN_GSTREAM.PKT_WORDS g, Reg.AIN_GSTREAM.AGE g]
  | 0x8 => [Reg.AIN_GPERIOD.NS g]
  | 0xc => [Reg.AIN_GPHASE.NS g]
  | 0x10 => [Reg.AIN_GGO.GO g]
  | 0x14 => [Reg.AIN_GSTATUS.CFG_CODE g, Reg.AIN_GSTATUS.ACTIVE g, Reg.AIN_GSTATUS.SEQ g]
  | 0x18 => [Reg.AIN_GOVR.COUNT g, Reg.AIN_GOVR.OVF g]
  | 0x1c => [Reg.AIN_GDROP.COUNT g, Reg.AIN_GDROP.OVF g]
  | _ => []

/-- The fields at an offset of one fin block; none at a reserved offset (R10). -/
def Reg.finAt (n off : Nat) : List Fld :=
  match off with
  | 0x0 => [Reg.FIN_CFG.EN n, Reg.FIN_CFG.FE n, Reg.FIN_CFG.RANGE n, Reg.FIN_CFG.FILTER n, Reg.FIN_CFG.TC n, Reg.FIN_CFG.TRIG n, Reg.FIN_CFG.STAMP n]
  | 0x4 => [Reg.FIN_STREAM.RUNNEL n, Reg.FIN_STREAM.BASE n, Reg.FIN_STREAM.PKT_WORDS n, Reg.FIN_STREAM.AGE n]
  | 0x8 => [Reg.FIN_PERIOD.NS n]
  | 0xc => [Reg.FIN_PHASE.NS n]
  | 0x10 => [Reg.FIN_STEP.AC n]
  | 0x14 => [Reg.FIN_AWIN_LO.ANGLE n]
  | 0x18 => [Reg.FIN_AWIN_HI.ANGLE n]
  | 0x1c => [Reg.FIN_BURST.COUNT n]
  | 0x20 => [Reg.FIN_GO.GO n, Reg.FIN_GO.CRESET n]
  | 0x24 => [Reg.FIN_STATUS.CFG_CODE n, Reg.FIN_STATUS.ACTIVE n, Reg.FIN_STATUS.ACLK_LOST n, Reg.FIN_STATUS.SEQ n]
  | 0x28 => [Reg.FIN_LAST.WORD n]
  | 0x2c => [Reg.FIN_OVR.COUNT n, Reg.FIN_OVR.OVF n]
  | 0x30 => [Reg.FIN_DROP.COUNT n, Reg.FIN_DROP.OVF n]
  | 0x34 => [Reg.FIN_SKIP.COUNT n, Reg.FIN_SKIP.OVF n]
  | 0x38 => [Reg.FIN_FAULT.NOW n, Reg.FIN_FAULT.LATCHED n, Reg.FIN_FAULT.DIAG n, Reg.FIN_FAULT.SEEN n, Reg.FIN_FAULT.RETRY_MAX n, Reg.FIN_FAULT.RETRIES n]
  | _ => []

/-- The fields at an offset of one din block; none at a reserved offset (R10). -/
def Reg.dinAt (n off : Nat) : List Fld :=
  match off with
  | 0x0 => [Reg.DIN_CFG.EN n, Reg.DIN_CFG.COND n, Reg.DIN_CFG.THRESH n, Reg.DIN_CFG.ARM n, Reg.DIN_CFG.FILT n, Reg.DIN_CFG.LOG n, Reg.DIN_CFG.MEAS n, Reg.DIN_CFG.MEDGE n, Reg.DIN_CFG.PULL n]
  | 0x4 => [Reg.DIN_MEAS.VALUE n]
  | 0x8 => [Reg.DIN_COUNT.COUNT n]
  | 0xc => [Reg.DIN_FAULT.NOW n, Reg.DIN_FAULT.LATCHED n, Reg.DIN_FAULT.DIAG n, Reg.DIN_FAULT.SEEN n, Reg.DIN_FAULT.RETRY_MAX n, Reg.DIN_FAULT.RETRIES n]
  | _ => []

/-- The fields at an offset of one ding block; none at a reserved offset (R10). -/
def Reg.dingAt (g off : Nat) : List Fld :=
  match off with
  | 0x0 => [Reg.DIN_GCFG.EN g]
  | 0x4 => [Reg.DIN_GSTREAM.RUNNEL g, Reg.DIN_GSTREAM.BASE g, Reg.DIN_GSTREAM.PKT_WORDS g, Reg.DIN_GSTREAM.AGE g]
  | 0x8 => [Reg.DIN_GSTATUS.CFG_CODE g, Reg.DIN_GSTATUS.ACTIVE g, Reg.DIN_GSTATUS.SEQ g]
  | 0xc => [Reg.DIN_GDROP.COUNT g, Reg.DIN_GDROP.OVF g]
  | 0x10 => [Reg.DIN_GSNAP.GO g]
  | _ => []

/-- The fields at an offset of one exc block; none at a reserved offset (R10). -/
def Reg.excAt (n off : Nat) : List Fld :=
  match off with
  | 0x0 => [Reg.EXC_CFG.EN n, Reg.EXC_CFG.VOLT n, Reg.EXC_CFG.SENSE n, Reg.EXC_CFG.LIMIT n]
  | 0x4 => [Reg.EXC_MEAS.MV n, Reg.EXC_MEAS.CURRENT n]
  | 0x8 => [Reg.EXC_STATUS.READY n, Reg.EXC_STATUS.BUDGET_ERR n, Reg.EXC_STATUS.OVER n, Reg.EXC_STATUS.SHED n]
  | 0xc => [Reg.EXC_FAULT.NOW n, Reg.EXC_FAULT.LATCHED n, Reg.EXC_FAULT.DIAG n, Reg.EXC_FAULT.SEEN n, Reg.EXC_FAULT.RETRY_MAX n, Reg.EXC_FAULT.RETRIES n]
  | _ => []

/-- The fields at an offset of one trg block; none at a reserved offset (R10). -/
def Reg.trgAt (n off : Nat) : List Fld :=
  match off with
  | 0x0 => [Reg.TRG_CFG.EN n, Reg.TRG_CFG.DRIVE n, Reg.TRG_CFG.POL n, Reg.TRG_CFG.WIDTH n]
  | 0x4 => [Reg.TRG_SET.HIGH n, Reg.TRG_SET.LOW n, Reg.TRG_SET.TOGGLE n]
  | 0x8 => [Reg.TRG_STATUS.LEVEL n, Reg.TRG_STATUS.PIN n, Reg.TRG_STATUS.CAPPED n]
  | 0xc => [Reg.TRG_FAULT.NOW n, Reg.TRG_FAULT.LATCHED n, Reg.TRG_FAULT.DIAG n, Reg.TRG_FAULT.SEEN n, Reg.TRG_FAULT.RETRY_MAX n, Reg.TRG_FAULT.RETRIES n]
  | _ => []

/-- The fields at an offset of one run block; none at a reserved offset (R10). -/
def Reg.runAt (r off : Nat) : List Fld :=
  match off with
  | 0x0 => [Reg.RUN_CFG.REQ_CH r, Reg.RUN_CFG.REQ_EN r, Reg.RUN_CFG.BURST r, Reg.RUN_CFG.TAIL r]
  | 0x4 => [Reg.RUN_STATUS.FILL r, Reg.RUN_STATUS.STALLED r, Reg.RUN_STATUS.OPEN r, Reg.RUN_STATUS.FLUSH_PEND r, Reg.RUN_STATUS.NOT_OWNER r, Reg.RUN_STATUS.PUSH_LOST r, Reg.RUN_STATUS.LATE_POISON r, Reg.RUN_STATUS.BADACC r, Reg.RUN_STATUS.REQ_ERR r]
  | 0x8 => [Reg.RUN_OWNER.CLASS r, Reg.RUN_OWNER.INDEX r]
  | 0xc => [Reg.RUN_FLUSH.FLUSH r]
  | 0x10 => [Reg.RUN_POP.WORD r]
  | 0x14 => [Reg.RUN_RDSTAT.TAG r, Reg.RUN_RDSTAT.PAD r]
  | 0x18 => [Reg.RUN_CLAIM.CLAIM r, Reg.RUN_CLAIM.RELEASE r]
  | 0x1c => [Reg.RUN_POPEN.OPEN r]
  | 0x20 => [Reg.RUN_PUSH.WORD r]
  | 0x24 => [Reg.RUN_PCLOSE.CLOSE r]
  | 0x30 => [Reg.RUN_CE.COUNT r, Reg.RUN_CE.OVF r]
  | 0x34 => [Reg.RUN_UE.COUNT r, Reg.RUN_UE.OVF r]
  | 0x38 => [Reg.RUN_SEGS.COUNT r, Reg.RUN_SEGS.OVF r]
  | 0x3c => [Reg.RUN_DISCARD.COUNT r, Reg.RUN_DISCARD.OVF r]
  | _ => []

/-- The fields at an offset of one slc block; none at a reserved offset (R10). -/
def Reg.slcAt (c off : Nat) : List Fld :=
  match off with
  | 0x0 => [Reg.SLC_SRC_LO.ADDR c]
  | 0x4 => [Reg.SLC_SRC_HI.ADDR c]
  | 0x8 => [Reg.SLC_DST_LO.ADDR c]
  | 0xc => [Reg.SLC_DST_HI.ADDR c]
  | 0x10 => [Reg.SLC_COUNT.BYTES c]
  | 0x14 => [Reg.SLC_CFG.BURST c, Reg.SLC_CFG.PACE c, Reg.SLC_CFG.SMODE c, Reg.SLC_CFG.DMODE c, Reg.SLC_CFG.RELOAD c, Reg.SLC_CFG.CHAIN_EN c, Reg.SLC_CFG.CHAIN_SRC c, Reg.SLC_CFG.SLOT_EN c, Reg.SLC_CFG.SLOT_ENG c, Reg.SLC_CFG.SLOT c]
  | 0x18 => [Reg.SLC_CTRL.GO c, Reg.SLC_CTRL.PAUSE c, Reg.SLC_CTRL.RESUME c, Reg.SLC_CTRL.ABORT c, Reg.SLC_CTRL.CLRREQ c]
  | 0x1c => [Reg.SLC_STATUS.STATE c, Reg.SLC_STATUS.WAITING c, Reg.SLC_STATUS.CFG_CODE c, Reg.SLC_STATUS.ERR c, Reg.SLC_STATUS.DIR c, Reg.SLC_STATUS.CMD_ERR c, Reg.SLC_STATUS.CHAIN_MISS c, Reg.SLC_STATUS.REQ_OVF c]
  | 0x20 => [Reg.SLC_EADDR_LO.ADDR c]
  | 0x24 => [Reg.SLC_EADDR_HI.ADDR c]
  | 0x28 => [Reg.SLC_REQS.PENDING c]
  | 0x2c => [Reg.SLC_XFERS.COUNT c, Reg.SLC_XFERS.OVF c]
  | _ => []

/-- The fields at an offset of one rsv block; none at a reserved offset (R10). -/
def Reg.rsvAt (off : Nat) : List Fld :=
  match off with
  | 0x0 => [Reg.RSV_STATUS.STATE, Reg.RSV_STATUS.ERASE_DEFER, Reg.RSV_STATUS.DEGRADED, Reg.RSV_STATUS.REBUILD]
  | 0x4 => [Reg.RSV_LSESS.LSESS]
  | 0x8 => [Reg.RSV_ADMIT_LO.GSEQ]
  | 0xc => [Reg.RSV_ADMIT_HI.GSEQ]
  | 0x10 => [Reg.RSV_COMMIT_LO.GSEQ]
  | 0x14 => [Reg.RSV_COMMIT_HI.GSEQ]
  | 0x18 => [Reg.RSV_RATE.CAP, Reg.RSV_RATE.LIVE]
  | 0x1c => [Reg.RSV_HEALTH.DIES, Reg.RSV_HEALTH.RETIRED, Reg.RSV_HEALTH.SPARE, Reg.RSV_HEALTH.LIFE]
  | 0x20 => [Reg.RSV_FREE.GIB]
  | 0x24 => [Reg.RSV_POOL.MIB]
  | 0x28 => [Reg.RSV_LFL_FLAGS.VALID, Reg.RSV_LFL_FLAGS.DONE, Reg.RSV_LFL_FLAGS.SHORT]
  | 0x2c => [Reg.RSV_LFL_MS.V]
  | 0x30 => [Reg.RSV_LFL_MIB.V]
  | 0x34 => [Reg.RSV_LFL_LOST.V]
  | 0x38 => [Reg.RSV_LFL_EJ.V]
  | 0x40 => [Reg.RSV_CE.COUNT, Reg.RSV_CE.OVF]
  | 0x44 => [Reg.RSV_UE.COUNT, Reg.RSV_UE.OVF]
  | 0x48 => [Reg.RSV_REFUSED.COUNT, Reg.RSV_REFUSED.OVF]
  | 0x4c => [Reg.RSV_PFAIL.COUNT, Reg.RSV_PFAIL.OVF]
  | 0x50 => [Reg.RSV_EFAIL.COUNT, Reg.RSV_EFAIL.OVF]
  | 0x54 => [Reg.RSV_ERASE_CAPPED.COUNT, Reg.RSV_ERASE_CAPPED.OVF]
  | _ => []

/-- The fields at an offset of one ring block; none at a reserved offset (R10). -/
def Reg.ringAt (n off : Nat) : List Fld :=
  match off with
  | 0x0 => [Reg.RSV_RING_CFG.EN n, Reg.RSV_RING_CFG.DB_CH n, Reg.RSV_RING_CFG.DB_EN n]
  | 0x4 => [Reg.RSV_RING_HEAD_LO.ADDR n]
  | 0x8 => [Reg.RSV_RING_HEAD_HI.ADDR n]
  | 0xc => [Reg.RSV_RING_DB.ANY n]
  | 0x10 => [Reg.RSV_RING_CTRL.RESUME n, Reg.RSV_RING_CTRL.ABORT n]
  | 0x14 => [Reg.RSV_RING_STATUS.STATE n, Reg.RSV_RING_STATUS.HALT n, Reg.RSV_RING_STATUS.ALLOW n, Reg.RSV_RING_STATUS.RECHECK n]
  | 0x18 => [Reg.RSV_RING_DONE.COUNT n, Reg.RSV_RING_DONE.OVF n]
  | _ => []

/-- The fields at an offset of one weir block; none at a reserved offset (R10). -/
def Reg.weirAt (off : Nat) : List Fld :=
  match off with
  | 0x0 => [Reg.WEIR_CFG.GRACE, Reg.WEIR_CFG.DIP_PCT]
  | 0x4 => [Reg.WEIR_STATUS.DIP, Reg.WEIR_STATUS.FROZEN, Reg.WEIR_STATUS.REFUSING, Reg.WEIR_STATUS.SHORT, Reg.WEIR_STATUS.CFG_REF, Reg.WEIR_STATUS.LIMIT]
  | 0x8 => [Reg.WEIR_DEPTH.DEPTH, Reg.WEIR_DEPTH.EDEPTH]
  | 0xc => [Reg.WEIR_HELD_LO.BYTES]
  | 0x10 => [Reg.WEIR_HELD_HI.BYTES]
  | 0x14 => [Reg.WEIR_ROOM.KIB]
  | 0x18 => [Reg.WEIR_VRES.MV, Reg.WEIR_VRES.MF]
  | 0x1c => [Reg.WEIR_ENERGY.E]
  | 0x20 => [Reg.WEIR_REFUSED.COUNT, Reg.WEIR_REFUSED.OVF]
  | 0x24 => [Reg.WEIR_DIPS.COUNT, Reg.WEIR_DIPS.OVF]
  | _ => []

/-- The fields at an offset of one rgn block; none at a reserved offset (R10). -/
def Reg.rgnAt (r off : Nat) : List Fld :=
  match off with
  | 0x0 => [Reg.WEIR_RGN_CFG.BASE r, Reg.WEIR_RGN_CFG.SIZE r]
  | 0x4 => [Reg.WEIR_RGN_CTRL.EN r, Reg.WEIR_RGN_CTRL.REWIND r, Reg.WEIR_RGN_CTRL.CFG_ERR r, Reg.WEIR_RGN_CTRL.REW_REF r, Reg.WEIR_RGN_CTRL.WR_REF r]
  | 0x8 => [Reg.WEIR_RGN_FILL.OFFSET r]
  | 0xc => [Reg.WEIR_RGN_POST.OFFSET r]
  | 0x10 => [Reg.WEIR_RGN_DONE.OFFSET r]
  | 0x14 => [Reg.WEIR_RGN_RESERVE.N r]
  | _ => []

/-- The fields at an offset of one coreLocal block; none at a reserved offset (R10). -/
def Reg.coreLocalAt (k off : Nat) : List Fld :=
  if 0xA0 ≤ off ∧ off < 0xC0 ∧ off % 4 = 0 then [Reg.CORE_APa.EN k ((off - 0xA0) / 4), Reg.CORE_APa.ATTR k ((off - 0xA0) / 4), Reg.CORE_APa.BASE k ((off - 0xA0) / 4)] else
  if 0x200 ≤ off ∧ off < 0x300 ∧ off % 8 = 0 then [Reg.EVT_FLTn_A.SRC k ((off - 0x200) / 8), Reg.EVT_FLTn_A.MASK k ((off - 0x200) / 8)] else
  if 0x200 ≤ off ∧ off < 0x300 ∧ off % 8 = 4 then [Reg.EVT_FLTn_B.KLO k ((off - 0x200) / 8), Reg.EVT_FLTn_B.KHI k ((off - 0x200) / 8), Reg.EVT_FLTn_B.CLASS k ((off - 0x200) / 8), Reg.EVT_FLTn_B.BASE k ((off - 0x200) / 8), Reg.EVT_FLTn_B.EN k ((off - 0x200) / 8)] else
  match off with
  | 0x0 => [Reg.CORE_ID.CORE k, Reg.CORE_ID.BASIN k, Reg.CORE_ID.STEWARD k]
  | 0x4 => [Reg.CORE_STATUS.C k, Reg.CORE_STATUS.V k, Reg.CORE_STATUS.AF k, Reg.CORE_STATUS.AFT k, Reg.CORE_STATUS.RS k, Reg.CORE_STATUS.BANK k]
  | 0x8 => [Reg.CORE_CNT.CNT k]
  | 0xc => [Reg.CORE_FP.ADDR k]
  | 0x10 => [Reg.CORE_IOB.ADDR k]
  | 0x14 => [Reg.CORE_RES.VALID k, Reg.CORE_RES.GRANULE k]
  | 0x18 => [Reg.CORE_FAULT.SPACE k, Reg.CORE_FAULT.WRITE k, Reg.CORE_FAULT.IMPRECISE k, Reg.CORE_FAULT.ERR k]
  | 0x1c => [Reg.CORE_FPC.PC k]
  | 0x40 => [Reg.CORE_NDS_CFG.BASE k, Reg.CORE_NDS_CFG.WORDS k]
  | 0x44 => [Reg.CORE_NDS_USED.WORDS k]
  | 0x48 => [Reg.CORE_NRS_CFG.BASE k, Reg.CORE_NRS_CFG.WORDS k]
  | 0x4c => [Reg.CORE_NRS_USED.WORDS k]
  | 0x50 => [Reg.CORE_FDS_CFG.BASE k, Reg.CORE_FDS_CFG.WORDS k]
  | 0x54 => [Reg.CORE_FDS_USED.WORDS k]
  | 0x58 => [Reg.CORE_FRS_CFG.BASE k, Reg.CORE_FRS_CFG.WORDS k]
  | 0x5c => [Reg.CORE_FRS_USED.WORDS k]
  | 0x80 => [Reg.CORE_MODE.DET k, Reg.CORE_MODE.ICE k, Reg.CORE_MODE.DCE k, Reg.CORE_MODE.DUAL k, Reg.CORE_MODE.PRED k, Reg.CORE_MODE.WMODE k]
  | 0xc0 => [Reg.CORE_TOKS.COUNT k, Reg.CORE_TOKS.OVF k]
  | 0xc4 => [Reg.CORE_INSNS.COUNT k, Reg.CORE_INSNS.OVF k]
  | 0xc8 => [Reg.CORE_PAIRS.COUNT k, Reg.CORE_PAIRS.OVF k]
  | 0xcc => [Reg.CORE_ICMISS.COUNT k, Reg.CORE_ICMISS.OVF k]
  | 0xd0 => [Reg.CORE_DCMISS.COUNT k, Reg.CORE_DCMISS.OVF k]
  | 0x100 => [Reg.EVT_CTRL.NIE k, Reg.EVT_CTRL.FIE k, Reg.EVT_CTRL.SBASE k]
  | 0x104 => [Reg.EVT_ACTIVE.NACT k, Reg.EVT_ACTIVE.FACT k, Reg.EVT_ACTIVE.NPEND k, Reg.EVT_ACTIVE.FPEND k]
  | 0x108 => [Reg.EVT_FCAUSE.KIND k]
  | 0x10c => [Reg.EVT_FCAUSEP.PAYLOAD k]
  | 0x110 => [Reg.EVT_NVEC.PC k]
  | 0x114 => [Reg.EVT_FVEC.PC k]
  | 0x118 => [Reg.EVT_NSAVE_PC.PC k]
  | 0x11c => [Reg.EVT_NSAVE_ST.STATUS k]
  | 0x120 => [Reg.EVT_NSAVE_CNT.CNT k]
  | 0x124 => [Reg.EVT_FSAVE_PC.PC k]
  | 0x128 => [Reg.EVT_FSAVE_ST.STATUS k]
  | 0x12c => [Reg.EVT_FSAVE_CNT.CNT k]
  | 0x130 => [Reg.EVT_NRING_CFG.BASE k, Reg.EVT_NRING_CFG.SIZE k, Reg.EVT_NRING_CFG.EN k]
  | 0x134 => [Reg.EVT_NRING_WR.INDEX k]
  | 0x138 => [Reg.EVT_NRING_RD.INDEX k]
  | 0x13c => [Reg.EVT_NRING_DROP.COUNT k, Reg.EVT_NRING_DROP.OVF k]
  | 0x140 => [Reg.EVT_FRING_CFG.BASE k, Reg.EVT_FRING_CFG.SIZE k, Reg.EVT_FRING_CFG.EN k]
  | 0x144 => [Reg.EVT_FRING_WR.INDEX k]
  | 0x148 => [Reg.EVT_FRING_RD.INDEX k]
  | 0x14c => [Reg.EVT_FRING_DROP.COUNT k, Reg.EVT_FRING_DROP.OVF k]
  | 0x150 => [Reg.EVT_SEND.TARGET k, Reg.EVT_SEND.CLASS k, Reg.EVT_SEND.KIND k, Reg.EVT_SEND.BASE k]
  | 0x154 => [Reg.EVT_SENDP.PAYLOAD k]
  | 0x158 => [Reg.EVT_STATUS.CFG_ERR k, Reg.EVT_STATUS.RD_ERR k, Reg.EVT_STATUS.SEND_ERR k]
  | _ => []

/-- The fields at an offset of one bsn block; none at a reserved offset (R10). -/
def Reg.bsnAt (n off : Nat) : List Fld :=
  match off with
  | 0x0 => [Reg.BSN_VCTRL.MODE n, Reg.BSN_VCTRL.ENG n]
  | 0x4 => [Reg.BSN_VLIM.VMIN n, Reg.BSN_VLIM.VMAX n]
  | 0x8 => [Reg.BSN_VSET.VFIX n, Reg.BSN_VSET.VFB n]
  | 0xc => [Reg.BSN_TARGET.PERIOD n]
  | 0x10 => [Reg.BSN_BUDGET.TOKENS n, Reg.BSN_BUDGET.LOOKAHEAD n]
  | 0x14 => [Reg.BSN_VSTATUS.VNOW n, Reg.BSN_VSTATUS.CEIL n, Reg.BSN_VSTATUS.ACTIVE n, Reg.BSN_VSTATUS.AT_TOP n, Reg.BSN_VSTATUS.OVR n, Reg.BSN_VSTATUS.OVR_SEEN n, Reg.BSN_VSTATUS.CFG_ERR n]
  | 0x18 => [Reg.BSN_TOKEN.NOW n]
  | 0x1c => [Reg.BSN_TOKMAX.MAX n, Reg.BSN_TOKMAX.CLR n]
  | 0x20 => [Reg.BSN_TREQ.T n]
  | 0x24 => [Reg.BSN_TJ.TEMP n]
  | 0x28 => [Reg.BSN_OVRCNT.COUNT n, Reg.BSN_OVRCNT.OVF n]
  | 0x800 => [Reg.BSN_PWR_STATUS.STATE n, Reg.BSN_PWR_STATUS.WAITING n, Reg.BSN_PWR_STATUS.RETAIN n]
  | 0xc00 => [Reg.BSN_WCS_CTRL.OPEN n, Reg.BSN_WCS_CTRL.WRITE n, Reg.BSN_WCS_CTRL.COMMIT n, Reg.BSN_WCS_CTRL.ABORT n, Reg.BSN_WCS_CTRL.READ n]
  | 0xc04 => [Reg.BSN_WCS_STATUS.STATE n, Reg.BSN_WCS_STATUS.UE n, Reg.BSN_WCS_STATUS.CFG_CODE n, Reg.BSN_WCS_STATUS.FAULT_IDX n, Reg.BSN_WCS_STATUS.ENTRIES n]
  | 0xc08 => [Reg.BSN_WCS_ADDR.INDEX n, Reg.BSN_WCS_ADDR.SPACE n, Reg.BSN_WCS_ADDR.AUTOINC n]
  | 0xc0c => [Reg.BSN_WCS_DATA0.WORD n]
  | 0xc10 => [Reg.BSN_WCS_DATA1.WORD n]
  | 0xc14 => [Reg.BSN_WCS_DATA2.WORD n]
  | 0xc18 => [Reg.BSN_WCS_CE.COUNT n, Reg.BSN_WCS_CE.OVF n]
  | 0xd00 => [Reg.BSN_JET_STATUS.BUSY n, Reg.BSN_JET_STATUS.OWNER n, Reg.BSN_JET_STATUS.UE n]
  | 0xd04 => [Reg.BSN_JET_OPS.COUNT n, Reg.BSN_JET_OPS.OVF n]
  | 0xd08 => [Reg.BSN_JET_CE.COUNT n, Reg.BSN_JET_CE.OVF n]
  | 0xd10 => [Reg.BSN_PK_STATUS.BUSY n, Reg.BSN_PK_STATUS.OWNER n]
  | 0xd14 => [Reg.BSN_PK_IN.COUNT n, Reg.BSN_PK_IN.OVF n]
  | 0xd18 => [Reg.BSN_PK_OUT.COUNT n, Reg.BSN_PK_OUT.OVF n]
  | _ => []

/-- The fields at an offset of one fab block; none at a reserved offset (R10). -/
def Reg.fabAt (off : Nat) : List Fld :=
  if 0x1004 ≤ off ∧ off ≤ 0x1064 ∧ off % 4 = 0 then [Reg.XNG_DOMd.STATE ((off - 0x1000) / 4), Reg.XNG_DOMd.WAKEEN ((off - 0x1000) / 4), Reg.XNG_DOMd.POVR ((off - 0x1000) / 4), Reg.XNG_DOMd.WAKE_SLOW ((off - 0x1000) / 4), Reg.XNG_DOMd.LAST_WAKE ((off - 0x1000) / 4)] else
  match off with
  | 0x0 => [Reg.FAB_DBG.EN, Reg.FAB_DBG.ACTIVE]
  | 0x10 => [Reg.FAB_ELOG_INFO.CODE, Reg.FAB_ELOG_INFO.WRITE, Reg.FAB_ELOG_INFO.REQ, Reg.FAB_ELOG_INFO.TGT, Reg.FAB_ELOG_INFO.VALID]
  | 0x14 => [Reg.FAB_ELOG_ADDR_LO.ADDR]
  | 0x18 => [Reg.FAB_ELOG_ADDR_HI.ADDR]
  | 0x20 => [Reg.FAB_TIMEOUTS.COUNT, Reg.FAB_TIMEOUTS.OVF]
  | 0x24 => [Reg.FAB_NOUNIT.COUNT, Reg.FAB_NOUNIT.OVF]
  | 0x28 => [Reg.FAB_CE.COUNT, Reg.FAB_CE.OVF]
  | 0x2c => [Reg.FAB_UE.COUNT, Reg.FAB_UE.OVF]
  | 0x30 => [Reg.FAB_LATE.COUNT, Reg.FAB_LATE.OVF]
  | 0x1080 => [Reg.XNG_POVRCNT.COUNT, Reg.XNG_POVRCNT.OVF]
  | 0x1084 => [Reg.XNG_DORMANT.COUNT, Reg.XNG_DORMANT.OVF]
  | 0x1088 => [Reg.XNG_WAKES.COUNT, Reg.XNG_WAKES.OVF]
  | _ => []

/-- The fields at an offset of one sink block; none at a reserved offset (R10). -/
def Reg.sinkAt (x off : Nat) : List Fld :=
  match off with
  | 0x0 => [Reg.SINK_CFG.REG0 x, Reg.SINK_CFG.REG1 x, Reg.SINK_CFG.EN x, Reg.SINK_CFG.BASE x, Reg.SINK_CFG.MAXREC x, Reg.SINK_CFG.AGE x]
  | 0x4 => [Reg.SINK_STATUS.CUR x, Reg.SINK_STATUS.OPEN x, Reg.SINK_STATUS.FULL x, Reg.SINK_STATUS.CFG_ERR x]
  | 0x8 => [Reg.SINK_RDY0.OFFSET x]
  | 0xc => [Reg.SINK_RDY1.OFFSET x]
  | 0x10 => [Reg.SINK_NOTIFY.KIB x]
  | 0x14 => [Reg.SINK_DROP.COUNT x, Reg.SINK_DROP.OVF x]
  | _ => []

/-- The fields at an offset of one net block; none at a reserved offset (R10). -/
def Reg.netAt (p off : Nat) : List Fld :=
  match off with
  | 0x0 => [Reg.NET_PCFG.EN p, Reg.NET_PCFG.ROLE p, Reg.NET_PCFG.SPEED p, Reg.NET_PCFG.TC10 p, Reg.NET_PCFG.WAKEFWD p, Reg.NET_PCFG.WAKEEN p]
  | 0x4 => [Reg.NET_PSTATUS.LINK p, Reg.NET_PSTATUS.RATE p, Reg.NET_PSTATUS.MASTER p, Reg.NET_PSTATUS.TC10 p, Reg.NET_PSTATUS.SQI p]
  | 0x8 => [Reg.NET_PDIAG.RUN p, Reg.NET_PDIAG.BUSY p, Reg.NET_PDIAG.RESULT p, Reg.NET_PDIAG.DIST p]
  | 0xc => [Reg.NET_PMIR.RX p, Reg.NET_PMIR.TX p, Reg.NET_PMIR.SNAP p]
  | 0x10 => [Reg.NET_PRX.COUNT p, Reg.NET_PRX.OVF p]
  | 0x14 => [Reg.NET_PRXERR.COUNT p, Reg.NET_PRXERR.OVF p]
  | 0x18 => [Reg.NET_PDROP.COUNT p, Reg.NET_PDROP.OVF p]
  | _ => []

/-- The fields at an offset of one can block; none at a reserved offset (R10). -/
def Reg.canAt (n off : Nat) : List Fld :=
  match off with
  | 0x0 => [Reg.CAN_CFG.EN n, Reg.CAN_CFG.TERM n, Reg.CAN_CFG.FD n, Reg.CAN_CFG.WAKEEN n]
  | 0x4 => [Reg.CAN_NBT.BRP n, Reg.CAN_NBT.TSEG1 n, Reg.CAN_NBT.TSEG2 n, Reg.CAN_NBT.SJW n]
  | 0x8 => [Reg.CAN_DBT.TDC n, Reg.CAN_DBT.BRP n, Reg.CAN_DBT.TSEG1 n, Reg.CAN_DBT.TSEG2 n, Reg.CAN_DBT.SJW n]
  | 0xc => [Reg.CAN_STATUS.STATE n, Reg.CAN_STATUS.TEC n, Reg.CAN_STATUS.REC n, Reg.CAN_STATUS.FAULT n, Reg.CAN_STATUS.GUARD_REJ n, Reg.CAN_STATUS.RXOVF n, Reg.CAN_STATUS.TXERR n]
  | 0x10 => [Reg.CAN_PERMIT0.MODE n, Reg.CAN_PERMIT0.IDE n, Reg.CAN_PERMIT0.BURST n, Reg.CAN_PERMIT0.RATE n]
  | 0x14 => [Reg.CAN_PERMIT1.ID_LO n]
  | 0x18 => [Reg.CAN_PERMIT2.ID_HI n]
  | 0x1c => [Reg.CAN_RXFLT.ID n, Reg.CAN_RXFLT.IDE n]
  | 0x20 => [Reg.CAN_RXMASK.ID n, Reg.CAN_RXMASK.IDE n]
  | 0x24 => [Reg.CAN_RXPOP.WORD n]
  | 0x28 => [Reg.CAN_RXCNT.COUNT n]
  | 0x2c => [Reg.CAN_TXPUSH.WORD n]
  | 0x30 => [Reg.CAN_TXCTRL.GO n, Reg.CAN_TXCTRL.TAG n]
  | 0x40 => [Reg.CAN_RXFRM.COUNT n, Reg.CAN_RXFRM.OVF n]
  | 0x44 => [Reg.CAN_RXERR.COUNT n, Reg.CAN_RXERR.OVF n]
  | 0x48 => [Reg.CAN_GUARDREJ.COUNT n, Reg.CAN_GUARDREJ.OVF n]
  | _ => []

/-- The fields at an offset of one cam block; none at a reserved offset (R10). -/
def Reg.camAt (n off : Nat) : List Fld :=
  match off with
  | 0x0 => [Reg.CAM_CFG.EN n, Reg.CAM_CFG.GEAR n, Reg.CAM_CFG.VC n, Reg.CAM_CFG.KEEP n]
  | 0x4 => [Reg.CAM_STATUS.LOCK n, Reg.CAM_STATUS.GEAR n, Reg.CAM_STATUS.FRAME n]
  | 0x8 => [Reg.CAM_I2C.DATA n, Reg.CAM_I2C.REG n, Reg.CAM_I2C.DEV n, Reg.CAM_I2C.WRITE n, Reg.CAM_I2C.GO n, Reg.CAM_I2C.BUSY n, Reg.CAM_I2C.NACK n]
  | 0x10 => [Reg.CAM_DISC.COUNT n, Reg.CAM_DISC.OVF n]
  | 0x14 => [Reg.CAM_ERR.COUNT n, Reg.CAM_ERR.OVF n]
  | 0x18 => [Reg.CAM_WDROP.COUNT n, Reg.CAM_WDROP.OVF n]
  | _ => []

/-- The fields at an offset of one dock block; none at a reserved offset (R10). -/
def Reg.dockAt (off : Nat) : List Fld :=
  match off with
  | 0x0 => [Reg.DOCK_CFG.LASER_EN, Reg.DOCK_CFG.LANES]
  | 0x4 => [Reg.DOCK_STATUS.PRESENT, Reg.DOCK_STATUS.LASER, Reg.DOCK_STATUS.LANEUP, Reg.DOCK_STATUS.STREAM]
  | _ => []

/-- The fields at an offset of one dockq block; none at a reserved offset (R10). -/
def Reg.dockqAt (q off : Nat) : List Fld :=
  match off with
  | 0x0 => [Reg.DOCK_QCFG.PORT q, Reg.DOCK_QCFG.EN q]
  | 0x4 => [Reg.DOCK_QDROP.COUNT q, Reg.DOCK_QDROP.OVF q]
  | _ => []

/-- The fields at an offset of one twn block; none at a reserved offset (R10). -/
def Reg.twnAt (off : Nat) : List Fld :=
  match off with
  | 0x0 => [Reg.TWN_CFG.EN, Reg.TWN_CFG.LANES]
  | 0x4 => [Reg.TWN_STATUS.LANEUP, Reg.TWN_STATUS.PARTNER, Reg.TWN_STATUS.PART]
  | 0x8 => [Reg.TWN_CRCERR.COUNT, Reg.TWN_CRCERR.OVF]
  | 0xc => [Reg.TWN_BADTYPE.COUNT, Reg.TWN_BADTYPE.OVF]
  | 0x10 => [Reg.TWN_RETRY.COUNT, Reg.TWN_RETRY.OVF]
  | 0x20 => [Reg.TWN_PAIR.ROLE, Reg.TWN_PAIR.ATTACHED, Reg.TWN_PAIR.ENGMASK, Reg.TWN_PAIR.WAIT]
  | 0x24 => [Reg.TWN_PARTNER_UNIT.UNIT]
  | 0x28 => [Reg.TWN_SYNC_STATUS.LOCK, Reg.TWN_SYNC_STATUS.DRIVE, Reg.TWN_SYNC_STATUS.FRAME]
  | 0x2c => [Reg.TWN_SYNC_DELAY.D, Reg.TWN_SYNC_DELAY.VALID]
  | 0x30 => [Reg.TWN_SYNC_FAULT.NOW, Reg.TWN_SYNC_FAULT.LATCHED, Reg.TWN_SYNC_FAULT.DIAG, Reg.TWN_SYNC_FAULT.SEEN, Reg.TWN_SYNC_FAULT.RETRY_MAX, Reg.TWN_SYNC_FAULT.RETRIES]
  | 0x34 => [Reg.TWN_SYNC_CRC.COUNT, Reg.TWN_SYNC_CRC.OVF]
  | 0x38 => [Reg.TWN_DETACHES.COUNT, Reg.TWN_DETACHES.OVF]
  | _ => []

/-- The fields at an offset of one pwr block; none at a reserved offset (R10). -/
def Reg.pwrAt (off : Nat) : List Fld :=
  match off with
  | 0x0 => [Reg.PWR_STATUS.STATE, Reg.PWR_STATUS.IGN, Reg.PWR_STATUS.LIMIT, Reg.PWR_STATUS.LOWIN, Reg.PWR_STATUS.RES_LOW]
  | 0x4 => [Reg.PWR_INPUT.MV, Reg.PWR_INPUT.LOAD]
  | 0x8 => [Reg.PWR_CHG.MODE, Reg.PWR_CHG.MW]
  | 0xc => [Reg.PWR_CFG.PREP, Reg.PWR_CFG.BASIN_TO]
  | 0x10 => [Reg.PWR_REFUSER.CODE, Reg.PWR_REFUSER.BASIN, Reg.PWR_REFUSER.INDEX, Reg.PWR_REFUSER.TARGET]
  | 0x14 => [Reg.PWR_LASTWAKE.SRC, Reg.PWR_LASTWAKE.INDEX, Reg.PWR_LASTWAKE.REPLAY, Reg.PWR_LASTWAKE.FROM]
  | 0x18 => [Reg.PWR_LASTOFF.CAUSE]
  | 0x1c => [Reg.PWR_AO.UA]
  | 0x20 => [Reg.PWR_IGN_FAULT.NOW, Reg.PWR_IGN_FAULT.LATCHED, Reg.PWR_IGN_FAULT.DIAG, Reg.PWR_IGN_FAULT.SEEN, Reg.PWR_IGN_FAULT.RETRY_MAX, Reg.PWR_IGN_FAULT.RETRIES]
  | 0x30 => [Reg.PWR_REFUSED.COUNT, Reg.PWR_REFUSED.OVF]
  | 0x34 => [Reg.PWR_WAKES.COUNT, Reg.PWR_WAKES.OVF]
  | 0x38 => [Reg.PWR_REPLAYS.COUNT, Reg.PWR_REPLAYS.OVF]
  | 0x4000 => [Reg.PWR_THERM.BASE_T, Reg.PWR_THERM.NAND_T, Reg.PWR_THERM.RES_T, Reg.PWR_THERM.STATE, Reg.PWR_THERM.TRIPPED]
  | 0x4004 => [Reg.PWR_THERM_CEIL.GOV, Reg.PWR_THERM_CEIL.LCODE]
  | 0x4008 => [Reg.PWR_THERM_TRIPS.COUNT, Reg.PWR_THERM_TRIPS.OVF]
  | _ => []

/-- The fields at an offset of one rst block; none at a reserved offset (R10). -/
def Reg.rstAt (off : Nat) : List Fld :=
  match off with
  | 0x0 => [Reg.RST_CAUSE.CAUSE, Reg.RST_CAUSE.PREV, Reg.RST_CAUSE.TRIM_B, Reg.RST_CAUSE.TRIM_FAILS, Reg.RST_CAUSE.STW_DF]
  | 0x4 => [Reg.RST_STATUS.STEP, Reg.RST_STATUS.BLK_ERR]
  | 0x8 => [Reg.RST_WDOG.TIMEOUT, Reg.RST_WDOG.KICK]
  | 0xc => [Reg.RST_BLOCK.CLASS, Reg.RST_BLOCK.INDEX, Reg.RST_BLOCK.BUSY, Reg.RST_BLOCK.GO]
  | 0x10 => [Reg.RST_HELD_LO.CORE]
  | 0x14 => [Reg.RST_HELD_HI.CORE]
  | 0x18 => [Reg.RST_RELMASK_LO.CORE]
  | 0x1c => [Reg.RST_RELMASK_HI.CORE]
  | 0x20 => [Reg.RST_WDOGS.COUNT, Reg.RST_WDOGS.OVF]
  | 0x24 => [Reg.RST_BLOCKS.COUNT, Reg.RST_BLOCKS.OVF]
  | _ => []

/-- The fields at an offset of one pst block; none at a reserved offset (R10). -/
def Reg.pstAt (off : Nat) : List Fld :=
  match off with
  | 0x0 => [Reg.PST_STATUS.STALE, Reg.PST_STATUS.MISMATCH, Reg.PST_STATUS.WORN_WR, Reg.PST_STATUS.LIST_ERR, Reg.PST_STATUS.ANY_WARN, Reg.PST_STATUS.ANY_WORN, Reg.PST_STATUS.LIST_IDX]
  | 0x4 => [Reg.PST_FP_LO.FP]
  | 0x8 => [Reg.PST_FP_HI.FP]
  | 0xc => [Reg.PST_GEN.GEN]
  | 0x10 => [Reg.PST_PEER_FP_LO.FP]
  | 0x14 => [Reg.PST_PEER_FP_HI.FP]
  | 0x18 => [Reg.PST_PEER_GEN.GEN]
  | 0x1c => [Reg.PST_WORNWR.COUNT, Reg.PST_WORNWR.OVF]
  | _ => []

/-- The fields at an offset of one ses block; none at a reserved offset (R10). -/
def Reg.sesAt (off : Nat) : List Fld :=
  match off with
  | 0x0 => [Reg.SES_STATUS.OPEN, Reg.SES_STATUS.LEVEL, Reg.SES_STATUS.TRANSPORT, Reg.SES_STATUS.SLOT, Reg.SES_STATUS.TRIAL, Reg.SES_STATUS.FALLBACK, Reg.SES_STATUS.RECOVERY]
  | 0x4 => [Reg.SES_FWVER.VERSION]
  | 0x8 => [Reg.SES_OPENS.COUNT, Reg.SES_OPENS.OVF]
  | 0xc => [Reg.SES_AUTHFAIL.COUNT, Reg.SES_AUTHFAIL.OVF]
  | 0x10 => [Reg.SES_TAKEOVER.COUNT, Reg.SES_TAKEOVER.OVF]
  | 0x14 => [Reg.SES_BADFRAME.COUNT, Reg.SES_BADFRAME.OVF]
  | 0x18 => [Reg.SES_DROP.COUNT, Reg.SES_DROP.OVF]
  | _ => []

/-- The fields of the register at a canonical IO address (R20); none at a reserved offset or outside every block. -/
def fieldsAt (a : Nat) : List Fld :=
  if a < 0x20000 then []
  else if a < 0x30000 then
    let n := (a - 0x20000) / 0x2000; let o := (a - 0x20000) % 0x2000
    if o < 0x1000 then Reg.bsnAt n o
    else if o < 0x1400 then Reg.slcAt (8 * n + (o - 0x1000) / 0x80) ((o - 0x1000) % 0x80) else []
  else if 0x100000 ≤ a ∧ a < 0x104000 then Reg.angAt ((a - 0x100000) / 0x1000) ((a - 0x100000) % 0x1000)
  else if 0x110000 ≤ a ∧ a < 0x120000 then Reg.timAt (a - 0x110000)
  else if 0x120000 ≤ a ∧ a < 0x124000 then
    let o := a - 0x120000
    if o % 4 ≠ 0 then []
    else if o < 0x180 then [Reg.AIN_CH.EN (o / 4), Reg.AIN_CH.GROUP (o / 4), Reg.AIN_CH.RANGE (o / 4), Reg.AIN_CH.FILTER (o / 4), Reg.AIN_CH.RATIO (o / 4)]
    else if 0x200 ≤ o ∧ o < 0x380 then [Reg.AIN_LAST.CODE ((o - 0x200) / 4)]
    else if 0x400 ≤ o ∧ o < 0x40C then [Reg.AIN_OVRNG.INPUT ((o - 0x400) / 4)]
    else if 0x800 ≤ o ∧ o < 0xC00 then Reg.aingAt ((o - 0x800) / 0x20) ((o - 0x800) % 0x20)
    else if 0x1000 ≤ o ∧ o < 0x1180 then [Reg.AIN_FAULT.NOW ((o - 0x1000) / 4), Reg.AIN_FAULT.LATCHED ((o - 0x1000) / 4), Reg.AIN_FAULT.DIAG ((o - 0x1000) / 4), Reg.AIN_FAULT.SEEN ((o - 0x1000) / 4), Reg.AIN_FAULT.RETRY_MAX ((o - 0x1000) / 4), Reg.AIN_FAULT.RETRIES ((o - 0x1000) / 4)]
    else []
  else if 0x124000 ≤ a ∧ a < 0x124400 then Reg.finAt ((a - 0x124000) / 0x40) ((a - 0x124000) % 0x40)
  else if 0x126000 ≤ a ∧ a < 0x128000 then
    let o := a - 0x126000
    if o < 0x300 then Reg.dinAt (o / 0x10) (o % 0x10)
    else if o = 0x400 then [Reg.DIN_LEVEL0.LEVEL]
    else if o = 0x404 then [Reg.DIN_LEVEL1.LEVEL]
    else if 0x500 ≤ o ∧ o < 0x5C0 then Reg.dingAt ((o - 0x500) / 0x20) ((o - 0x500) % 0x20) else []
  else if 0x128000 ≤ a ∧ a < 0x12A000 then
    let o := a - 0x128000
    if o < 0x80 then Reg.excAt (o / 0x10) (o % 0x10)
    else if o = 0x100 then [Reg.EXC_BUDGET.MW] else if o = 0x104 then [Reg.EXC_POWER.MW] else []
  else if 0x12A000 ≤ a ∧ a < 0x12C000 then
    let o := a - 0x12A000
    if o < 0x100 then Reg.trgAt (o / 0x10) (o % 0x10)
    else if 0x200 ≤ o ∧ o < 0x240 ∧ o % 4 = 0 then [Reg.TRG_CAPPED.COUNT ((o - 0x200) / 4), Reg.TRG_CAPPED.OVF ((o - 0x200) / 4)] else []
  else if 0x130000 ≤ a ∧ a < 0x140000 then Reg.runAt ((a - 0x130000) / 0x400) ((a - 0x130000) % 0x400)
  else if 0x140000 ≤ a ∧ a < 0x148000 then
    let o := a - 0x140000
    if 0x100 ≤ o ∧ o < 0x200 then Reg.ringAt ((o - 0x100) / 0x20) ((o - 0x100) % 0x20) else Reg.rsvAt o
  else if 0x148000 ≤ a ∧ a < 0x150000 then
    let o := a - 0x148000
    if 0x100 ≤ o ∧ o < 0x300 then Reg.rgnAt ((o - 0x100) / 0x20) ((o - 0x100) % 0x20) else Reg.weirAt o
  else if 0x150000 ≤ a ∧ a < 0x160000 then
    let o := a - 0x150000
    if 0x1000 ≤ o ∧ o < 0x1380 then Reg.netAt ((o - 0x1000) / 0x40) ((o - 0x1000) % 0x40) else Reg.sinkAt 0 o
  else if 0x160000 ≤ a ∧ a < 0x170000 then
    let o := a - 0x160000
    if 0x1000 ≤ o ∧ o < 0x1C00 then Reg.canAt ((o - 0x1000) / 0x100) ((o - 0x1000) % 0x100) else Reg.sinkAt 1 o
  else if 0x170000 ≤ a ∧ a < 0x180000 then
    let o := a - 0x170000
    if 0x1000 ≤ o ∧ o < 0x1400 then Reg.camAt ((o - 0x1000) / 0x80) ((o - 0x1000) % 0x80) else Reg.sinkAt 2 o
  else if 0x180000 ≤ a ∧ a < 0x188000 then
    let o := a - 0x180000
    if 0x100 ≤ o ∧ o < 0x140 then Reg.dockqAt ((o - 0x100) / 0x10) ((o - 0x100) % 0x10) else Reg.dockAt o
  else if 0x188000 ≤ a ∧ a < 0x190000 then
    let o := a - 0x188000
    if 0x100 ≤ o ∧ o < 0x140 ∧ o % 0x10 = 4 then [Reg.TWN_QDROP.COUNT ((o - 0x100) / 0x10), Reg.TWN_QDROP.OVF ((o - 0x100) / 0x10)] else Reg.twnAt o
  else if 0x190000 ≤ a ∧ a < 0x1A0000 then Reg.fabAt (a - 0x190000)
  else if 0x1A0000 ≤ a ∧ a < 0x1A1000 then Reg.censusAt (a - 0x1A0000)
  else if 0xF00000 ≤ a ∧ a < 0xF08000 then Reg.pwrAt (a - 0xF00000)
  else if 0xF10000 ≤ a ∧ a < 0xF10100 then Reg.rstAt (a - 0xF10000)
  else if 0xF20000 ≤ a ∧ a < 0xF24000 then Reg.pstAt (a - 0xF20000)
  else if 0xF30000 ≤ a ∧ a < 0xF30100 then Reg.sesAt (a - 0xF30000)
  else if 0x100000000 ≤ a then Reg.coreLocalAt ((a - 0x100000000) / 0x1000) ((a - 0x100000000) % 0x1000)
  else []

end Sys2Proof.Machine
end

