-- ==== Sys2Proof/Machine/SMap.lean ====
section
/-! DEFINITION. Reading and writing a sparse table (Word.lean, SMap): the one canonical form in which memory and every
indexed piece of state is held. -/
namespace Sys2Proof.Machine

/-- The value at index k; an unlisted index reads d. -/
def SMap.get {α : Type} (d : α) : SMap α → Nat → α
  | [], _ => d
  | (k', v') :: t, k => if k = k' then v' else SMap.get d t k

/-- Write v at index k. Writing d removes the entry, so that equal tables are equal lists. -/
def SMap.set {α : Type} [DecidableEq α] (d : α) (m : SMap α) (k : Nat) (v : α) : SMap α :=
  m.filter (fun e => decide (e.1 < k)) ++ (if v = d then [] else [(k, v)]) ++ m.filter (fun e => decide (k < e.1))

/-- Remove every entry whose index satisfies p: those indices read the unlisted value again. -/
def SMap.erase {α : Type} (p : Nat → Bool) (m : SMap α) : SMap α := m.filter fun e => !p e.1

/-- Canonical form: every index above lo, strictly rising, no entry equal to d. -/
def SMap.wfFrom {α : Type} [DecidableEq α] (d : α) : Option Nat → SMap α → Bool
  | _, [] => true
  | lo, (k, v) :: t => (match lo with | none => true | some l => l < k) && (v != d) && SMap.wfFrom d (some k) t

/-- The canonical form of a whole table. -/
def SMap.wf {α : Type} [DecidableEq α] (d : α) (m : SMap α) : Bool := SMap.wfFrom d none m

end Sys2Proof.Machine
end

