-- ==== Sys2Proof/Machine/Ops.lean ====
section
/-! DEFINITION. The named operations over registers, counters, time, angle words, events and memory that every unit
uses. -/
namespace Sys2Proof.Machine

/-! ## Register fields -/

/-- The index of a field in the field file. -/
def Fld.key (f : Fld) : Nat := f.addr * 32 + f.lo

/-- The value a field holds; a field nothing has written holds its After reset value (00_scope.md, Registers). -/
def Units.rd (u : Units) (f : Fld) : Nat := SMap.get f.rst u.regs f.key

/-- A one-bit field as a Boolean. -/
def Units.is (u : Units) (f : Fld) : Bool := u.rd f == 1

/-- Store a value in a field, cut to the field's width. -/
def Units.wr (u : Units) (f : Fld) (v : Nat) : Units := { u with regs := SMap.set f.rst u.regs f.key (v % 2 ^ f.w) }

/-- Store a Boolean in a one-bit field. -/
def Units.wrb (u : Units) (f : Fld) (b : Bool) : Units := u.wr f (b2n b)

/-- Give every register whose address satisfies p its After reset values. -/
def Units.resetRegs (p : Nat → Bool) (u : Units) : Units := { u with regs := SMap.erase (fun k => p (k / 32)) u.regs }

/-- A write to one field by the access types of R9 and the reserved codes of R11; `stw`: the steward writes. WO fields
store nothing: their effects belong to the unit. -/
def Units.writeField (u : Units) (stw : Bool) (f : Fld) (v : Nat) : Units :=
  let x := bits v (f.lo + f.w - 1) f.lo
  match f.acc with
  | .rw => if f.min ≤ x ∧ x ≤ f.max then u.wr f x else u
  | .ro | .wo | .wos => u
  | .w1c => u.wr f (u.rd f &&& (2 ^ f.w - 1 - x))
  | .w1cs => if stw then u.wr f (u.rd f &&& (2 ^ f.w - 1 - x)) else u
  | .w1s => u.wr f (u.rd f ||| x)
  | .so | .sov => if stw ∧ f.min ≤ x ∧ x ≤ f.max then u.wr f x else u

/-- What a field contributes to a read of its register (R9): nothing for a WO field, nothing to a core for an SO field
outside the core-visible status subset. -/
def Units.readField (u : Units) (stw : Bool) (f : Fld) : Nat :=
  match f.acc with
  | .wo | .wos => 0
  | .so => if stw then u.rd f * 2 ^ f.lo else 0
  | _ => u.rd f * 2 ^ f.lo

/-- A read composed from the fields of a register (R10: reserved bits read 0). -/
def Units.readFields (u : Units) (stw : Bool) (fs : List Fld) : Nat := fs.foldl (fun a f => a + u.readField stw f) 0

/-- A write of every field of a register by its access type. -/
def Units.writeFields (u : Units) (stw : Bool) (fs : List Fld) (v : Nat) : Units :=
  fs.foldl (fun a f => a.writeField stw f v) u

/-! ## Counters (R12) -/

/-- Add n to a statistics counter of the common layout: it stops at 0x7FFF_FFFF, and an increment that finds it there
sets OVF. -/
def Units.countN (u : Units) (c o : Fld) (n : Nat) : Units :=
  if u.rd c + n > 0x7FFFFFFF then (u.wr c 0x7FFFFFFF).wr o 1 else u.wr c (u.rd c + n)

/-- One more. -/
def Units.count (u : Units) (c o : Fld) : Units := u.countN c o 1

/-- A write of 1 to OVF clears the flag and COUNT. -/
def Units.clearCounter (u : Units) (c o : Fld) (v : Nat) : Units := if bit v 31 then (u.wr c 0).wr o 0 else u

/-- A number held to a field of w bits. -/
def satN (w n : Nat) : Nat := if n < 2 ^ w then n else 2 ^ w - 1

/-! ## The census (R1, R2) -/

def Part.code : Part → Nat
  | .swk7240 => 0x7240 | .swk7220 => 0x7220 | .swk7210 => 0x7210
/-- FAB_PRESENT0 of a part. -/
def Part.present0 : Part → Nat
  | .swk7240 => 0x01FFFFFF | .swk7220 => 0x010F0F0F | .swk7210 => 0x01030003
/-- FAB_PRESENT1 of a part. -/
def Part.present1 : Part → Nat
  | .swk7240 => 0x1FFFFFFF | .swk7220 => 0x10F00F0F | .swk7210 => 0x10000F00

def Units.basinPresent (u : Units) (n : Nat) : Bool := n < 8 && bit u.census.part.present0 n
def Units.jetPresent (u : Units) (n : Nat) : Bool := n < 8 && bit u.census.part.present0 (8 + n)
def Units.packerPresent (u : Units) (n : Nat) : Bool := n < 8 && bit u.census.part.present0 (16 + n)
/-- Core k of the 64; index 64 is the steward core, present in every part. -/
def Units.corePresent (u : Units) (k : Nat) : Bool := k == 64 || (k < 64 && u.basinPresent (k / 8))
/-- Switch port p: 0-7 10GBASE-T1, 8-11 1000BASE-T1, 12 the service port, 13 the internal port. -/
def Units.portPresent (u : Units) (p : Nat) : Bool :=
  if p < 8 then bit u.census.part.present1 p else if p < 12 then bit u.census.part.present1 p else p == 12 || p == 13
def Units.camPresent (u : Units) (n : Nat) : Bool := n < 8 && bit u.census.part.present1 (12 + n)
def Units.lanePresent (u : Units) (n : Nat) : Bool := n < 8 && bit u.census.part.present1 (20 + n)
/-- Basins of the part. -/
def Units.basins (u : Units) : List Nat := (List.range 8).filter u.basinPresent

/-! ## Time (03_time_and_stamps.md R79) -/

/-- CD04 ticks (8 ns) in a number of CD03 ticks (2.5 ns). -/
def cd04 (t : Nat) : Nat := t * 5 / 16

/-- The time base in units of 10^-12 ns at a CD03 tick; 0 before it starts counting (R539). -/
def timeAcc : List TBase → Nat → Nat
  | [], _ => 0
  | b :: bs, t =>
    if cd04 t ≥ b.tick ∨ bs = [] then
      ((b.acc : Int) + ((cd04 t - b.tick : Nat) : Int) * (8 * 10 ^ 12 + 8 * b.rate)).toNat
    else timeAcc bs t

/-- TAI nanoseconds at a CD03 tick. -/
def Units.timeAt (u : Units) (t : Nat) : Nat := timeAcc u.tbase t / 10 ^ 12
/-- TAI nanoseconds now. -/
def Units.now (u : Units) : Nat := u.timeAt u.clock
/-- The signed rate in TIM_RATE. -/
def Units.rate (u : Units) : Int := toInt 32 (u.rd Reg.TIM_RATE.RATE)

/-- Start a new stretch of the time base now, at a time in ns, with the present TIM_RATE. Older stretches are kept for
captures dated before it (R81). -/
def Units.rebase (u : Units) (acc : Nat) : Units :=
  { u with tbase := ({ tick := cd04 u.clock, acc := acc, rate := u.rate } :: u.tbase).take 4 }

/-- The instant a command stands at: time does not run backwards. -/
def Units.advance (u : Units) (t : Nat) : Units := { u with clock := max u.clock t }

/-- The next free value's number: free values of Config are applied to it. -/
def Units.draw (u : Units) : Nat × Units := (u.free, { u with free := u.free + 1 })

/-! ## Angle words (02_angle_bases.md R29 to R32, R57) -/

def Units.eng (u : Units) (n : Nat) : AngEngine := SMap.get {} u.ang n
def Units.setEng (u : Units) (n : Nat) (e : AngEngine) : Units := { u with ang := SMap.set {} u.ang n e }

/-- The no-angle value (R30). -/
def noAngle : Nat := 0xFFFFFFFF
/-- Counts in one crank revolution. -/
def rev : Int := 368640
/-- The cycle length C of an engine's base (R29). -/
def Units.cycleLen (u : Units) (n : Nat) : Int := if u.is (Reg.ANG_CTRL.CYCLE n) then 737280 else 368640

/-- theta + w0 tau + a tau^2 / 2, rounded down to counts. -/
def Seg.at (s : Seg) (tau : Int) : Int := ((s.theta : Rat) + s.w0 * tau + s.a * tau * tau / 2).floor

/-- The absolute angle published at tick t (R57): the clamps, and never moving backwards within the stretch. With a
negative acceleration the largest value so far stands at the turning point, once it is passed. -/
def Seg.value (s : Seg) (t : Nat) : Int :=
  let tau : Int := (t : Int) - s.t0
  let lo : Int := (s.start : Int) - s.t0
  let m : Int :=
    if s.a < 0 then
      let p := (-(s.w0 / s.a)).floor
      let c (x : Int) : Int := max lo (min tau x)
      max (s.at (c p)) (s.at (c (p + 1)))
    else s.at tau
  max s.floor (min s.cap m)

/-- The stretch in force at tick t. -/
def segAt : List Seg → Nat → Option Seg
  | [], _ => none
  | s :: ss, t => if s.start ≤ t then some s else segAt ss t

/-- The absolute angle at tick t, when the angle word is valid. -/
def Units.absAngle (u : Units) (n t : Nat) : Option Int :=
  match segAt (u.eng n).segs t with
  | some s => if s.full then some (s.value t) else none
  | none => none

/-- An absolute angle as an angle word: ANGLE in bits 19:0, CYCLE modulo 4,096 in bits 31:20 (R29). -/
def wordOf (c x : Int) : Nat := ((x / c) % 4096).toNat * 2 ^ 20 + (x % c).toNat

/-- The angle word of engine n at tick t (R30: the no-angle value without a valid angle). -/
def Units.angleWord (u : Units) (n t : Nat) : Nat :=
  match u.absAngle n t with
  | some x => wordOf (u.cycleLen n) x
  | none => noAngle

/-- The angle stamp of a base selector (R87, R334): an engine's word for 0-3, the no-angle value for any other code. -/
def Units.stampAngle (u : Units) (base t : Nat) : Nat := if base < 4 then u.angleWord base t else noAngle

/-! ## Events (13_events.md R333, R341, R75) -/

def Units.evQueue (u : Units) (src : Nat) : EvQueue := SMap.get {} u.evq src
def Units.setEvQueue (u : Units) (src : Nat) (q : EvQueue) : Units := { u with evq := SMap.set {} u.evq src q }

/-- A source's output queue holds 16 records, an angle engine's 32. -/
def evDepth (src : Nat) : Nat := if src / 0x1000 = 1 then 32 else 16

/-- Emit an event at tick t: the record, with its time and the engines' angle words, joins its source's queue; a record
that finds the queue full is dropped and the next one delivered carries SRCLOSS. An angle engine counts it in
ANG_EVTDROP. -/
def Units.emitAt (u : Units) (t src kind pay : Nat) : Units :=
  let q := u.evQueue src
  if q.q.length < evDepth src then
    let ws := [u.angleWord 0 t, u.angleWord 1 t, u.angleWord 2 t, u.angleWord 3 t]
    let r : EvRec := ⟨src, kind, pay % 2 ^ 32, u.timeAt t % 2 ^ 32, ws⟩
    u.setEvQueue src { q with q := q.q ++ [r] }
  else
    let u := u.setEvQueue src { q with lost := true }
    if src / 0x1000 = 1 then u.count (Reg.ANG_EVTDROP.COUNT (src - 0x1000)) (Reg.ANG_EVTDROP.OVF (src - 0x1000)) else u

/-- Emit an event now. -/
def Units.emit (u : Units) (src kind pay : Nat) : Units := u.emitAt u.clock src kind pay

/-! ## Memory (01_architecture.md R26) -/

/-- What a byte of memory that nothing has written reads as. DESIGN CHOICE (log entry 3). -/
def emptyByte : Byte := 0

/-- The canonical form of the memory table. -/
def Memory.wf (m : SMap Byte) : Bool := SMap.wf emptyByte m

def State.byte (s : State) (a : Nat) : Byte := SMap.get emptyByte s.mem a
def State.setByte (s : State) (a : Nat) (v : Byte) : State := { s with mem := SMap.set emptyByte s.mem a v }

/-- n bytes from address a, little-endian. -/
def State.load (s : State) (a : Nat) : Nat → Nat
  | 0 => 0
  | n + 1 => (s.byte a).toNat + 256 * s.load (a + 1) n

/-- The low n bytes of v at address a, little-endian. -/
def State.store (s : State) (a : Nat) : Nat → Nat → State
  | 0, _ => s
  | n + 1, v => (s.setByte a (BitVec.ofNat 8 v)).store (a + 1) n (v / 256)

/-- A list of bytes at address a. -/
def State.storeBytes (s : State) (a : Nat) : List Nat → State
  | [] => s
  | b :: bs => (s.setByte a (BitVec.ofNat 8 b)).storeBytes (a + 1) bs

/-- n bytes from address a as a list. -/
def State.loadBytes (s : State) (a : Nat) : Nat → List Nat
  | 0 => []
  | n + 1 => (s.byte a).toNat :: s.loadBytes (a + 1) n

/-- n 32-bit words from address a. -/
def State.loadWords (s : State) (a : Nat) : Nat → List Nat
  | 0 => []
  | n + 1 => s.load a 4 :: s.loadWords (a + 4) n

/-- 32-bit words at address a. -/
def State.storeWords (s : State) (a : Nat) : List Nat → State
  | [] => s
  | w :: ws => (s.store a 4 w).storeWords (a + 4) ws

/-- Clear n bytes from address a: they read as unwritten again. -/
def State.clear (s : State) (a n : Nat) : State :=
  { s with mem := SMap.erase (fun k => decide (a ≤ k) && decide (k < a + n)) s.mem }

/-- A change of the units alone: memory and the queue of commands stay as they are. -/
def State.onU (f : Units → Units) (s : State) : State := { s with u := f s.u }

/-- The outcome of a command on the units alone, when its operands name something the module has. -/
def State.run (s : State) (ok : Bool) (f : Units → Units) : Host.Outcome State Fault Refusal :=
  if ok then .next (s.onU f) else .fault .noSuchUnit

/-- The outcome of a command on the units and the memory, when its operands name something the module has. -/
def State.runS (s : State) (ok : Bool) (f : State → State) : Host.Outcome State Fault Refusal :=
  if ok then .next (f s) else .fault .noSuchUnit

/-- An input of the configuration fingerprint has changed (18_persistent_config.md R447). -/
def Units.fpChanged (u : Units) : Units := u.wr Reg.PST_STATUS.STALE 1

/-- The little-endian bytes of a number. -/
def leBytes : Nat → Nat → List Nat
  | 0, _ => []
  | n + 1, v => v % 256 :: leBytes n (v / 256)

/-- The number little-endian bytes spell. -/
def leNat : List Nat → Nat
  | [] => 0
  | b :: bs => b % 256 + 256 * leNat bs

/-- Apply a step for every element of a list. -/
def Units.each {α : Type} (u : Units) (l : List α) (f : Units → α → Units) : Units := l.foldl f u

end Sys2Proof.Machine
end

