-- ==== Sys2Proof/Machine/Fabric.lean ====
section
/-! DEFINITION. Fabric responses and counters, clock domains and pulse crossings (15_fabric_and_crossings.md R363 to
R382). -/
namespace Sys2Proof.Machine

/-! ## Responses (R367, R368, R381) -/

/-- The response codes of R367. -/
def respOk : Nat := 0
def respError : Nat := 1
def respNoUnit : Nat := 2
def respDormant : Nat := 3
def respTimeout : Nat := 4
def respUncorr : Nat := 5

/-- R381: the first error response after the log was last cleared is held. -/
def Units.fabLog (u : Units) (code : Nat) (write : Bool) (req tgt addr : Nat) : Units :=
  if u.is Reg.FAB_ELOG_INFO.VALID then u
  else ((((((u.wr Reg.FAB_ELOG_INFO.CODE code).wrb Reg.FAB_ELOG_INFO.WRITE write).wr Reg.FAB_ELOG_INFO.REQ req).wr
    Reg.FAB_ELOG_INFO.TGT tgt).wr Reg.FAB_ELOG_ADDR_LO.ADDR addr).wr Reg.FAB_ELOG_ADDR_HI.ADDR (addr / 2 ^ 32)).wr
    Reg.FAB_ELOG_INFO.VALID 1

/-- The fabric answers NO_UNIT at the source port (R368). -/
def Units.noUnit (u : Units) (write : Bool) (req addr : Nat) : Units :=
  (u.count Reg.FAB_NOUNIT.COUNT Reg.FAB_NOUNIT.OVF).fabLog respNoUnit write req req addr

/-- An uncorrectable flit error (R370). -/
def Units.flitUe (u : Units) (port : Nat) (side : Bool) : Units :=
  (u.count Reg.FAB_UE.COUNT Reg.FAB_UE.OVF).emit 0xA000 0x02 (port + b2n side * 2 ^ 8)

/-- R369: the timer of a request expires. -/
def Units.fabTimeout (u : Units) (write : Bool) (req tgt addr : Nat) (data : List Nat) : Units :=
  let u := (u.count Reg.FAB_TIMEOUTS.COUNT Reg.FAB_TIMEOUTS.OVF).fabLog respTimeout write req tgt addr
  { u with late := u.late ++ [LateReq.mk tgt addr (if write then data else [])] }.emit 0xA000 0x01 (tgt + req * 2 ^ 8 + b2n write * 2 ^ 16)

/-! ## Clock domains (R371, R377 to R379) -/

def Units.domn (u : Units) (d : Nat) : Domain := SMap.get {} u.dom d
def Units.setDomn (u : Units) (d : Nat) (x : Domain) : Units := { u with dom := SMap.set {} u.dom d x }

def domRun : Nat := 0
def domStopped : Nat := 1
def domOff : Nat := 2
def domWaking : Nat := 3

/-- The state of a domain; domain 0 is the clockless region. -/
def Units.domState (u : Units) (d : Nat) : Nat := if d = 0 then domRun else u.rd (Reg.XNG_DOMd.STATE d)

/-- What a crossing meets: the domain runs, the crossing waits for a wake, or it is answered as by an OFF domain. -/
inductive Reach where
  | runs | waits | off
  deriving DecidableEq, Repr

def Units.reach (u : Units) (d : Nat) : Reach :=
  let s := u.domState d
  if s = domRun then .runs
  else if s = domWaking then .waits
  else if d = 25 then .waits
  else if s = domStopped ∧ u.is (Reg.XNG_DOMd.WAKEEN d) then .waits
  else .off

/-- R378: a crossing into a stopped domain that can be woken raises a wake request. -/
def Units.wakeDom (u : Units) (d : Nat) : Units :=
  if d ≠ 25 ∧ u.domState d = domStopped ∧ u.is (Reg.XNG_DOMd.WAKEEN d) then
    let u := u.wr (Reg.XNG_DOMd.STATE d) domWaking
    (u.setDomn d { u.domn d with woken := true }).count Reg.XNG_WAKES.COUNT Reg.XNG_WAKES.OVF
  else u

/-- The basin is stopped at retention (20_power.md R491): it answers as an OFF domain. -/
def Units.basinDark (u : Units) (n : Nat) : Bool := u.rd (Reg.BSN_PWR_STATUS.STATE n) == 3

/-- R379: an access is refused or a pulse discarded by an OFF domain; one of a basin without supply counts for the clockless
region (domain code 0). -/
def Units.refuseDom (u : Units) (d : Nat) : Units :=
  (u.setDomn d { u.domn d with refused := (u.domn d).refused + 1 }).count Reg.XNG_DORMANT.COUNT Reg.XNG_DORMANT.OVF

/-- The wake times of R371 in ns. -/
def wakeTime (d : Nat) : Nat :=
  1000 * (match d with
    | 2 => 5 | 3 => 20 | 4 => 20 | 5 => 50 | 6 => 50 | 7 => 10 | 8 => 15 | 9 => 15 | 10 => 15 | 11 => 15 | 12 => 10 | 13 => 10
    | 14 => 20 | 15 => 20 | 16 => 20 | 17 => 20 | 18 => 20 | 19 => 20 | 20 => 5 | 21 => 50 | 22 => 100 | 23 => 100 | 24 => 5
    | _ => 0)

/-- R378: a waking domain enters RUN, `ns` after its wake was requested. -/
def Units.wakeDone (u : Units) (d ns : Nat) : Units :=
  if u.domState d = domWaking then
    let us := satN 16 (ns / 1000)
    let u := (u.wr (Reg.XNG_DOMd.STATE d) domRun).wr (Reg.XNG_DOMd.LAST_WAKE d) us
    if ns > wakeTime d then (u.wr (Reg.XNG_DOMd.WAKE_SLOW d) 1).emit 0xA001 0x02 (d + us * 2 ^ 16) else u
  else u

/-- R378: 1 ms after its last crossing a woken domain returns to STOPPED. -/
def Units.autoStop (u : Units) (d : Nat) : Units :=
  if u.domState d = domRun ∧ (u.domn d).woken then
    (u.wr (Reg.XNG_DOMd.STATE d) domStopped).setDomn d { u.domn d with woken := false }
  else u

/-- R379: DORMANT, at most once per millisecond for each domain, with the refusals since the previous one. -/
def Units.dormantReport (u : Units) (d : Nat) : Units :=
  let n := (u.domn d).refused
  if n = 0 then u
  else (u.setDomn d { u.domn d with refused := 0 }).emit 0xA001 0x03 (d + satN 16 n * 2 ^ 16)

/-! ## Pulse crossings from the angle engines (R375, R376)

Lines 0 to 63 of an engine run to the sluice channels (clockless region), 64 to 95 to the general analog groups (CD05),
96 to 111 to the fast analog inputs (CD06). A line's number is 256 times the engine plus these. -/

def lineDomain (line : Nat) : Nat := let k := line % 256; if k < 64 then 0 else if k < 96 then 5 else 6

def Units.pulseLine (u : Units) (l : Nat) : PulseLine := SMap.get {} u.pulse l
def Units.setPulseLine (u : Units) (l : Nat) (x : PulseLine) : Units := { u with pulse := SMap.set {} u.pulse l x }

/-- R375, R376, R379: an engine (CD03) raises one pulse on a line. -/
def Units.pulseSend (u : Units) (l : Nat) : Units :=
  let d := lineDomain l
  let x := u.pulseLine l
  if u.reach d = .off ∨ (l % 256 < 64 ∧ u.basinDark (l % 256 / 8)) then u.refuseDom d
  else
    let u := u.wakeDom d
    if x.flight = 0 then u.setPulseLine l { x with flight := 1, taken := false }
    else if x.ctr < 15 then u.setPulseLine l { x with ctr := x.ctr + 1 }
    else
      let u := if d = 0 then u else u.wr (Reg.XNG_DOMd.POVR d) 1
      (u.count Reg.XNG_POVRCNT.COUNT Reg.XNG_POVRCNT.OVF).emit 0xA001 0x01 (d + 3 * 2 ^ 8)

/-- The receiver takes a delivered count: a channel's requests, or an analog block's conversion requests. -/
def Units.pulseTo (u : Units) (l n : Nat) : Units :=
  let k := l % 256
  if k < 64 then { u with reqFly := SMap.set 0 u.reqFly k (SMap.get 0 u.reqFly k + n) }
  else
    let x : Stream := SMap.get {} u.stream (k - 64)
    { u with stream := SMap.set {} u.stream (k - 64) { x with fly := x.fly + n } }

/-- R375 steps 2 and 3: the receiver sees the toggle and takes its count as one happening. -/
def Units.pulseDeliver (u : Units) (l : Nat) : Units :=
  let x := u.pulseLine l
  if x.flight ≠ 0 ∧ ¬ x.taken ∧ u.reach (lineDomain l) = .runs then
    (u.setPulseLine l { x with taken := true }).pulseTo l x.flight
  else u

/-- R375 step 4: the sender sees the acknowledgement and sends what its counter holds. -/
def Units.pulseAck (u : Units) (l : Nat) : Units :=
  let x := u.pulseLine l
  if x.flight ≠ 0 ∧ x.taken then u.setPulseLine l { flight := x.ctr, taken := false, ctr := 0 } else u

/-! ## Meanings -/

def execPulseDeliver (line : Nat) (s : State) : Host.Outcome State Fault Refusal :=
  s.run (decide (line / 256 < 4 ∧ line % 256 < 112)) fun u => u.pulseDeliver line
def execPulseAck (line : Nat) (s : State) : Host.Outcome State Fault Refusal :=
  s.run (decide (line / 256 < 4 ∧ line % 256 < 112)) fun u => u.pulseAck line
def execDomainWakeRequest (d : Nat) (s : State) : Host.Outcome State Fault Refusal :=
  s.run (decide (1 ≤ d ∧ d ≤ 25)) fun u => u.wakeDom d
def execDomainWakeDone (d ns : Nat) (s : State) : Host.Outcome State Fault Refusal :=
  s.run (decide (1 ≤ d ∧ d ≤ 25)) fun u => u.wakeDone d ns
def execDomainAutoStop (d : Nat) (s : State) : Host.Outcome State Fault Refusal :=
  s.run (decide (1 ≤ d ∧ d ≤ 25)) fun u => u.autoStop d
def execDormantReport (d : Nat) (s : State) : Host.Outcome State Fault Refusal :=
  s.run (decide (d ≤ 25)) fun u => u.dormantReport d

end Sys2Proof.Machine
end

