-- ==== Sys2Proof/Machine/Runnel.lean ====
section
/-! DEFINITION. Runnels (06_runnels.md): stages and tags, segments and length words, reading and promises, flush, check
and correction. -/
namespace Sys2Proof.Machine

def Units.runnel (u : Units) (r : Nat) : Runnel := SMap.get {} u.run r
def Units.setRunnel (u : Units) (r : Nat) (x : Runnel) : Units := { u with run := SMap.set {} u.run r x }

/-- Stages of a runnel (R142). -/
def runStages : Nat := 64

/-- A length slot not yet filled. -/
def RunWord.unfilled (w : RunWord) : Bool := w.tag == 1 && !w.filled

/-- The words readable now (R152): in a stage, with no unfilled slot at or ahead of them. -/
def Runnel.readable (x : Runnel) : Nat := ((x.words.take runStages).takeWhile fun w => !w.unfilled).length

/-- Words promised to requests (R153). -/
def Runnel.promised (x : Runnel) : Nat := (x.prom.map Prod.fst).foldl (· + ·) 0

/-- Publish FILL and STALLED (R160). -/
def Units.runSync (u : Units) (r : Nat) : Units :=
  let x := u.runnel r
  (u.wr (Reg.RUN_STATUS.FILL r) (min runStages x.words.length)).wrb (Reg.RUN_STATUS.STALLED r) (x.readable == 0)

/-- The event of a runnel, with its number in bits 5:0 (R161). -/
def Units.runEvent (u : Units) (r kind pay : Nat) : Units := u.emit (0x5000 + r) kind (r + pay)

/-- Raise one peripheral request toward a sluice channel; it is in flight until the channel takes it (08_sluices.md R195). -/
def Units.raiseReq (u : Units) (c : Nat) : Units := { u with reqFly := SMap.set 0 u.reqFly c (SMap.get 0 u.reqFly c + 1) }

/-- BURST in words. -/
def Units.runBurst (u : Units) (r : Nat) : Nat := 2 ^ u.rd (Reg.RUN_CFG.BURST r)

/-- Promise m words to one request, or discard it when REQ_CH names an absent channel (R153). -/
def Units.runRequest (u : Units) (r m : Nat) : Units :=
  let c := u.rd (Reg.RUN_CFG.REQ_CH r)
  if u.basinPresent (c / 8) then
    let x := u.runnel r
    (u.setRunnel r { x with prom := x.prom ++ [(m, u.runBurst r)] }).raiseReq c
  else u.wr (Reg.RUN_STATUS.REQ_ERR r) 1

/-- Full requests (R153): one for every BURST words readable and not yet promised. An absent channel takes none, and one
discarded request reports it. -/
def Units.runFull (u : Units) (r : Nat) : Nat → Units
  | 0 => u
  | fuel + 1 =>
    let x := u.runnel r
    if u.is (Reg.RUN_CFG.REQ_EN r) ∧ ¬ u.is (Reg.RUN_STATUS.FLUSH_PEND r) ∧ x.promised + u.runBurst r ≤ x.readable then
      if u.basinPresent (u.rd (Reg.RUN_CFG.REQ_CH r) / 8) then (u.runRequest r (u.runBurst r)).runFull r fuel
      else u.runRequest r 0
    else u

/-- The length word of R150. -/
def lengthWord (len total : Nat) (more first cont limit damage : Bool) : Nat :=
  len + b2n more * 2 ^ 8 + b2n first * 2 ^ 9 + b2n cont * 2 ^ 10 + b2n limit * 2 ^ 11 + total * 2 ^ 16 + b2n damage * 2 ^ 31

/-- An unfilled length slot. -/
def emptySlot : RunWord := { data := 0, tag := 1, filled := false }

/-- Retag the last data word of a segment 0b10 unless it is poisoned (R146, R156). -/
def retagLast : List RunWord → List RunWord
  | [] => []
  | [w] => [if w.tag = 0 then { w with tag := 2 } else w]
  | w :: ws => w :: retagLast ws

/-- The words up to and excluding the open segment's slot, and the open segment's data words. -/
def splitOpen (ws : List RunWord) : List RunWord × List RunWord :=
  let n := (ws.takeWhile fun w => !w.unfilled).length
  (ws.take n, ws.drop (n + 1))

/-- The close check of R156 over a segment's words: those at the indices in ue are uncorrectable. -/
def poison (ue : List Nat) (i : Nat) : List RunWord → List RunWord
  | [] => []
  | w :: ws => (if ue.contains i then { w with tag := 3 } else w) :: poison ue (i + 1) ws

/-- Close the open segment (R146, R148, R156): the close check, the retag, the length word. With `more`, the next
segment's slot follows. -/
def Units.runCloseSeg (u : Units) (r : Nat) (more limit : Bool) (ce ue : List Nat) : Units :=
  let x := u.runnel r
  let (pre, all) := splitOpen x.words
  let seg := all.take 63
  let rest := all.drop 63
  let ces := (ce.filter fun i => decide (i < seg.length)).eraseDups
  let ues := (ue.filter fun i => decide (i < seg.length)).eraseDups
  let total := x.total + seg.length
  let bad := !ues.isEmpty
  let more' := more || !rest.isEmpty
  let lw := lengthWord seg.length total more' x.first (x.cont && x.first) (limit && !more') (bad || x.damage)
  let slot : RunWord := { data := lw, tag := 1 }
  let closed := pre ++ slot :: retagLast (poison ues 0 seg)
  let y := if more' then { x with words := closed ++ emptySlot :: rest, total := total, first := false, damage := false }
    else { x with words := closed, total := 0, first := true, cont := false, damage := false }
  let u := u.setRunnel r y
  let u := u.countN (Reg.RUN_CE.COUNT r) (Reg.RUN_CE.OVF r) ces.length
  let u := u.countN (Reg.RUN_UE.COUNT r) (Reg.RUN_UE.OVF r) ues.length
  let u := if more' then u.count (Reg.RUN_SEGS.COUNT r) (Reg.RUN_SEGS.OVF r) else u.wr (Reg.RUN_STATUS.OPEN r) 0
  if bad then u.runEvent r 0x01 (satN 16 ues.length * 2 ^ 16) else u

/-- A flush completes (R154). -/
def Units.runFlushDone (u : Units) (r : Nat) : Units :=
  let x := u.runnel r
  let u := u.setRunnel r { x with flushed := 0, span := none }
  let u := u.wr (Reg.RUN_STATUS.FLUSH_PEND r) 0
  let u := u.countN (Reg.RUN_DISCARD.COUNT r) (Reg.RUN_DISCARD.OVF r) x.flushed
  u.runEvent r 0x03 (satN 16 x.flushed * 2 ^ 16)

/-- Discard what a pending flush may discard (R154), once a burst in progress is completed (R155): every readable word while
its packet is open, and then everything the flush covers, which completes it. -/
def Units.runDiscard (u : Units) (r : Nat) : Units :=
  let x := u.runnel r
  if u.is (Reg.RUN_STATUS.FLUSH_PEND r) ∧ x.burstOn = false then
    match x.span with
    | none => u.setRunnel r { x with words := x.words.drop x.readable, flushed := x.flushed + x.readable, prom := [] }
    | some k => (u.setRunnel r { x with words := x.words.drop k, flushed := x.flushed + k, prom := [] }).runFlushDone r
  else u

/-- A word waits for a stage while the output stage holds the open packet's unfilled slot: a segment close (R148). -/
def Units.runSettle (u : Units) (r : Nat) : Units :=
  let x := u.runnel r
  let blocked := match x.words with
    | w :: _ => w.unfilled && decide (x.words.length > runStages)
    | [] => false
  let u := if blocked then u.runCloseSeg r true false [] [] else u
  ((u.runDiscard r).runFull r 64).runSync r

/-- Open a packet (R146); an open packet is closed first (R145). -/
def Units.runOpenAny (u : Units) (r : Nat) (cont : Bool) : Units :=
  let x := u.runnel r
  let u := u.setRunnel r { x with words := x.words ++ [emptySlot], total := 0, first := true, cont := cont, damage := false }
  (u.wr (Reg.RUN_STATUS.OPEN r) 1).runSettle r

/-- Close the open packet (R146, R154: a pending flush then discards it and completes). Ignored with no packet open. -/
def Units.runCloseAny (u : Units) (r : Nat) (limit : Bool) (ce ue : List Nat) : Units :=
  if u.is (Reg.RUN_STATUS.OPEN r) then
    let u := u.runCloseSeg r false limit ce ue
    let u := if u.is (Reg.RUN_STATUS.OPEN r) then u.runCloseSeg r false limit [] [] else u
    let x := u.runnel r
    let u := if u.is (Reg.RUN_STATUS.FLUSH_PEND r) ∧ x.span = none then u.setRunnel r { x with span := some x.words.length } else u
    u.runSettle r
  else u

/-- Data words of the open packet. -/
def Runnel.openWords (x : Runnel) : Nat := x.total + (splitOpen x.words).2.length

/-- Place one data word (R146 to R149): a push with no packet open first opens one; a 4,097th word closes the packet
with LIMIT and opens a continuation. -/
def Units.runPushAny (u : Units) (r w : Nat) : Units :=
  let u := if u.is (Reg.RUN_STATUS.OPEN r) then u else u.runOpenAny r false
  let u := if (u.runnel r).openWords ≥ 4096 then
      ((u.runCloseAny r true [] []).runOpenAny r true).runEvent r 0x05 0
    else u
  let x := u.runnel r
  (u.setRunnel r { x with words := x.words ++ [{ data := w % 2 ^ 32, tag := 0 }] }).runSettle r

/-- The requester is the runnel's software producer (R144). -/
def Units.runSoft (u : Units) (r who : Nat) : Bool :=
  u.rd (Reg.RUN_OWNER.CLASS r) == 2 && u.rd (Reg.RUN_OWNER.INDEX r) == who

/-- Release a producer's hold. -/
def Units.runDisown (u : Units) (r : Nat) : Units := (u.wr (Reg.RUN_OWNER.CLASS r) 0).wr (Reg.RUN_OWNER.INDEX r) 0

/-- The pad word (R152). -/
def padWord : Nat := 0x40000000

/-- RUN_RDSTAT after a read (R152). -/
def Units.runRdstat (u : Units) (r tag : Nat) (pad : Bool) : Units :=
  (u.wr (Reg.RUN_RDSTAT.TAG r) tag).wrb (Reg.RUN_RDSTAT.PAD r) pad

/-- A read that finds nothing returns the pad word, with TAG 0b01. -/
def Units.runPad (u : Units) (r : Nat) : Nat × Units := (padWord, u.runRdstat r 1 true)

/-- Deliver the word in the output stage, decoded again (R157). -/
def Units.runDeliver (u : Units) (r : Nat) (err : UpsetKind) : Nat × Units :=
  match (u.runnel r).words with
  | [] => u.runPad r
  | w :: ws =>
    let u := u.setRunnel r { u.runnel r with words := ws, span := (u.runnel r).span.map (· - 1) }
    match err with
    | .clean => (w.data, (u.runRdstat r w.tag false).runSettle r)
    | .single => (w.data, ((u.count (Reg.RUN_CE.COUNT r) (Reg.RUN_CE.OVF r)).runRdstat r w.tag false).runSettle r)
    | .double =>
      if w.tag = 1 then
        let n := (ws.takeWhile fun v => v.tag != 1).length
        let u := u.setRunnel r { u.runnel r with words := ws.drop n, span := (u.runnel r).span.map (· - n) }
        let u := u.countN (Reg.RUN_DISCARD.COUNT r) (Reg.RUN_DISCARD.OVF r) n
        (0xFFFFFFFF, ((u.runEvent r 0x02 (satN 16 n * 2 ^ 16)).runRdstat r 1 false).runSettle r)
      else
        let u := u.count (Reg.RUN_UE.COUNT r) (Reg.RUN_UE.OVF r)
        let u := u.wr (Reg.RUN_STATUS.LATE_POISON r) 1
        (w.data, ((u.runEvent r 0x01 (2 ^ 8 + 2 ^ 16)).runRdstat r 3 false).runSettle r)

/-- Use up one read of the oldest promised burst (R153): the promises left, and whether that burst goes on. -/
def useBurst : List (Nat × Nat) → List (Nat × Nat) × Bool
  | [] => ([], false)
  | (p, b) :: t => if b ≤ 1 then (t, false) else ((p - 1, b - 1) :: t, true)

/-- A read by REQ_CH within a promised burst: past the promised words it returns the pad word. -/
def Units.runBurstRead (u : Units) (r : Nat) (err : UpsetKind) : Nat × Units :=
  let x := u.runnel r
  let (prom, on) := useBurst x.prom
  let u := u.setRunnel r { x with prom := prom, burstOn := on }
  if (x.prom.map Prod.fst).headD 0 = 0 ∨ x.readable = 0 then
    let (w, u) := u.runPad r
    (w, if u.is (Reg.RUN_STATUS.FLUSH_PEND r) then u.runSettle r else u)
  else u.runDeliver r err

/-- A read of the runnel (R152, R153): the word delivered and the state after. During a flush only a burst already in progress
reads on (R154, R155). -/
def Units.runRead (u : Units) (r : Nat) (port : RunPort) (err : UpsetKind) : Nat × Units :=
  let x := u.runnel r
  let pend := u.is (Reg.RUN_STATUS.FLUSH_PEND r)
  let req := u.is (Reg.RUN_CFG.REQ_EN r)
  match port with
  | .badAccess write => let u := u.wr (Reg.RUN_STATUS.BADACC r) 1; if write then (padWord, u) else u.runPad r
  | .soft => if req ∨ pend ∨ x.readable = 0 then u.runPad r else u.runDeliver r err
  | .channel c =>
    if c = u.rd (Reg.RUN_CFG.REQ_CH r) ∧ (if pend then x.burstOn else req && !x.prom.isEmpty) then u.runBurstRead r err
    else if pend ∨ req ∨ x.readable = 0 then u.runPad r
    else
      let (prom, on) := useBurst x.prom
      let u := if c = u.rd (Reg.RUN_CFG.REQ_CH r) then u.setRunnel r { x with prom := prom, burstOn := on } else u
      u.runDeliver r err

/-! ## The operations of the runnel commands -/

/-- R144: claim an unowned runnel. -/
def Units.runClaim (u : Units) (r who : Nat) : Units :=
  if u.rd (Reg.RUN_OWNER.CLASS r) = 0 then (u.wr (Reg.RUN_OWNER.CLASS r) 2).wr (Reg.RUN_OWNER.INDEX r) who
  else u.wr (Reg.RUN_STATUS.NOT_OWNER r) 1

/-- R144: release, closing an open packet first; ignored unless the writer is the software producer (R160). -/
def Units.runRelease (u : Units) (r who : Nat) : Units :=
  if u.runSoft r who then (u.runCloseAny r false [] []).runDisown r else u

/-- An operation of any requester but the software producer is discarded and sets NOT_OWNER (R145). -/
def Units.runNotOwner (u : Units) (r : Nat) : Units := u.wr (Reg.RUN_STATUS.NOT_OWNER r) 1

/-- R145, R146: open a packet, closing an open one first. -/
def Units.runOpen (u : Units) (r who : Nat) : Units :=
  if u.runSoft r who then (u.runCloseAny r false [] []).runOpenAny r false else u.runNotOwner r

/-- R145: push one data word; the window accepts any requester while the runnel has a software producer. -/
def Units.runPush (u : Units) (r who w : Nat) (window : Bool) : Units :=
  if u.runSoft r who ∨ (window ∧ u.rd (Reg.RUN_OWNER.CLASS r) = 2) then u.runPushAny r w else u.runNotOwner r

/-- R145, R146: close the open packet, with what the close check finds. -/
def Units.runClose (u : Units) (r who : Nat) (ce ue : List Nat) : Units :=
  if u.runSoft r who then u.runCloseAny r false ce ue else u.runNotOwner r

/-- Remove the first data word at or after index i. -/
def dropWaiting (ws : List RunWord) (i : Nat) : List RunWord :=
  let t := ws.drop i
  ws.take i ++ (t.takeWhile fun w => w.tag != 0) ++ (t.dropWhile fun w => w.tag != 0).drop 1

/-- R147: a software push that has waited 2 us is discarded. -/
def Units.runPushTimeout (u : Units) (r : Nat) : Units :=
  let x := u.runnel r
  if u.rd (Reg.RUN_OWNER.CLASS r) = 2 ∧ (x.words.drop runStages).any (fun w => w.tag == 0) then
    let covered := fun k => ((x.words.take k).drop runStages).any fun w => w.tag == 0
    let u := u.setRunnel r { x with words := dropWaiting x.words runStages, damage := true,
                                    span := x.span.map fun k => if covered k then k - 1 else k }
    let u := u.wr (Reg.RUN_STATUS.PUSH_LOST r) 1
    (u.runEvent r 0x04 0).runSync r
  else u

/-- R153: the readable run ends with a segment's last word or the length word of an empty segment. -/
def Runnel.tailEnds (x : Runnel) : Bool :=
  match (x.words.take x.readable).getLast? with
  | some w => w.tag == 2 || (w.tag == 1 && w.data % 64 == 0) ||
      (w.tag == 3 && (match x.words.drop x.readable with | v :: _ => v.tag == 1 | [] => true))
  | none => false

/-- R153: a tail request promises exactly the words readable and not yet promised. -/
def Units.runTailRequest (u : Units) (r : Nat) : Units :=
  let x := u.runnel r
  let n := x.readable - x.promised
  if u.is (Reg.RUN_CFG.REQ_EN r) ∧ u.rd (Reg.RUN_CFG.TAIL r) ≠ 0 ∧ ¬ u.is (Reg.RUN_STATUS.FLUSH_PEND r) ∧ 0 < n
      ∧ n < u.runBurst r ∧ x.tailEnds then u.runRequest r n
  else u

/-- R154: request a flush; one already pending takes it in. Requests whose burst has not begun are withdrawn
(08_sluices.md R195); a burst in progress is completed first (R155). -/
def Units.runFlush (u : Units) (r : Nat) : Units :=
  if u.is (Reg.RUN_STATUS.FLUSH_PEND r) then u
  else
    let x := u.runnel r
    let c := u.rd (Reg.RUN_CFG.REQ_CH r)
    let keep := x.prom.take (b2n x.burstOn)
    let u := { u with wdFly := SMap.set 0 u.wdFly c (SMap.get 0 u.wdFly c + (x.prom.length - keep.length)) }
    let span := if u.is (Reg.RUN_STATUS.OPEN r) then none else some x.words.length
    let u := (u.setRunnel r { x with prom := keep, span := span, flushed := 0 }).wr (Reg.RUN_STATUS.FLUSH_PEND r) 1
    (u.runDiscard r).runSync r

/-- A write of RUN_CFG: with REQ_EN set, words already readable raise requests (R153). -/
def Units.runCfgWrite (u : Units) (r : Nat) : Units := (u.runFull r 64).runSync r

/-! ## Meanings -/

def execRunClaim (r who : Nat) (s : State) : Host.Outcome State Fault Refusal := s.run (decide (r < 64)) fun u => u.runClaim r who
def execRunRelease (r who : Nat) (s : State) : Host.Outcome State Fault Refusal := s.run (decide (r < 64)) fun u => u.runRelease r who
def execRunOpen (r who : Nat) (s : State) : Host.Outcome State Fault Refusal := s.run (decide (r < 64)) fun u => u.runOpen r who
def execRunPush (r who w : Nat) (window : Bool) (s : State) : Host.Outcome State Fault Refusal :=
  s.run (decide (r < 64)) fun u => u.runPush r who w window
def execRunPushTimeout (r : Nat) (s : State) : Host.Outcome State Fault Refusal := s.run (decide (r < 64)) fun u => u.runPushTimeout r
def execRunClose (r who : Nat) (ce ue : List Nat) (s : State) : Host.Outcome State Fault Refusal :=
  s.run (decide (r < 64)) fun u => u.runClose r who ce ue
def execRunPop (r : Nat) (port : RunPort) (err : UpsetKind) (s : State) : Host.Outcome State Fault Refusal :=
  s.run (decide (r < 64)) fun u => let x := u.runRead r port err; { x.2 with rdata := x.1 }
def execRunTailRequest (r : Nat) (s : State) : Host.Outcome State Fault Refusal := s.run (decide (r < 64)) fun u => u.runTailRequest r
def execRunFlush (r : Nat) (s : State) : Host.Outcome State Fault Refusal := s.run (decide (r < 64)) fun u => u.runFlush r

end Sys2Proof.Machine
end

