-- ==== Sys2Proof/Machine/Acq.lean ====
section
/-! DEFINITION. Acquisition streams (04_acquisition.md R92 to R119): claims and configuration checks, conversion timing,
packets, the elastic buffer, general analog, fast analog with the angle clock, and digital inputs. -/
namespace Sys2Proof.Machine

def Units.strm (u : Units) (i : Nat) : Stream := SMap.get {} u.stream i
def Units.setStrm (u : Units) (i : Nat) (x : Stream) : Units := { u with stream := SMap.set {} u.stream i x }

/-- A stream's field, by its producer: general analog group, fast input or digital group (R93). -/
def streamFld (i : Nat) (a f d : Nat → Fld) : Fld := if i < 32 then a i else if i < 48 then f (i - 32) else d (i - 48)

def strmEn (i : Nat) : Fld := streamFld i Reg.AIN_GCFG.EN Reg.FIN_CFG.EN Reg.DIN_GCFG.EN
def strmRunnel (i : Nat) : Fld := streamFld i Reg.AIN_GSTREAM.RUNNEL Reg.FIN_STREAM.RUNNEL Reg.DIN_GSTREAM.RUNNEL
def strmBase (i : Nat) : Fld := streamFld i Reg.AIN_GSTREAM.BASE Reg.FIN_STREAM.BASE Reg.DIN_GSTREAM.BASE
def strmPkt (i : Nat) : Fld := streamFld i Reg.AIN_GSTREAM.PKT_WORDS Reg.FIN_STREAM.PKT_WORDS Reg.DIN_GSTREAM.PKT_WORDS
def strmCode (i : Nat) : Fld := streamFld i Reg.AIN_GSTATUS.CFG_CODE Reg.FIN_STATUS.CFG_CODE Reg.DIN_GSTATUS.CFG_CODE
def strmActive (i : Nat) : Fld := streamFld i Reg.AIN_GSTATUS.ACTIVE Reg.FIN_STATUS.ACTIVE Reg.DIN_GSTATUS.ACTIVE
def strmSeq (i : Nat) : Fld := streamFld i Reg.AIN_GSTATUS.SEQ Reg.FIN_STATUS.SEQ Reg.DIN_GSTATUS.SEQ
def strmDrop (i : Nat) : Fld := streamFld i Reg.AIN_GDROP.COUNT Reg.FIN_DROP.COUNT Reg.DIN_GDROP.COUNT
def strmDropOvf (i : Nat) : Fld := streamFld i Reg.AIN_GDROP.OVF Reg.FIN_DROP.OVF Reg.DIN_GDROP.OVF
/-- Digital groups have no OVR counter; none of their requests can overrun. -/
def strmOvr (i : Nat) : Fld := streamFld i Reg.AIN_GOVR.COUNT Reg.FIN_OVR.COUNT Reg.DIN_GDROP.COUNT
def strmOvrOvf (i : Nat) : Fld := streamFld i Reg.AIN_GOVR.OVF Reg.FIN_OVR.OVF Reg.DIN_GDROP.OVF

/-- The event source of a stream's block (13_events.md R335). -/
def strmSrc (i : Nat) : Nat := if i < 32 then 0x3000 else if i < 48 then 0x3001 else 0x3002

/-- Enabled members of a conversion group, ascending (R106, R109). -/
def Units.members (u : Units) (g : Nat) : List Nat :=
  (List.range 96).filter fun n => u.is (Reg.AIN_CH.EN n) && u.rd (Reg.AIN_CH.GROUP n) == g

/-- N = DECIM + 1 (R110). -/
def Units.decimN (u : Units) (g : Nat) : Nat := u.rd (Reg.AIN_GCFG.DECIM g) + 1

/-- The KIND a stream's conversions produce (R97, R108, R113). -/
def Units.strmKind (u : Units) (i : Nat) : Nat :=
  if i < 32 then (if u.rd (Reg.AIN_GCFG.TRIG i) = 1 ∧ u.rd (Reg.AIN_GCFG.STAMP i) = 0 then 2 else 1)
  else if i < 48 then
    let n := i - 32
    let st := u.is (Reg.FIN_CFG.STAMP n)
    match u.rd (Reg.FIN_CFG.TRIG n) with
    | 1 => if st then 3 else 4
    | 3 => 4
    | 4 => if st then 3 else 5
    | _ => 3
  else 6

/-- Words of one item of a stream. -/
def Units.itemWords (u : Units) (i : Nat) : Nat :=
  match u.strmKind i with
  | 1 => 2 + ((u.members i).length + 1) / 2
  | 2 => ((u.members i).length + 1) / 2
  | 3 => 3
  | 4 => 1
  | 5 => 2
  | _ => 2

/-- Header word 4 (R109, R113, R97). -/
def Units.headWord4 (u : Units) (i : Nat) : Nat :=
  if i < 32 then (u.members i).length + u.rd (Reg.AIN_GCFG.DECIM i) * 2 ^ 16 + u.rd (Reg.AIN_GCFG.DMODE i) * 2 ^ 24
  else if i < 48 then
    let n := i - 32
    u.rd (Reg.FIN_STEP.AC n) + u.rd (Reg.FIN_CFG.TRIG n) * 2 ^ 16 + u.rd (Reg.FIN_CFG.FE n) * 2 ^ 19
      + u.rd (Reg.FIN_CFG.RANGE n) * 2 ^ 21
  else
    let g := i - 48
    (List.range 8).foldl (fun a b => if u.rd (Reg.DIN_CFG.LOG (8 * g + b)) = 0 then a else a + 2 ^ b) 0

/-- Header word 5: the spacing of items of an implied-time kind in ns. -/
def Units.headWord5 (u : Units) (i : Nat) : Nat :=
  match u.strmKind i with
  | 2 => u.rd (Reg.AIN_GPERIOD.NS i) * u.decimN i % 2 ^ 32
  | 4 => u.rd (Reg.FIN_PERIOD.NS (i - 32))
  | _ => 0

/-- R101: the latest grid instant at or before a time. -/
def gridAt (now period phase : Nat) : Nat := if now < phase then 0 else now - (now - phase) % period

/-- PERIOD and PHASE of a stream, and its latest grid instant at or before a time. -/
def strmPeriod (i : Nat) : Fld := if i < 32 then Reg.AIN_GPERIOD.NS i else Reg.FIN_PERIOD.NS (i - 32)
def strmPhase (i : Nat) : Fld := if i < 32 then Reg.AIN_GPHASE.NS i else Reg.FIN_PHASE.NS (i - 32)
def Units.gridLast (u : Units) (i time : Nat) : Nat := gridAt time (u.rd (strmPeriod i)) (u.rd (strmPhase i))

/-! ## Enabling and disabling (R94, R95) -/

/-- R95 code 2: the timing checks of the TRIG in use. -/
def Units.timingBad (u : Units) (i : Nat) : Bool :=
  if i < 32 then
    u.rd (Reg.AIN_GCFG.TRIG i) == 1 &&
      (decide (u.rd (Reg.AIN_GPERIOD.NS i) < 1000) || decide (u.rd (Reg.AIN_GPHASE.NS i) ≥ u.rd (Reg.AIN_GPERIOD.NS i)))
  else if i < 48 then
    let n := i - 32
    let per := u.rd (Reg.FIN_PERIOD.NS n)
    let b := u.rd (strmBase i)
    match u.rd (Reg.FIN_CFG.TRIG n) with
    | 1 => decide (per < 250) || decide (u.rd (Reg.FIN_PHASE.NS n) ≥ per)
    | 3 => decide (per < 250) || u.rd (Reg.FIN_BURST.COUNT n) == 0
    | 4 => u.rd (Reg.FIN_STEP.AC n) == 0 || (decide (b < 4) &&
        (decide ((u.rd (Reg.FIN_AWIN_LO.ANGLE n) : Int) ≥ u.cycleLen b) ||
         decide ((u.rd (Reg.FIN_AWIN_HI.ANGLE n) : Int) ≥ u.cycleLen b)))
    | _ => false
  else false

/-- The lowest CFG_CODE that applies to an enable (R95, R540). -/
def Units.streamCode (u : Units) (i : Nat) : Nat :=
  let r := u.rd (strmRunnel i)
  let held := u.rd (Reg.RUN_OWNER.CLASS r) ≠ 0 ∧ ¬ (u.rd (Reg.RUN_OWNER.CLASS r) = 1 ∧ u.rd (Reg.RUN_OWNER.INDEX r) = i)
  let pkt := u.rd (strmPkt i)
  let angled := (i < 32 ∧ u.rd (Reg.AIN_GCFG.TRIG i) = 2) ∨ (32 ≤ i ∧ i < 48 ∧ u.rd (Reg.FIN_CFG.TRIG (i - 32)) ≥ 2)
  if held then 1
  else if u.timingBad i then 2
  else if pkt < 16 ∨ pkt > 4064 ∨ pkt < 6 + u.itemWords i then 3
  else if i < 32 ∧ (u.members i).length = 0 then 4
  else if angled ∧ u.rd (strmBase i) = 4 then 5
  else 0

/-- Close the packet in the runnel. -/
def Units.strmClosePkt (u : Units) (i : Nat) : Units :=
  let x := u.strm i
  if x.openPkt then (u.setStrm i { x with openPkt := false }).runCloseAny x.run false [] []
  else u

/-- R94, R95: EN 0→1. A stream still closing that names another runnel closes its packet there and releases it. -/
def Units.streamEnable (u : Units) (i : Nat) : Units :=
  if u.is (strmEn i) then u
  else
    let c := u.streamCode i
    let u := u.wr (strmCode i) c
    if c ≠ 0 then u
    else
      let r := u.rd (strmRunnel i)
      let x := u.strm i
      let u := if x.closing ∧ x.run ≠ r then (u.strmClosePkt i).runDisown x.run else u
      let u := ((u.wr (strmEn i) 1).wr (strmActive i) 1)
      let u := (u.wr (Reg.RUN_OWNER.CLASS r) 1).wr (Reg.RUN_OWNER.INDEX r) i
      u.setStrm i { u.strm i with run := r, closing := false, win := none, lastWin := none,
                                  enAngle := u.absAngle (u.rd (strmBase i)) u.clock, burstLeft := 0, decCount := 0,
                                  decSum := [], lastHold := none, holds := [], fly := 0, lastGrid := u.gridLast i u.now }

/-- The stream acquires: enabled, and no entry to a power state or supply loss has stopped it (20_power.md R483, R490). -/
def Units.strmOn (u : Units) (i : Nat) : Bool := u.is (strmEn i) && !u.pwr.acqOff

/-- Mark the last buffered item as its packet's last. -/
def markLast : List StreamItem → List StreamItem
  | [] => []
  | [x] => [{ x with last := true }]
  | x :: xs => x :: markLast xs

/-- R98: close the packet behind the items captured so far. Items still buffered pass into it first. -/
def Units.strmClose (u : Units) (i : Nat) : Units :=
  let x := u.strm i
  if x.pre ≠ [] then u.setStrm i { x with pre := markLast x.pre }
  else if x.buf ≠ [] then u.setStrm i { x with buf := markLast x.buf }
  else u.strmClosePkt i

/-- A disabled stream releases its runnel once its last packet has closed (R94). -/
def Units.strmRelease (u : Units) (i : Nat) : Units :=
  let x := u.strm i
  if x.closing ∧ x.buf = [] ∧ x.pre = [] then
    let u := u.strmClosePkt i
    (u.setStrm i { u.strm i with closing := false }).runDisown x.run
  else u

/-- R94, R98: EN 1→0. ACTIVE, "enabled and holding its runnel", reads 0 at once. -/
def Units.streamDisable (u : Units) (i : Nat) : Units :=
  if u.is (strmEn i) then
    let u := u.strmClose i
    let x := u.strm i
    let u := u.setStrm i { x with closing := true, holds := [], win := none, burstLeft := 0, fly := 0 }
    ((u.wr (strmEn i) 0).wr (strmActive i) 0).strmRelease i
  else u

/-! ## The elastic buffer (R99) -/

def bufWords (l : List StreamItem) : Nat := l.foldl (fun a x => a + x.words.length) 0

/-- Records ahead of a digital group's elastic buffer move into it as room appears (R117). -/
def fillBuf : Nat → List StreamItem → List StreamItem → List StreamItem × List StreamItem
  | 0, pre, buf => (pre, buf)
  | _ + 1, [], buf => ([], buf)
  | n + 1, x :: pre, buf =>
    if bufWords buf + x.words.length ≤ 256 then fillBuf n pre (buf ++ [x]) else (x :: pre, buf)

/-- Admit an item whole, or discard it for lack of room (R99): a discard closes the packet, and the first item admitted
after discards opens a new one with GAP and emits DROP. -/
def Units.admitItem (u : Units) (i : Nat) (it : StreamItem) : Units :=
  let x := u.strm i
  if bufWords x.buf + it.words.length ≤ 256 then
    let it := { it with fresh := it.fresh || x.dropped != 0 || x.stepped, gap := x.dropped != 0, tstep := x.stepped }
    let u := u.setStrm i { x with buf := x.buf ++ [it], dropped := 0, stepped := false }
    if x.dropped = 0 then u else u.emit (strmSrc i) 0x02 (i + satN 16 x.dropped * 2 ^ 16)
  else
    let u := u.count (strmDrop i) (strmDropOvf i)
    let u := u.setStrm i { x with dropped := x.dropped + 1 }
    u.strmClose i

/-- The six header words of R97. -/
def Units.header (u : Units) (i : Nat) (it : StreamItem) (seq : Nat) : List Nat :=
  [it.kind * 2 ^ 28 + b2n it.gap * 2 ^ 27 + b2n it.tstep * 2 ^ 26 + i * 2 ^ 20 + u.rd (strmBase i) * 2 ^ 16 + seq,
   it.time % 2 ^ 32, it.time / 2 ^ 32 % 2 ^ 32, it.angle, u.headWord4 i, if it.kind = 7 then 0 else u.headWord5 i]

/-- R112: a marker word. -/
def markWord (mk v : Nat) : Nat := 2 ^ 31 + mk * 2 ^ 28 + v

/-- Open a packet with its header and, in KIND 0x5, its MK 1 marker (R97, R114). -/
def Units.strmOpenPkt (u : Units) (i : Nat) (it : StreamItem) : Units :=
  let x := u.strm i
  let r := x.run
  let seq := x.seq
  let head := u.header i it seq ++ (match it.nominal with | some a => if it.kind = 5 then [markWord 1 a] else [] | none => [])
  let u := u.setStrm i { x with openPkt := true, pktTime := it.time, pktWords := head.length, pktKind := it.kind,
                                seq := (seq + 1) % 65536 }
  let u := u.wr (strmSeq i) seq
  let u := if seq = 65535 then u.emit (strmSrc i) 0x03 i else u
  u.each head fun u w => u.runPushAny r w

/-- The item needs a new packet (R98). -/
def Units.needsPkt (u : Units) (i : Nat) (it : StreamItem) : Bool :=
  let x := u.strm i
  !x.openPkt || it.fresh || x.pktKind != it.kind || decide (x.pktWords + it.words.length > u.rd (strmPkt i)) ||
    ((it.kind == 1 || it.kind == 3) && decide (it.time ≥ x.pktTime + 2000000000)) ||
    (it.kind == 6 && decide (it.time ≥ x.pktTime + 100000000))

/-- R99: the oldest item passes into the runnel once a stage is empty or its own segment blocks it (06_runnels.md R147,
R148). -/
def Units.bufferToRunnel (u : Units) (i : Nat) : Units :=
  let x := u.strm i
  let r := x.run
  let rn := u.runnel r
  let room := decide (rn.words.length < runStages) || (match rn.words with | w :: _ => w.unfilled | [] => true)
  match x.buf with
  | [] => u.strmRelease i
  | it :: rest =>
    if !room then u
    else
      let (pre, buf) := fillBuf x.pre.length x.pre rest
      let u := u.setStrm i { x with buf := buf, pre := pre }
      let u := if u.needsPkt i it then (u.strmClosePkt i).strmOpenPkt i it else u
      let u := u.each it.words fun u w => u.runPushAny r w
      let y := u.strm i
      let u := u.setStrm i { y with pktWords := y.pktWords + it.words.length }
      let u := if it.last then u.strmClosePkt i else u
      u.strmRelease i

/-! ## Holds and overruns (R100 to R102) -/

/-- The class minimum period in CD03 ticks: 1,000 ns general, 250 ns fast. -/
def minTicks (i : Nat) : Nat := if i < 32 then 400 else 100

/-- Count n requests that found no conversion (R102). -/
def Units.overrun (u : Units) (i n : Nat) : Units :=
  if n = 0 then u
  else
    let u := u.countN (strmOvr i) (strmOvrOvf i) n
    u.setStrm i { u.strm i with ovr := (u.strm i).ovr + n }

/-- The converter is free for a hold at tick t (R102). -/
def Units.convFree (u : Units) (i t : Nat) : Bool :=
  match (u.strm i).lastHold with
  | some l => decide (l + minTicks i ≤ t)
  | none => true

/-- A fast input's FLT at a hold (R112, R133). -/
def Units.holdFlt (u : Units) (i : Nat) : Bool :=
  32 ≤ i && (u.rd (Reg.FIN_FAULT.NOW (i - 32)) != 0 || (u.strm i).creset)

/-- Make a hold at tick t with a given time stamp. -/
def Units.hold (u : Units) (i t time : Nat) (h : Hold) : Units :=
  let x := u.strm i
  let h := { h with tick := t, time := time, angle := u.stampAngle (u.rd (strmBase i)) t, flt := u.holdFlt i }
  u.setStrm i { x with lastHold := some t, lastTime := time, holds := x.holds ++ [h] }

/-- A request at tick t: a hold, or an overrun (R102). -/
def Units.request (u : Units) (i t : Nat) (h : Hold) : Units :=
  if u.convFree i t then u.hold i t (u.timeAt t) h else u.overrun i 1

/-- Start of a fast burst (R113): each burst opens a packet and its last conversion closes it. -/
def Units.burstStart (u : Units) (i t : Nat) : Units :=
  let n := u.rd (Reg.FIN_BURST.COUNT (i - 32))
  if (u.strm i).burstLeft ≠ 0 then u.overrun i 1
  else if u.convFree i t then
    let u := u.hold i t (u.timeAt t) { tick := 0, time := 0, angle := 0, fresh := true, last := n == 1 }
    u.setStrm i { u.strm i with burstLeft := n - 1 }
  else u.overrun i 1

/-- R102: the schedule requests in flight reach the block; one conversion is made and the rest are counted. -/
def Units.conversionRequestArrive (u : Units) (i t : Nat) : Units :=
  let u := u.advance t
  let n := (u.strm i).fly
  let u := u.setStrm i { u.strm i with fly := 0 }
  let trig := if i < 32 then u.rd (Reg.AIN_GCFG.TRIG i) else u.rd (Reg.FIN_CFG.TRIG (i - 32))
  if n = 0 ∨ ¬ u.strmOn i then u
  else if i < 32 ∧ trig = 2 then (u.overrun i (n - 1)).request i t { tick := 0, time := 0, angle := 0 }
  else if 32 ≤ i ∧ i < 48 ∧ trig = 2 then (u.overrun i (n - 1)).request i t { tick := 0, time := 0, angle := 0 }
  else if 32 ≤ i ∧ i < 48 ∧ trig = 3 then (u.overrun i (n - 1)).burstStart i t
  else u

/-- A schedule entry of engine e asks stream i for a conversion (R107, R113): entries of another engine than BASE, and
requests whose kind does not match TRIG, are ignored. -/
def Units.schedRequest (u : Units) (e i : Nat) : Units :=
  let trig := if i < 32 then u.rd (Reg.AIN_GCFG.TRIG i) else u.rd (Reg.FIN_CFG.TRIG (i - 32))
  let fits := trig = 2 ∨ (32 ≤ i ∧ trig = 3)
  if u.strmOn i ∧ u.rd (strmBase i) = e ∧ fits then u.pulseSend (256 * e + 64 + i) else u

/-- R107: a GO write starts one scan of a software-triggered group. -/
def Units.ainGo (u : Units) (g t : Nat) : Units :=
  let u := u.advance t
  if u.strmOn g ∧ u.rd (Reg.AIN_GCFG.TRIG g) = 0 then u.request g t { tick := 0, time := 0, angle := 0 } else u

/-- R107: the TEDGE edge of digital input TDIN starts one scan of a TRIG 3 group. -/
def Units.ainDinTrigger (u : Units) (g t : Nat) : Units :=
  let u := u.advance t
  if u.strmOn g ∧ u.rd (Reg.AIN_GCFG.TRIG g) = 3 then u.request g t { tick := 0, time := 0, angle := 0 } else u

/-- R113: a GO write converts a software-triggered fast input once. -/
def Units.finGo (u : Units) (n t : Nat) : Units :=
  let u := u.advance t
  if u.strmOn (32 + n) ∧ u.rd (Reg.FIN_CFG.TRIG n) = 0 then u.request (32 + n) t { tick := 0, time := 0, angle := 0 }
  else u

/-- R111: CRESET discharges the charge integrator, whatever EN holds. -/
def Units.finCreset (u : Units) (n : Nat) : Units :=
  if u.rd (Reg.FIN_CFG.FE n) = 2 then u.setStrm (32 + n) { u.strm (32 + n) with creset := true } else u

/-- R111: the discharge ends. -/
def Units.chargeResetDone (u : Units) (n : Nat) : Units := u.setStrm (32 + n) { u.strm (32 + n) with creset := false }

/-- R101: a time-triggered stream reaches a grid point; the first point after a step lies at least one class minimum
after the previous hold. -/
def Units.streamGridPoint (u : Units) (i t : Nat) : Units :=
  let u := u.advance t
  let per := u.rd (strmPeriod i)
  let ph := u.rd (strmPhase i)
  let trig := if i < 32 then u.rd (Reg.AIN_GCFG.TRIG i) else u.rd (Reg.FIN_CFG.TRIG (i - 32))
  let g := gridAt (u.timeAt t) per ph
  if u.strmOn i ∧ trig = 1 ∧ i < 48 ∧ per ≠ 0 ∧ g % per = ph ∧ g ≠ (u.strm i).lastGrid ∧ u.convFree i t then
    let u := u.hold i t g { tick := 0, time := 0, angle := 0 }
    u.setStrm i { u.strm i with lastGrid := g }
  else u

/-- R113: PERIOD after the previous hold of a burst the next conversion holds. -/
def Units.finBurstNext (u : Units) (n t : Nat) : Units :=
  let u := u.advance t
  let i := 32 + n
  let x := u.strm i
  if u.strmOn (32 + n) ∧ x.burstLeft ≠ 0 then
    let time := x.lastTime + u.rd (Reg.FIN_PERIOD.NS n)
    let u := u.hold i t time { tick := 0, time := 0, angle := 0, last := x.burstLeft == 1 }
    u.setStrm i { u.strm i with burstLeft := x.burstLeft - 1 }
  else u

/-! ## Results (R103, R105, R109, R110, R112) -/

/-- Round a sum of n codes to the nearest mean, ties to even (R110). -/
def meanEven (sum : Int) (n : Nat) : Int :=
  let q := sum / (n : Int)
  let r := sum % (n : Int)
  if 2 * r > n then q + 1 else if 2 * r < n then q else if q % 2 = 0 then q else q + 1

/-- Saturate a code to w signed bits, and whether it was out of range. -/
def satCode (w : Nat) (c : Int) : Int × Bool :=
  if c > 2 ^ (w - 1) - 1 then (2 ^ (w - 1) - 1, true) else if c < -(2 ^ (w - 1)) then (-(2 ^ (w - 1)), true) else (c, false)

/-- V_nominal of an excitation output in mV (R120). -/
def Units.excNominal (u : Units) (n : Nat) : Nat := if u.is (Reg.EXC_CFG.VOLT n) then 10000 else 5000

/-- An excitation output is off: disabled or latched off (R105, R133). -/
def Units.excOff (u : Units) (n : Nat) : Bool := !u.is (Reg.EXC_CFG.EN n) || u.is (Reg.EXC_FAULT.LATCHED n)

/-- The code of one general input (R103, R105), and whether its over-range bit sets. -/
def Units.ainCode (u : Units) (n : Nat) (raw : Int) (exc : List Nat) : Int × Bool :=
  let ratio := u.rd (Reg.AIN_CH.RATIO n)
  if ratio = 0 then satCode 16 raw
  else
    let o := ratio - 1
    if u.excOff o then (-32768, true)
    else satCode 16 (Config.ratioCode raw (u.excNominal o) (exc.getD o 0))

/-- Two codes per word, the lower-numbered member in bits 15:0 (R109). -/
def packCodes : List Int → List Nat
  | [] => []
  | [a] => [ofInt 16 a]
  | a :: b :: t => (ofInt 16 a + ofInt 16 b * 2 ^ 16) :: packCodes t

/-- Convert each member: AIN_LAST and the over-range bits (R103). -/
def Units.ainScan (u : Units) (exc : List Nat) : List Nat → List Int → Units × List Int
  | [], _ => (u, [])
  | n :: ns, raws =>
    let (c, ov) := u.ainCode n (raws.headD 0) exc
    let u := u.wr (Reg.AIN_LAST.CODE n) (ofInt 16 c)
    let u := if ov then u.wr (Reg.AIN_OVRNG.INPUT (n / 32)) (u.rd (Reg.AIN_OVRNG.INPUT (n / 32)) ||| 2 ^ (n % 32)) else u
    let (u, cs) := u.ainScan exc ns raws.tail
    (u, c :: cs)

/-- The item of one output scan (R108, R109). -/
def Units.scanItem (u : Units) (g time angle : Nat) (codes : List Int) : StreamItem :=
  let k := u.strmKind g
  { words := (if k = 1 then [time % 2 ^ 32, angle] else []) ++ packCodes codes, time := time, angle := angle, kind := k }

/-- R110: the decimator takes one scan. -/
def Units.decimate (u : Units) (g : Nat) (h : Hold) (codes : List Int) : Units :=
  let x := u.strm g
  let n := u.decimN g
  let first := x.decCount = 0
  let time := if first then h.time else x.decTime
  let angle := if first then h.angle else x.decAngle
  let sum := if first then codes else x.decSum.zipWith (· + ·) codes
  let done := x.decCount + 1 = n
  let u := u.setStrm g { x with decCount := if done then 0 else x.decCount + 1, decSum := if done then [] else sum,
                                decTime := time, decAngle := angle }
  if u.is (Reg.AIN_GCFG.DMODE g) then
    if done then u.admitItem g (u.scanItem g time angle (sum.map fun s => meanEven s n)) else u
  else if first then u.admitItem g (u.scanItem g time angle codes) else u

/-- R112: the sample word of a fast input. -/
def sampleWord (code : Int) (flt : Bool) : Nat :=
  let (c, ov) := satCode 18 code
  ofInt 18 c + b2n ov * 2 ^ 18 + b2n flt * 2 ^ 19

/-- R112 to R114: the item of a fast conversion. -/
def Units.finItem (u : Units) (i : Nat) (h : Hold) (w : Nat) : StreamItem :=
  let k := u.strmKind i
  let words := if k = 3 then [h.time % 2 ^ 32, h.angle, w]
    else if k = 5 ∧ h.skipped ≠ 0 then [markWord 0 (h.skipped % 65536), w] else [w]
  { words := words, time := h.time, angle := h.angle, kind := k, nominal := some h.nominal, fresh := h.fresh, last := h.last }

/-- R100: the oldest hold's result is ready and its item enters the elastic buffer. -/
def Units.conversionResult (u : Units) (i : Nat) (codes : List Int) (exc : List Nat) : Units :=
  let x := u.strm i
  match x.holds with
  | [] => u
  | h :: hs =>
    let u := u.setStrm i { x with holds := hs }
    if i < 32 then
      let (u, cs) := u.ainScan exc (u.members i) codes
      u.decimate i h cs
    else
      let w := sampleWord (codes.headD 0) h.flt
      let u := u.wr (Reg.FIN_LAST.WORD (i - 32)) w
      u.admitItem i (u.finItem i h w)

/-! ## The angle clock (R114) -/

/-- Index of a window's last point. -/
def Units.aclkLast (u : Units) (n b : Nat) : Nat :=
  let c := u.cycleLen b
  ((((u.rd (Reg.FIN_AWIN_HI.ANGLE n) : Int) - u.rd (Reg.FIN_AWIN_LO.ANGLE n)) % c) / (u.rd (Reg.FIN_STEP.AC n) : Int)).toNat

/-- The first point at or above an absolute angle in a window starting at w0. -/
def pointFrom (w0 x : Int) (step : Nat) : Nat := if x ≤ w0 then 0 else (((x - w0) + (step : Int) - 1) / (step : Int)).toNat

/-- The angle word reaches or passes points of the window (R114): one request for the last one passed; the others, and a
point that finds the converter busy, are skipped. -/
def Units.aclkTake (u : Units) (n t : Nat) (w : AclkWin) (x : Int) : Units :=
  let i := 32 + n
  let b := u.rd (strmBase i)
  let step := u.rd (Reg.FIN_STEP.AC n)
  let kmax := u.aclkLast n b
  let c := u.cycleLen b
  let kl := min kmax ((x - w.start) / (step : Int)).toNat
  if x < w.start ∨ kl < w.next then u.setStrm i { u.strm i with win := some w }
  else
    let passed := kl - w.next
    let busy := !u.convFree i t
    let skip := passed + b2n busy
    let u := u.countN (Reg.FIN_SKIP.COUNT n) (Reg.FIN_SKIP.OVF n) skip
    let done := decide (kl = kmax)
    let u := if busy then u else
      let acc := w.skipped + passed
      let nom := ((w.start + (((kl - acc : Nat)) : Int) * (step : Int)) % c).toNat
      u.hold i t (u.timeAt t) { tick := 0, time := 0, angle := 0, skipped := acc, nominal := nom, fresh := !w.began, last := done }
    let y := u.strm i
    if done then
      let u := u.setStrm i { y with win := none, lastWin := some w.start }
      if busy then u.strmClose i else u
    else u.setStrm i { y with win := some { w with next := kl + 1, skipped := if busy then w.skipped + skip else 0,
                                                   began := w.began || !busy } }

/-- R114: the angle word reaches an angle-clock point. `validFrom`: the angle at which the base's word became valid. -/
def Units.aclkPoint (u : Units) (n t : Nat) : Units :=
  let u := u.advance t
  let i := 32 + n
  let b := u.rd (strmBase i)
  if u.strmOn (32 + n) ∧ u.rd (Reg.FIN_CFG.TRIG n) = 4 ∧ b < 4 ∧ u.rd (Reg.FIN_STEP.AC n) ≠ 0 then
    match u.absAngle b t with
    | none => u
    | some x =>
      let c := u.cycleLen b
      let lo : Int := u.rd (Reg.FIN_AWIN_LO.ANGLE n)
      let start := x - (x - lo) % c
      let s := u.strm i
      match s.win with
      | some w =>
        if w.start = start then u.aclkTake n t w x
        else if start < w.start then u
        else
          let u := u.countN (Reg.FIN_SKIP.COUNT n) (Reg.FIN_SKIP.OVF n) (u.aclkLast n b + 1 - w.next)
          let u := (u.setStrm i { s with win := none, lastWin := some w.start }).strmClose i
          u.aclkTake n t { start := start, next := 0 } x
      | none =>
        let later := match s.lastWin with | some l => decide (l < start) | none => true
        let first := max (u.eng b).validFrom (s.enAngle.getD start)
        if later then u.aclkTake n t { start := start, next := pointFrom start first (u.rd (Reg.FIN_STEP.AC n)) } x
        else u
  else u

/-- R114: base b's angle word has become invalid: every window in progress on it is dropped and its packet closes. Angles
are counted afresh when the word becomes valid again. -/
def Units.aclkLost (u : Units) (b : Nat) : Units :=
  u.each (List.range 16) fun u n =>
    let i := 32 + n
    let s := u.strm i
    if u.rd (Reg.FIN_CFG.TRIG n) = 4 ∧ u.rd (strmBase i) = b then
      let u := u.setStrm i { s with win := none, lastWin := none, enAngle := none }
      if u.strmOn i ∧ s.win.isSome then (u.strmClose i).wr (Reg.FIN_STATUS.ACLK_LOST n) 1 else u
    else u

/-! ## Digital inputs (R115 to R119) -/

/-- Conditioned level of a digital input. -/
def Units.dinLevel (u : Units) (n : Nat) : Bool :=
  if n < 32 then bit (u.rd Reg.DIN_LEVEL0.LEVEL) n else bit (u.rd Reg.DIN_LEVEL1.LEVEL) (n - 32)

def Units.setDinLevel (u : Units) (n : Nat) (v : Bool) : Units :=
  let upd (x k : Nat) : Nat := if bit x k == v then x else if v then x + 2 ^ k else x - 2 ^ k
  if n < 32 then u.wr Reg.DIN_LEVEL0.LEVEL (upd (u.rd Reg.DIN_LEVEL0.LEVEL) n)
  else u.wr Reg.DIN_LEVEL1.LEVEL (upd (u.rd Reg.DIN_LEVEL1.LEVEL) (n - 32))

/-- The conditioning delay in CD03 ticks (R115). -/
def Units.dinDelay (u : Units) (n : Nat) (level : Bool) : Nat :=
  4 * u.rd (Reg.DIN_CFG.FILT n) + (if u.rd (Reg.DIN_CFG.COND n) = 0 then 16 else if level then 24 else 32)

/-- R118: a measurement edge at a time in ns. -/
def Units.dinMeasure (u : Units) (n time : Nat) (level : Bool) : Units :=
  let m : DinMeas := SMap.get {} u.dinMeas n
  let medge := level != u.is (Reg.DIN_CFG.MEDGE n)
  let mode := u.rd (Reg.DIN_CFG.MEAS n)
  let m := if level then { m with rise := some time } else { m with high := m.rise.map fun r => time - r }
  let m := if medge then { m with period := m.lastMedge.map fun l => time - l, lastMedge := some time } else m
  let u := { u with dinMeas := SMap.set {} u.dinMeas n m }
  let c := u.rd (Reg.DIN_COUNT.COUNT n)
  let u := if medge then
      let u := u.wr (Reg.DIN_COUNT.COUNT n) (c + 1)
      if c = 2 ^ 32 - 1 then u.emit 0x3002 0x04 n else u
    else u
  let put (u : Units) (v : Nat) : Units := u.wr (Reg.DIN_MEAS.VALUE n) (satN 32 v)
  match mode, medge with
  | 1, true => match m.period with | some p => put u p | none => u
  | 2, false => match m.high with | some h => put u h | none => u
  | 3, false => match m.high, m.period with
    | some h, some p => if p = 0 then put u (2 ^ 32) else put u (h * 2 ^ 32 / p)
    | _, _ => u
  | 4, true => u.wr (Reg.DIN_MEAS.VALUE n) (c + 1)
  | _, _ => u

/-- The elastic buffer and the records ahead of it are full (R117). -/
def Stream.edgeFull (x : Stream) : Bool := decide (bufWords x.buf + 2 > 256) && decide (x.pre.length ≥ 256)

/-- A record joins the elastic buffer or, behind others, the records ahead of it. After discards it opens a packet with GAP
and emits DROP (R99). -/
def Units.dinPut (u : Units) (i : Nat) (words : List Nat) (time angle : Nat) : Units :=
  let x := u.strm i
  let it : StreamItem := { words := words, time := time, angle := angle, kind := 6, fresh := x.dropped != 0 || x.stepped,
                           gap := x.dropped != 0, tstep := x.stepped }
  let x' := if x.pre = [] ∧ bufWords x.buf + 2 ≤ 256 then { x with buf := x.buf ++ [it] } else { x with pre := x.pre ++ [it] }
  let u := u.setStrm i { x' with dropped := 0, stepped := false }
  if x.dropped = 0 then u else u.emit (strmSrc i) 0x02 (i + satN 16 x.dropped * 2 ^ 16)

/-- R117: when space has returned, one drop record reports the edges lost, with the stamps of the last of them. -/
def Units.dinDropRecord (u : Units) (g : Nat) : Units :=
  let i := 48 + g
  let x := u.strm i
  if x.lostEdges ≠ 0 ∧ ¬ x.edgeFull then
    ((u.setStrm i { x with lostEdges := 0 }).dinPut i [x.lostEdges % 2 ^ 32, 0xFFFFFFFE] x.lostTime x.lostAngle).emit
      0x3002 0x02 (i + satN 16 x.lostEdges * 2 ^ 16)
  else u

/-- R117: an edge record for its group, behind the drop record of edges lost before it; or, with both full, a lost edge. -/
def Units.dinRecord (u : Units) (n time angle : Nat) (level : Bool) : Units :=
  let i := 48 + n / 8
  let u := u.dinDropRecord (n / 8)
  let x := u.strm i
  if x.edgeFull then
    (u.setStrm i { x with lostEdges := x.lostEdges + 1, lostTime := time, lostAngle := angle }).count (strmDrop i) (strmDropOvf i)
  else u.dinPut i [(n % 8) * 2 ^ 29 + b2n level * 2 ^ 28 + time % 2 ^ 28, angle] time angle

/-- R115, R117, R118: a conditioned level change is accepted at tick t. A VR input reporting 0x1 or 0x2 gives no edges
(05_harness_guard.md R133). -/
def Units.dinEdge (u : Units) (n t : Nat) (level : Bool) : Units :=
  let u := u.advance t
  let now := u.rd (Reg.DIN_FAULT.NOW n)
  if u.pwr.frontOff || u.dinLevel n == level || (u.rd (Reg.DIN_CFG.COND n) == 1 && (now == 1 || now == 2)) then u
  else
    let u := u.setDinLevel n level
    if u.is (Reg.DIN_CFG.EN n) then
      let t' := t - u.dinDelay n level
      let u := u.dinMeasure n (u.timeAt t') level
      let log := u.rd (Reg.DIN_CFG.LOG n)
      let i := 48 + n / 8
      if u.strmOn i ∧ (log = 3 ∨ (log = 1 ∧ level) ∨ (log = 2 ∧ ¬ level)) then
        u.dinRecord n (u.timeAt t') (u.stampAngle (u.rd (strmBase i)) t') level
      else u
    else u

/-- R118: no MEDGE edge for 2 s. -/
def Units.dinMeasTimeout (u : Units) (n : Nat) : Units :=
  let mode := u.rd (Reg.DIN_CFG.MEAS n)
  if u.is (Reg.DIN_CFG.EN n) ∧ 1 ≤ mode ∧ mode ≤ 3 then u.wr (Reg.DIN_MEAS.VALUE n) 0xFFFFFFFF else u

/-- R119: a snapshot of a group's levels and measurements in one packet of its own. -/
def Units.dinSnapshot (u : Units) (g t : Nat) : Units :=
  let i := 48 + g
  if u.strmOn i then
    let u := u.strmClose i
    let levels := (List.range 8).foldl (fun a b => a + b2n (u.dinLevel (8 * g + b)) * 2 ^ b) 0
    let meas := (List.range 8).map fun b => u.rd (Reg.DIN_MEAS.VALUE (8 * g + b))
    let it : StreamItem := { words := levels :: meas, time := u.timeAt t, angle := u.stampAngle (u.rd (strmBase i)) t, kind := 7,
                             fresh := true, last := true }
    u.admitItem i it
  else u

/-- R119: GSNAP.GO. -/
def Units.dinSnapGo (u : Units) (g t : Nat) : Units := (u.advance t).dinSnapshot g t

/-- R98: AGE expires. -/
def Units.packetAgeExpire (u : Units) (i : Nat) : Units :=
  let age := u.rd (streamFld i Reg.AIN_GSTREAM.AGE Reg.FIN_STREAM.AGE Reg.DIN_GSTREAM.AGE)
  if age = 0 then u else u.strmClosePkt i

/-- R102: OVERRUN is emitted with the count since its last emission. -/
def Units.overrunReport (u : Units) (i : Nat) : Units :=
  let x := u.strm i
  if x.ovr = 0 then u
  else (u.setStrm i { x with ovr := 0 }).emit (strmSrc i) 0x01 (i + satN 16 x.ovr * 2 ^ 16)

/-- R98, R97, R101: a time step takes effect in every stream: open packets close, the next packet carries TSTEP, and the
grid continues in stepped time. -/
def Units.streamsStep (u : Units) : Units :=
  u.each (List.range 54) fun u i =>
    let u := if u.is (strmEn i) then u.strmClose i else u
    u.setStrm i { u.strm i with stepped := true, lastGrid := u.gridLast i (u.now - 1) }

/-! ## Meanings -/

def execStreamEnable (i : Nat) (s : State) : Host.Outcome State Fault Refusal := s.run (decide (i < 54)) fun u => u.streamEnable i
def execStreamDisable (i : Nat) (s : State) : Host.Outcome State Fault Refusal := s.run (decide (i < 54)) fun u => u.streamDisable i
def execAinGo (g t : Nat) (s : State) : Host.Outcome State Fault Refusal := s.run (decide (g < 32)) fun u => u.ainGo g t
def execFinGo (n t : Nat) (s : State) : Host.Outcome State Fault Refusal := s.run (decide (n < 16)) fun u => u.finGo n t
def execFinCreset (n : Nat) (s : State) : Host.Outcome State Fault Refusal := s.run (decide (n < 16)) fun u => u.finCreset n
def execDinSnapGo (g t : Nat) (s : State) : Host.Outcome State Fault Refusal := s.run (decide (g < 6)) fun u => u.dinSnapGo g t
def execStreamGridPoint (i t : Nat) (s : State) : Host.Outcome State Fault Refusal :=
  s.run (decide (i < 48)) fun u => u.streamGridPoint i t
def execConversionRequestArrive (i t : Nat) (s : State) : Host.Outcome State Fault Refusal :=
  s.run (decide (i < 48)) fun u => u.conversionRequestArrive i t
def execAinDinTrigger (g t : Nat) (s : State) : Host.Outcome State Fault Refusal :=
  s.run (decide (g < 32)) fun u => u.ainDinTrigger g t
def execConversionResult (i : Nat) (codes : List Int) (exc : List Nat) (s : State) : Host.Outcome State Fault Refusal :=
  s.run (decide (i < 48)) fun u => u.conversionResult i codes exc
def execAclkPoint (n t : Nat) (s : State) : Host.Outcome State Fault Refusal := s.run (decide (n < 16)) fun u => u.aclkPoint n t
def execFinBurstNext (n t : Nat) (s : State) : Host.Outcome State Fault Refusal :=
  s.run (decide (n < 16)) fun u => u.finBurstNext n t
def execPacketAgeExpire (i : Nat) (s : State) : Host.Outcome State Fault Refusal :=
  s.run (decide (i < 54)) fun u => u.packetAgeExpire i
def execBufferToRunnel (i : Nat) (s : State) : Host.Outcome State Fault Refusal :=
  s.run (decide (i < 54)) fun u => u.bufferToRunnel i
def execDinEdge (n t : Nat) (level : Bool) (s : State) : Host.Outcome State Fault Refusal :=
  s.run (decide (n < 48)) fun u => u.dinEdge n t level
def execDinDropRecord (g : Nat) (s : State) : Host.Outcome State Fault Refusal := s.run (decide (g < 6)) fun u => u.dinDropRecord g
def execDinMeasTimeout (n : Nat) (s : State) : Host.Outcome State Fault Refusal :=
  s.run (decide (n < 48)) fun u => u.dinMeasTimeout n
def execOverrunReport (i : Nat) (s : State) : Host.Outcome State Fault Refusal := s.run (decide (i < 54)) fun u => u.overrunReport i
def execChargeResetDone (n : Nat) (s : State) : Host.Outcome State Fault Refusal :=
  s.run (decide (n < 16)) fun u => u.chargeResetDone n

end Sys2Proof.Machine
end

