-- ==== Sys2Proof/Machine/Outputs.lean ====
section
/-! DEFINITION. Excitation and trigger outputs (04_acquisition.md R120 to R125) with their hardware limits, and the fault
registers and events of every contact (05_harness_guard.md R129 to R141). -/
namespace Sys2Proof.Machine

/-! ## Fault registers (R129, R140, R141) -/

/-- The NOW field of a contact's fault register, by class (R141): 0 general analog, 1 fast analog, 2 digital input,
3 excitation, 4 trigger, 5 resolver, 6 PPS, 7 ignition pin, 8 twin sync wire. -/
def faultNow (cls n : Nat) : Fld :=
  match cls with
  | 0 => Reg.AIN_FAULT.NOW n | 1 => Reg.FIN_FAULT.NOW n | 2 => Reg.DIN_FAULT.NOW n | 3 => Reg.EXC_FAULT.NOW n
  | 4 => Reg.TRG_FAULT.NOW n | 5 => Reg.ANG_RES_FAULT.NOW n | 6 => Reg.TIM_PPS_FAULT.NOW | 7 => Reg.PWR_IGN_FAULT.NOW
  | _ => Reg.TWN_SYNC_FAULT.NOW

def faultSeen (cls n : Nat) : Fld :=
  match cls with
  | 0 => Reg.AIN_FAULT.SEEN n | 1 => Reg.FIN_FAULT.SEEN n | 2 => Reg.DIN_FAULT.SEEN n | 3 => Reg.EXC_FAULT.SEEN n
  | 4 => Reg.TRG_FAULT.SEEN n | 5 => Reg.ANG_RES_FAULT.SEEN n | 6 => Reg.TIM_PPS_FAULT.SEEN | 7 => Reg.PWR_IGN_FAULT.SEEN
  | _ => Reg.TWN_SYNC_FAULT.SEEN

def faultDiag (cls n : Nat) : Fld :=
  match cls with
  | 0 => Reg.AIN_FAULT.DIAG n | 1 => Reg.FIN_FAULT.DIAG n | 2 => Reg.DIN_FAULT.DIAG n | 3 => Reg.EXC_FAULT.DIAG n
  | 4 => Reg.TRG_FAULT.DIAG n | 5 => Reg.ANG_RES_FAULT.DIAG n | 6 => Reg.TIM_PPS_FAULT.DIAG | 7 => Reg.PWR_IGN_FAULT.DIAG
  | _ => Reg.TWN_SYNC_FAULT.DIAG

/-- RETRIES of an output; 0 for inputs. -/
def Units.retries (u : Units) (cls n : Nat) : Nat :=
  if cls = 3 then u.rd (Reg.EXC_FAULT.RETRIES n) else if cls = 4 then u.rd (Reg.TRG_FAULT.RETRIES n) else 0

def Units.contactOf (u : Units) (cls n : Nat) : Contact := SMap.get {} u.contact (cls * 256 + n)
def Units.setContact (u : Units) (cls n : Nat) (c : Contact) : Units :=
  { u with contact := SMap.set {} u.contact (cls * 256 + n) c }

/-- The first code of R129's priority order among those in a mask. -/
def topCode (m : Nat) : Nat := ([3, 5, 2, 4, 6, 1, 7].find? fun c => bit m c).getD 0

/-- An event of the harness guard (R141). The ignition pin and the sync wire report under their own sources. -/
def Units.guardEvent (u : Units) (kind cls n code : Nat) : Units :=
  if cls = 7 then u.emit 0xB000 0x09 (u.rd (faultNow 7 0))
  else if cls = 8 then u.emit 0xB004 0x05 (u.rd (faultNow 8 0))
  else u.emit 0x4000 kind (cls * 2 ^ 28 + n * 2 ^ 20 + (u.retries cls n) % 256 * 2 ^ 12 + code)

/-- A contact's reported codes become `rep`, with those in `met` recorded in SEEN: NOW takes the first by priority and a
change of NOW emits FAULT_SET or FAULT_CLEAR (R129, R140, R141). -/
def Units.setReported (u : Units) (cls n rep met : Nat) : Units :=
  let u := u.setContact cls n { u.contactOf cls n with rep := rep }
  let u := u.wr (faultSeen cls n) (u.rd (faultSeen cls n) ||| (met / 2) % 128)
  let old := u.rd (faultNow cls n)
  let now := topCode rep
  let u := u.wr (faultNow cls n) now
  if now = old then u
  else if now ≠ 0 then u.guardEvent 0x01 cls n now
  else u.guardEvent 0x02 cls n old

/-- An output condition code is met and reported. -/
def Units.meetCode (u : Units) (cls n code : Nat) : Units :=
  u.setReported cls n ((u.contactOf cls n).rep ||| 2 ^ code) (2 ^ code)

/-- Output codes of a mask clear. -/
def Units.clearCodes (u : Units) (cls n mask : Nat) : Units :=
  let rep := (u.contactOf cls n).rep
  u.setReported cls n (rep - (rep &&& mask)) 0

/-- Every code but 0x6 (R131: cleared by a retry or EN 0→1). -/
def notSix : Nat := 0xBF

/-! ## Excitation outputs -/

def Units.excOut (u : Units) (n : Nat) : ExcOut := SMap.get {} u.exc n
def Units.setExcOut (u : Units) (n : Nat) (x : ExcOut) : Units := { u with exc := SMap.set {} u.exc n x }

/-- Declared load of an output in mW (R121): V_nominal times LIMIT. -/
def Units.excLoad (u : Units) (n : Nat) : Nat := (if u.is (Reg.EXC_CFG.VOLT n) then 10 else 5) * u.rd (Reg.EXC_CFG.LIMIT n)

/-- EXC_BUDGET: the declared sum over all enabled outputs. -/
def Units.excSum (u : Units) : Nat :=
  (List.range 8).foldl (fun a n => if u.is (Reg.EXC_CFG.EN n) then a + u.excLoad n else a) 0
def Units.excBudget (u : Units) : Units := u.wr Reg.EXC_BUDGET.MW u.excSum

/-- R121, R134: EN 0→1 checks the budget and the declared LIMIT, and starts a fresh sequence. -/
def Units.excEnable (u : Units) (n : Nat) : Units :=
  if u.is (Reg.EXC_CFG.EN n) then u
  else
    let l := u.rd (Reg.EXC_CFG.LIMIT n)
    if l = 0 ∨ l > 150 ∨ u.excSum + u.excLoad n > 6000 then u.wr (Reg.EXC_STATUS.BUDGET_ERR n) 1
    else
      let u := ((u.wr (Reg.EXC_CFG.EN n) 1).wr (Reg.EXC_FAULT.RETRIES n) 0).wr (Reg.EXC_FAULT.LATCHED n) 0
      (u.clearCodes 3 n notSix).excBudget

/-- The driver turns off: READY clears. -/
def Units.excOffNow (u : Units) (n : Nat) : Units :=
  (u.wr (Reg.EXC_STATUS.READY n) 0).setExcOut n { u.excOut n with fold := false, isOver := false }

/-- R134, R139: EN 1→0 turns the output off and ends a latch-off sequence. A disabled output reports 0x0 (R131). -/
def Units.excDisable (u : Units) (n : Nat) : Units :=
  if u.is (Reg.EXC_CFG.EN n) then
    let u := ((u.wr (Reg.EXC_CFG.EN n) 0).excOffNow n).wr (Reg.EXC_FAULT.LATCHED n) 0
    (u.clearCodes 3 n 0xFF).excBudget
  else u

/-- R120, R134: the ramp reaches nominal; a retry that reaches READY without foldback clears LATCHED. -/
def Units.excReady (u : Units) (n : Nat) : Units :=
  if ¬ u.pwr.frontOff ∧ u.is (Reg.EXC_CFG.EN n) ∧ ¬ (u.excOut n).fold then
    (u.wr (Reg.EXC_STATUS.READY n) 1).wr (Reg.EXC_FAULT.LATCHED n) 0
  else u

/-- One output's measurement (R120, R122): OVER sets and EXC_OVER is emitted once per excursion above LIMIT. -/
def Units.excMeasure1 (u : Units) (n mv cur : Nat) : Units :=
  let u := (u.wr (Reg.EXC_MEAS.MV n) (satN 16 mv)).wr (Reg.EXC_MEAS.CURRENT n) (satN 16 cur)
  let x := u.excOut n
  let excess := u.is (Reg.EXC_CFG.EN n) && decide (cur > 10 * u.rd (Reg.EXC_CFG.LIMIT n))
  let u := u.setExcOut n { x with isOver := excess }
  if excess ∧ ¬ x.isOver then (u.wr (Reg.EXC_STATUS.OVER n) 1).emit 0x3003 0x06 n else u

/-- R122: the 1 ms measurement of every output, in mV and units of 0.1 mA, and of the total power in mW. -/
def Units.excMeasure (u : Units) (mv cur : List Nat) (mw : Nat) : Units :=
  let u := u.each (List.range 8) fun u n => u.excMeasure1 n (mv.getD n 0) (cur.getD n 0)
  let u := u.wr Reg.EXC_POWER.MW (satN 16 mw)
  { u with excHot := if mw > 6500 then u.excHot + 1 else 0 }

/-- R122: after 20 consecutive measurements above 6.5 W the highest-numbered enabled output is switched off. -/
def Units.excShed (u : Units) : Units :=
  if u.excHot ≥ 20 then
    match ((List.range 8).filter fun n => u.is (Reg.EXC_CFG.EN n)).getLast? with
    | none => u
    | some n =>
      let u := { u with excHot := 0 }
      ((u.excDisable n).wr (Reg.EXC_STATUS.SHED n) 1).emit 0x3003 0x05 n
  else u

/-- R134, R135: current above 180 mA folds the output back; above its LIMIT it also sets OVER. -/
def Units.excFoldback (u : Units) (n : Nat) : Units :=
  if u.is (Reg.EXC_CFG.EN n) then
    let x := u.excOut n
    let u := (u.setExcOut n { x with fold := true, isOver := true }).meetCode 3 n 6
    if x.isOver then u else (u.wr (Reg.EXC_STATUS.OVER n) 1).emit 0x3003 0x06 n
  else u

/-- R131: the output leaves its current limit. -/
def Units.excFoldbackEnd (u : Units) (n : Nat) : Units :=
  (u.setExcOut n { u.excOut n with fold := false }).clearCodes 3 n 0x40

/-- R134: foldback held for 2 ms latches the output off; at RETRY_MAX it gives up. -/
def Units.excLatchOff (u : Units) (n : Nat) : Units :=
  if u.is (Reg.EXC_CFG.EN n) ∧ (u.excOut n).fold then
    let now := u.rd (Reg.EXC_FAULT.NOW n)
    let u := (u.excOffNow n).wr (Reg.EXC_FAULT.LATCHED n) 1
    let u := u.guardEvent 0x03 3 n now
    if u.rd (Reg.EXC_FAULT.RETRIES n) ≥ u.rd (Reg.EXC_FAULT.RETRY_MAX n) then
      let u := (u.wr (Reg.EXC_CFG.EN n) 0).excBudget
      u.guardEvent 0x05 3 n now
    else u
  else u

/-- R134: 500 ms after the latch the driver ramps on again. -/
def Units.excRetry (u : Units) (n : Nat) : Units :=
  if u.is (Reg.EXC_CFG.EN n) ∧ u.is (Reg.EXC_FAULT.LATCHED n) then
    let now := u.rd (Reg.EXC_FAULT.NOW n)
    let u := u.wr (Reg.EXC_FAULT.RETRIES n) (satN 8 (u.rd (Reg.EXC_FAULT.RETRIES n) + 1))
    (u.guardEvent 0x04 3 n now).clearCodes 3 n notSix
  else u

/-- R136: 100 ms after a sense fault clears the output returns to remote sense. -/
def Units.excSenseRestore (u : Units) (n : Nat) : Units :=
  if bit (u.contactOf 3 n).rep 7 then u else u.setExcOut n { u.excOut n with local_ := false }

/-! ## Trigger outputs -/

def Units.trgOut (u : Units) (n : Nat) : TrgOut := SMap.get {} u.trg n
def Units.setTrgOut (u : Units) (n : Nat) (x : TrgOut) : Units := { u with trg := SMap.set {} u.trg n x }

/-- The actions of R124: 0 high, 1 low, 2 toggle. Queue 0-3: the angle engine's; 4: software. -/
def Units.trgPush (u : Units) (q n act : Nat) : Units :=
  { u with trgQ := SMap.set [] u.trgQ q (SMap.get [] u.trgQ q ++ [(n, act)]) }

/-- R123: the output is driving. -/
def Units.trgDriving (u : Units) (n : Nat) : Bool := !u.pwr.frontOff && u.is (Reg.TRG_CFG.EN n) && !u.is (Reg.TRG_FAULT.LATCHED n)

/-- Start of driving at EN 0→1, or the quiet state: no change has been made yet (R138). -/
def Units.trgStart (u : Units) (n : Nat) : Units := u.setTrgOut n {}

/-- Latch-off and retry: no change has been made yet, and a return to low stays due (R137). -/
def Units.trgRest (u : Units) (n : Nat) : Units :=
  u.setTrgOut n { u.trgOut n with lastChange := none, deferred := none }

/-- R138: EN 0→1 starts driving the level TRG_STATUS.LEVEL holds. -/
def Units.trgEnable (u : Units) (n : Nat) : Units :=
  if u.is (Reg.TRG_CFG.EN n) then u
  else
    let u := ((u.wr (Reg.TRG_CFG.EN n) 1).wr (Reg.TRG_FAULT.RETRIES n) 0).wr (Reg.TRG_FAULT.LATCHED n) 0
    (u.clearCodes 4 n notSix).trgStart n

/-- R139: EN 1→0 returns the output to its quiet state. -/
def Units.trgDisable (u : Units) (n : Nat) : Units :=
  if u.is (Reg.TRG_CFG.EN n) then
    let u := (u.wr (Reg.TRG_CFG.EN n) 0).wr (Reg.TRG_FAULT.LATCHED n) 0
    (u.clearCodes 4 n 0xFF).trgStart n
  else u

/-- An action deferred or merged by the cap (R138). -/
def Units.trgCapped (u : Units) (n : Nat) : Units :=
  (u.count (Reg.TRG_CAPPED.COUNT n) (Reg.TRG_CAPPED.OVF n)).wr (Reg.TRG_STATUS.CAPPED n) 1

/-- 250 ns in CD03 ticks. -/
def trgGap : Nat := 100

/-- Bring a driving output to a level at tick t under the 250 ns cap (R138). -/
def Units.trgDrive (u : Units) (n t : Nat) (v : Bool) : Units :=
  let x := u.trgOut n
  let cur := u.is (Reg.TRG_STATUS.LEVEL n)
  if x.deferred.isSome then (u.setTrgOut n { x with deferred := some v }).trgCapped n
  else if v = cur then u
  else
    let soon := match x.lastChange with | some l => decide (t < l + trgGap) | none => false
    if soon then (u.setTrgOut n { x with deferred := some v }).trgCapped n
    else (u.wrb (Reg.TRG_STATUS.LEVEL n) v).setTrgOut n { x with lastChange := some t }

/-- Apply one action (R124, R125, R137, R138): discarded with EN = 0; while latched off only the logical level follows. -/
def Units.trgApply (u : Units) (n act t : Nat) : Units :=
  if u.pwr.frontOff || !u.is (Reg.TRG_CFG.EN n) then u
  else
    let x := u.trgOut n
    let cur := x.deferred.getD (u.is (Reg.TRG_STATUS.LEVEL n))
    let v := if act = 0 then true else if act = 1 then false else !cur
    let u := u.setTrgOut n { x with ret := act == 0 && u.rd (Reg.TRG_CFG.WIDTH n) != 0, retAt := t + 2 * u.rd (Reg.TRG_CFG.WIDTH n) }
    if u.is (Reg.TRG_FAULT.LATCHED n) then u.wrb (Reg.TRG_STATUS.LEVEL n) v else u.trgDrive n t v

/-- R124: the oldest action of a queue reaches its output. -/
def Units.trgActionApply (u : Units) (q t : Nat) : Units :=
  let u := u.advance t
  match SMap.get [] u.trgQ q with
  | [] => u
  | (n, act) :: rest => ({ u with trgQ := SMap.set [] u.trgQ q rest }).trgApply n act t

/-- R125: the return to low that a HIGH scheduled, WIDTH after the last HIGH; while latched off only the logical level
follows (R137). -/
def Units.trgWidthReturn (u : Units) (n t : Nat) : Units :=
  let u := u.advance t
  let x := u.trgOut n
  if x.ret ∧ x.retAt ≤ u.clock ∧ ¬ u.pwr.frontOff ∧ u.is (Reg.TRG_CFG.EN n) then
    let u := u.setTrgOut n { x with ret := false }
    if u.is (Reg.TRG_FAULT.LATCHED n) then u.wr (Reg.TRG_STATUS.LEVEL n) 0 else u.trgDrive n t false
  else u

/-- R138: 250 ns after the last change a deferred change applies its final level. -/
def Units.trgDeferredChange (u : Units) (n t : Nat) : Units :=
  let u := u.advance t
  let x := u.trgOut n
  match x.deferred with
  | none => u
  | some v =>
    if u.trgDriving n then
      if v = u.is (Reg.TRG_STATUS.LEVEL n) then u.setTrgOut n { x with deferred := none }
      else (u.wrb (Reg.TRG_STATUS.LEVEL n) v).setTrgOut n { x with deferred := none, lastChange := some t }
    else u.setTrgOut n { x with deferred := none }

/-- R137: an output reporting 0x2, 0x3 or 0x6 latches off, and gives up at RETRY_MAX. -/
def Units.trgLatchOff (u : Units) (n t : Nat) : Units :=
  let u := u.advance t
  let now := u.rd (Reg.TRG_FAULT.NOW n)
  if u.trgDriving n ∧ (now = 2 ∨ now = 3 ∨ now = 6) then
    let x := u.trgOut n
    let u := u.wrb (Reg.TRG_STATUS.LEVEL n) (x.deferred.getD (u.is (Reg.TRG_STATUS.LEVEL n)))
    let u := (u.trgRest n).wr (Reg.TRG_FAULT.LATCHED n) 1
    let u := u.guardEvent 0x03 4 n now
    if u.rd (Reg.TRG_FAULT.RETRIES n) ≥ u.rd (Reg.TRG_FAULT.RETRY_MAX n) then
      (u.wr (Reg.TRG_CFG.EN n) 0).guardEvent 0x05 4 n now
    else u
  else u

/-- R137: 10 ms after a latch the output retries at its queued level. -/
def Units.trgRetry (u : Units) (n t : Nat) : Units :=
  let u := u.advance t
  if u.is (Reg.TRG_CFG.EN n) ∧ u.is (Reg.TRG_FAULT.LATCHED n) then
    let now := u.rd (Reg.TRG_FAULT.NOW n)
    let u := u.wr (Reg.TRG_FAULT.RETRIES n) (satN 8 (u.rd (Reg.TRG_FAULT.RETRIES n) + 1))
    let u := (u.guardEvent 0x04 4 n now).clearCodes 4 n 0xFF
    (u.wr (Reg.TRG_FAULT.LATCHED n) 0).trgRest n
  else u

/-- TRG_STATUS.PIN of an output with nothing but the module on its pin (R123): the driven level when driving push-pull or
pulling low, 0 when an open-drain output is released, 1 in the quiet state. -/
def Units.trgPin (u : Units) (n : Nat) : Bool :=
  if u.trgDriving n then
    let pin := u.is (Reg.TRG_STATUS.LEVEL n) != u.is (Reg.TRG_CFG.POL n)
    if u.is (Reg.TRG_CFG.DRIVE n) then false else pin
  else true

/-- R130, R131: an output condition that has held for 2 us is reported; codes the output's class does not list are not.
A sense fault moves regulation to the output contact (R136). -/
def Units.outputFault (u : Units) (trg : Bool) (n code : Nat) : Units :=
  if trg then
    let drive := u.is (Reg.TRG_CFG.DRIVE n)
    let ok := code = 3 ∨ code = 6 ∨ (code = 2 ∧ ¬ drive) ∨ (code = 1 ∧ drive)
    if u.trgDriving n ∧ ok then u.meetCode 4 n code else u
  else
    let ok := code = 1 ∨ code = 2 ∨ code = 3 ∨ (code = 7 ∧ u.is (Reg.EXC_CFG.SENSE n))
    let ok := ok ∧ (code = 1 → u.is (Reg.EXC_STATUS.READY n))
    if u.is (Reg.EXC_CFG.EN n) ∧ ok then
      let u := if code = 7 then u.setExcOut n { u.excOut n with local_ := true } else u
      u.meetCode 3 n code
    else u

/-! ## Meanings -/

def execExcEnable (n : Nat) (s : State) : Host.Outcome State Fault Refusal := s.run (decide (n < 8)) fun u => u.excEnable n
def execExcDisable (n : Nat) (s : State) : Host.Outcome State Fault Refusal := s.run (decide (n < 8)) fun u => u.excDisable n
def execExcReady (n : Nat) (s : State) : Host.Outcome State Fault Refusal := s.run (decide (n < 8)) fun u => u.excReady n
def execExcMeasure (mv cur : List Nat) (mw : Nat) (s : State) : Host.Outcome State Fault Refusal :=
  s.run true fun u => u.excMeasure mv cur mw
def execExcShed (s : State) : Host.Outcome State Fault Refusal := s.run true fun u => u.excShed
def execTrgEnable (n : Nat) (s : State) : Host.Outcome State Fault Refusal := s.run (decide (n < 16)) fun u => u.trgEnable n
def execTrgDisable (n : Nat) (s : State) : Host.Outcome State Fault Refusal := s.run (decide (n < 16)) fun u => u.trgDisable n
def execTrgSetHigh (n : Nat) (s : State) : Host.Outcome State Fault Refusal := s.run (decide (n < 16)) fun u => u.trgPush 4 n 0
def execTrgSetLow (n : Nat) (s : State) : Host.Outcome State Fault Refusal := s.run (decide (n < 16)) fun u => u.trgPush 4 n 1
def execTrgSetToggle (n : Nat) (s : State) : Host.Outcome State Fault Refusal := s.run (decide (n < 16)) fun u => u.trgPush 4 n 2
def execTrgActionApply (q t : Nat) (s : State) : Host.Outcome State Fault Refusal :=
  s.run (decide (q < 5)) fun u => u.trgActionApply q t
def execTrgWidthReturn (n t : Nat) (s : State) : Host.Outcome State Fault Refusal :=
  s.run (decide (n < 16)) fun u => u.trgWidthReturn n t
def execTrgDeferredChange (n t : Nat) (s : State) : Host.Outcome State Fault Refusal :=
  s.run (decide (n < 16)) fun u => u.trgDeferredChange n t
def execOutputFaultDetect (trg : Bool) (n code : Nat) (s : State) : Host.Outcome State Fault Refusal :=
  s.run (decide (n < if trg then 16 else 8)) fun u => u.outputFault trg n code
def execExcFoldback (n : Nat) (s : State) : Host.Outcome State Fault Refusal := s.run (decide (n < 8)) fun u => u.excFoldback n
def execExcFoldbackEnd (n : Nat) (s : State) : Host.Outcome State Fault Refusal :=
  s.run (decide (n < 8)) fun u => u.excFoldbackEnd n
def execExcLatchOff (n : Nat) (s : State) : Host.Outcome State Fault Refusal := s.run (decide (n < 8)) fun u => u.excLatchOff n
def execExcRetry (n : Nat) (s : State) : Host.Outcome State Fault Refusal := s.run (decide (n < 8)) fun u => u.excRetry n
def execExcSenseRestore (n : Nat) (s : State) : Host.Outcome State Fault Refusal :=
  s.run (decide (n < 8)) fun u => u.excSenseRestore n
def execTrgLatchOff (n t : Nat) (s : State) : Host.Outcome State Fault Refusal := s.run (decide (n < 16)) fun u => u.trgLatchOff n t
def execTrgRetry (n t : Nat) (s : State) : Host.Outcome State Fault Refusal := s.run (decide (n < 16)) fun u => u.trgRetry n t

end Sys2Proof.Machine
end

