-- ==== Sys2Proof/Machine/AngleWheel.lean ====
section
/-! DEFINITION. Crank wheels and configuration of the angle engines (02_angle_bases.md R35 to R41, R37, R69): the pattern,
its gaps, interval classes and the checks made at EN 0→1. -/
namespace Sys2Proof.Machine

/-- ANG_STATUS.STATE codes (R55). -/
def stOff : Nat := 0
def stStopped : Nat := 1
def stSeek : Nat := 2
def stCrank : Nat := 3
def stFull : Nat := 4
def stSlaved : Nat := 5
def stFault : Nat := 6

def Units.angState (u : Units) (n : Nat) : Nat := u.rd (Reg.ANG_STATUS.STATE n)
def Units.angMode (u : Units) (n : Nat) : Nat := u.rd (Reg.ANG_CTRL.MODE n)
/-- N (R35). -/
def Units.wheelN (u : Units) (n : Nat) : Nat := u.rd (Reg.ANG_WHEEL_CFG.POSITIONS n)
/-- L (R36). -/
def Units.wheelL (u : Units) (n : Nat) : Nat := if u.is (Reg.ANG_WHEEL_CFG.SPAN n) then 737280 else 368640
/-- R35: position k carries a tooth. -/
def Units.tooth (u : Units) (n k : Nat) : Bool := bit (u.rd (Reg.ANG_WHEEL.POS n (k / 32))) (k % 32)

/-- A gap of the pattern: its first position, its width, and the teeth between the previous gap and it. -/
structure Gap where
  start : Nat
  width : Nat
  teeth : Nat
  deriving DecidableEq, Repr

/-- Missing positions in a row from position k on. -/
def missRun (p : Nat → Bool) (N k : Nat) : Nat → Nat
  | 0 => 0
  | f + 1 => if p (k % N) then 0 else 1 + missRun p N (k + 1) f

/-- Teeth in a row before position k. -/
def teethBefore (p : Nat → Bool) (N k : Nat) : Nat → Nat
  | 0 => 0
  | f + 1 => if p ((k + N - 1) % N) then 1 + teethBefore p N (k + N - 1) f else 0

/-- The gaps of a pattern in order of their first positions; a run that wraps through position 0 is one gap (R35). -/
def gapsOf (p : Nat → Bool) (N : Nat) : List Gap :=
  (List.range N).filterMap fun k =>
    if !p k && p ((k + N - 1) % N) then some { start := k, width := missRun p N k N, teeth := teethBefore p N k N } else none

def Units.gaps (u : Units) (n : Nat) : List Gap := gapsOf (u.tooth n) (u.wheelN n)

/-- The pattern's first gap is the one that holds the lowest-numbered missing position (R35): a wrapping gap holds 0. -/
def firstGapOf (N : Nat) (gs : List Gap) : Option Gap :=
  match gs.find? fun g => decide (g.start + g.width > N) with
  | some g => some g
  | none => gs.head?

/-- Widths of the gaps, without repeats. -/
def widths (gs : List Gap) : List Nat := (gs.map Gap.width).eraseDups

/-- Every gap has a distinct width (R37, R42). -/
def distinctWidths (gs : List Gap) : Bool := (widths gs).length == gs.length

/-- R37: the pattern is valid. -/
def Units.wheelValid (u : Units) (n : Nat) : Bool :=
  let N := u.wheelN n
  let gs := u.gaps n
  decide (2 ≤ N ∧ N ≤ 360) && decide (1 ≤ gs.length ∧ gs.length ≤ 4) &&
    gs.all (fun g => decide (1 ≤ g.width ∧ g.width ≤ 3) && decide (2 ≤ g.teeth)) &&
    (distinctWidths gs || ((gs.map fun g => (g.width, g.teeth)).eraseDups.length == gs.length))

/-- R36: floor(k L / N). -/
def Units.wheelAngle (u : Units) (n k : Nat) : Int := (k * u.wheelL n / u.wheelN n : Nat)

/-- The next tooth position after k, and the positions stepped. -/
def Units.nextTooth (u : Units) (n k : Nat) : Nat × Nat :=
  let N := u.wheelN n
  let m := missRun (u.tooth n) N (k + 1) N
  ((k + 1 + m) % N, m + 1)

/-- The tooth position before k, and the positions stepped. -/
def Units.prevTooth (u : Units) (n k : Nat) : Nat × Nat :=
  let N := u.wheelN n
  let back := (List.range N).find? fun j => u.tooth n ((k + N - 1 - j) % N)
  let j := back.getD 0
  ((k + N - 1 - j) % N, j + 1)

/-- Angle moved from position k over a number of positions forward. -/
def Units.wheelMove (u : Units) (n k steps : Nat) : Int :=
  let N := u.wheelN n
  u.wheelAngle n ((k + steps) % N) - u.wheelAngle n k + (((k + steps) / N : Nat) : Int) * (u.wheelL n : Int)

/-! ## Interval classes (R38) -/

inductive IntervalClass where
  | noise
  | tooth
  | gap (g : Nat)
  | long
  deriving DecidableEq, Repr

/-- r = T / T_ref compared with a 4.4 ratio times a factor: below it. -/
def ratioBelow (T : Nat) (ref : Nat × Nat) (fac ratio : Nat) : Bool := decide (16 * T * ref.2 < fac * ratio * ref.1)

/-- R38: the class of an interval T against the reference. -/
def Units.classify (u : Units) (n T : Nat) (ref : Nat × Nat) : IntervalClass :=
  if ratioBelow T ref 1 (u.rd (Reg.ANG_RATIO.TOOTH_LO n)) then .noise
  else if ratioBelow T ref 1 (u.rd (Reg.ANG_RATIO.TOOTH_HI n)) then .tooth
  else
    match (widths (u.gaps n)).find? fun g => !ratioBelow T ref (g + 1) (u.rd (Reg.ANG_RATIO.GAP_LO n)) &&
        ratioBelow T ref (g + 1) (u.rd (Reg.ANG_RATIO.GAP_HI n)) with
    | some g => .gap g
    | none => .long

/-- The positions an interval spans by its class (R38). -/
def IntervalClass.span : IntervalClass → Nat
  | .gap g => g + 1
  | _ => 1

/-- R41: the windows in force, low and high ends in sixteenths, overlap. -/
def windowsOverlap : List (Nat × Nat) → Bool
  | [] => false
  | (a, b) :: ws => ws.any (fun w => decide (a < w.2 ∧ w.1 < b)) || windowsOverlap ws

/-- R41: the ratio windows are unusable. -/
def Units.ratioBad (u : Units) (n : Nat) : Bool :=
  let tl := u.rd (Reg.ANG_RATIO.TOOTH_LO n); let th := u.rd (Reg.ANG_RATIO.TOOTH_HI n)
  let gl := u.rd (Reg.ANG_RATIO.GAP_LO n); let gh := u.rd (Reg.ANG_RATIO.GAP_HI n)
  decide (tl ≥ th) || decide (gl ≥ gh) ||
    windowsOverlap ((tl, th) :: (widths (u.gaps n)).map fun g => ((g + 1) * gl, (g + 1) * gh))

/-- The digital inputs an engine names in its mode (R34, R64, R65). -/
def Units.angSources (u : Units) (n : Nat) : List Nat :=
  match u.angMode n with
  | 0 => [u.rd (Reg.ANG_SRC.TOOTH n)] ++ (if u.is (Reg.ANG_SRC.CAM_EN n) then [u.rd (Reg.ANG_SRC.CAM n)] else []) ++
      (if u.rd (Reg.ANG_SRC.DIR_MODE n) = 2 then [u.rd (Reg.ANG_SRC.DIR n)] else [])
  | 2 => [u.rd (Reg.ANG_MSRC1.U n), u.rd (Reg.ANG_MSRC1.V n), u.rd (Reg.ANG_MSRC1.W n)]
  | 3 => [u.rd (Reg.ANG_MSRC0.A n), u.rd (Reg.ANG_MSRC0.B n), u.rd (Reg.ANG_MSRC0.Z n)]
  | _ => []

/-- The inputs whose fault report loses sync (05_harness_guard.md R133): not the cam and direction inputs. -/
def Units.angFaultSources (u : Units) (n : Nat) : List Nat :=
  if u.angMode n = 0 then [u.rd (Reg.ANG_SRC.TOOTH n)] else u.angSources n

/-- R46: the cam window is outside its bounds. -/
def Units.camBad (u : Units) (n : Nat) : Bool :=
  let lo : Int := u.rd (Reg.ANG_CAM_LO.ANGLE n); let hi : Int := u.rd (Reg.ANG_CAM_HI.ANGLE n)
  decide (hi < lo) || decide (hi ≥ u.cycleLen n) || (decide (lo < rev) != decide (hi < rev))

/-- The CFG_CODE of a configuration (R56, ANG_STATUS.CFG_CODE, R540: the lowest that applies). -/
def Units.angCode (u : Units) (n : Nat) : Nat :=
  let m := u.angMode n
  let cyc := u.is (Reg.ANG_CTRL.CYCLE n)
  let cam := u.is (Reg.ANG_SRC.CAM_EN n)
  let c := u.cycleLen n
  let src := (u.angSources n).any fun i => decide (48 ≤ i)
  if m = 0 ∧ ¬ u.wheelValid n then 1
  else if m = 0 ∧ u.ratioBad n then 2
  else if src ∨ (m = 0 ∧ cam ∧ u.rd (Reg.ANG_SRC.TOOTH n) = u.rd (Reg.ANG_SRC.CAM n)) then 3
  else if (m = 0 ∧ cyc ∧ ¬ u.is (Reg.ANG_WHEEL_CFG.SPAN n) ∧ ¬ cam) ∨ (1 ≤ m ∧ m ≤ 3 ∧ cyc) then 4
  else if (m = 0 ∧ ((u.rd (Reg.ANG_OFFSET.OFFSET n) : Int) ≥ c ∨ (cam ∧ u.camBad n)))
      ∨ ((m = 2 ∨ m = 3) ∧ (u.rd (Reg.ANG_MOFFSET.OFFSET n) : Int) ≥ c) then 5
  else if (m = 1 ∧ (u.rd (Reg.ANG_RES_CFG.FREQ n) > 16 ∨ u.rd (Reg.ANG_RES_CFG.AMP n) > 10 ∨ u.rd (Reg.ANG_RES_CFG.FN n) > 5))
      ∨ (m = 3 ∧ (u.rd (Reg.ANG_ENC_CFG.LINES n) = 0 ∨ u.rd (Reg.ANG_ENC_CFG.LINES n) > 16384)) then 6
  else 0

/-! ## Schedule entries (R66 to R69) -/

def SchedEntry.angle (e : SchedEntry) : Int := (e.a % 2 ^ 20 : Nat)
def SchedEntry.en (e : SchedEntry) : Bool := bit e.a 31
def SchedEntry.act (e : SchedEntry) : Nat := e.b % 16
def SchedEntry.evt (e : SchedEntry) : Bool := bit e.b 4
def SchedEntry.target (e : SchedEntry) : Nat := bits e.b 13 8
def SchedEntry.tag (e : SchedEntry) : Nat := bits e.b 31 16
/-- R66: the DIV and PHASE filter passes for a cycle number. -/
def SchedEntry.passes (e : SchedEntry) (cyc : Int) : Bool :=
  let m := 2 ^ bits e.a 22 20
  (cyc % 4096).toNat % m == bits e.a 29 23 % m

/-- R69: an entry is rejected. -/
def Units.entryBad (u : Units) (n : Nat) (e : SchedEntry) : Bool :=
  decide (e.angle ≥ u.cycleLen n) ||
  match e.act with
  | 0 => false
  | 1 => decide (e.target ≥ 32)
  | 2 | 3 | 4 | 5 => decide (e.target ≥ 16)
  | 6 => !u.basinPresent (e.target / 8)
  | 7 => decide (e.target ≥ 6)
  | 8 | 9 => false
  | _ => true

/-- Insert an entry behind those of lower or equal angle: entries with equal ANGLE keep index order (R70). -/
def insertEntry (e : SchedEntry) : List SchedEntry → List SchedEntry
  | [] => [e]
  | x :: xs => if e.angle < x.angle then e :: x :: xs else x :: insertEntry e xs

/-- The enabled entries of the shadow bank, in index order. -/
def AngEngine.shadow (e : AngEngine) : List SchedEntry :=
  (e.shadowA.filter fun p => bit p.2 31).map fun p => { idx := p.1, a := p.2, b := SMap.get 0 e.shadowB p.1 }

/-- Sorted by ANGLE. -/
def sortEntries (l : List SchedEntry) : List SchedEntry := l.foldl (fun acc e => insertEntry e acc) []

end Sys2Proof.Machine
end

