-- ==== Sys2Proof/Machine/Crypto.lean ====
section
/-! DEFINITION. The checks and hashes of the spec: CRC-32C (07_records.md R162), CRC-64 (18_persistent_config.md R446),
SHA-256 (FIPS 180-4, R162) and HMAC-SHA-256 (RFC 2104, 17_steward_and_sessions.md R425). Bytes are numbers below 256. -/
namespace Sys2Proof.Machine

/-! ## CRCs -/

/-- One bit of a reflected CRC-32C. -/
def crc32cBit (c : BitVec 32) : BitVec 32 := if c.getLsbD 0 then (c >>> 1) ^^^ 0x82F63B78#32 else c >>> 1

/-- Advance a reflected CRC-32C over one byte, with no inversion. -/
def crc32cByte (c : BitVec 32) (b : Nat) : BitVec 32 :=
  let c := c ^^^ BitVec.ofNat 32 (b % 256)
  crc32cBit (crc32cBit (crc32cBit (crc32cBit (crc32cBit (crc32cBit (crc32cBit (crc32cBit c)))))))

/-- CRC-32C of a byte string (R162): initial value and final XOR all ones. -/
def crc32c (bs : List Nat) : Nat := (bs.foldl crc32cByte 0xFFFFFFFF#32 ^^^ 0xFFFFFFFF#32).toNat

/-- One bit of the CRC-64, not reflected. -/
def crc64Bit (c : BitVec 64) : BitVec 64 := if c.getLsbD 63 then (c <<< 1) ^^^ 0x42F0E1EBA9EA3693#64 else c <<< 1

/-- Advance the CRC-64 over one byte. -/
def crc64Byte (c : BitVec 64) (b : Nat) : BitVec 64 :=
  let c := c ^^^ (BitVec.ofNat 64 (b % 256) <<< 56)
  crc64Bit (crc64Bit (crc64Bit (crc64Bit (crc64Bit (crc64Bit (crc64Bit (crc64Bit c)))))))

/-- CRC-64 of a byte string (R446): initial value 0, no final XOR. -/
def crc64 (bs : List Nat) : Nat := (bs.foldl crc64Byte 0#64).toNat

/-! ## SHA-256 -/

/-- The initial hash value H(0). -/
def shaInit : List (BitVec 32) := [
   0x6a09e667, 0xbb67ae85, 0x3c6ef372, 0xa54ff53a, 0x510e527f, 0x9b05688c, 0x1f83d9ab, 0x5be0cd19]

/-- The round constants. -/
def shaK : List (BitVec 32) := [
   0x428a2f98, 0x71374491, 0xb5c0fbcf, 0xe9b5dba5, 0x3956c25b, 0x59f111f1, 0x923f82a4, 0xab1c5ed5,
   0xd807aa98, 0x12835b01, 0x243185be, 0x550c7dc3, 0x72be5d74, 0x80deb1fe, 0x9bdc06a7, 0xc19bf174,
   0xe49b69c1, 0xefbe4786, 0x0fc19dc6, 0x240ca1cc, 0x2de92c6f, 0x4a7484aa, 0x5cb0a9dc, 0x76f988da,
   0x983e5152, 0xa831c66d, 0xb00327c8, 0xbf597fc7, 0xc6e00bf3, 0xd5a79147, 0x06ca6351, 0x14292967] ++ [
   0x27b70a85, 0x2e1b2138, 0x4d2c6dfc, 0x53380d13, 0x650a7354, 0x766a0abb, 0x81c2c92e, 0x92722c85,
   0xa2bfe8a1, 0xa81a664b, 0xc24b8b70, 0xc76c51a3, 0xd192e819, 0xd6990624, 0xf40e3585, 0x106aa070,
   0x19a4c116, 0x1e376c08, 0x2748774c, 0x34b0bcb5, 0x391c0cb3, 0x4ed8aa4a, 0x5b9cca4f, 0x682e6ff3,
   0x748f82ee, 0x78a5636f, 0x84c87814, 0x8cc70208, 0x90befffa, 0xa4506ceb, 0xbef9a3f7, 0xc67178f2]

/-- A big-endian word from four bytes. -/
def beWord : List Nat → BitVec 32
  | [a, b, c, d] => BitVec.ofNat 32 (((a * 256 + b) * 256 + c) * 256 + d)
  | _ => 0

/-- n words of a byte string. -/
def beWords : Nat → List Nat → List (BitVec 32)
  | 0, _ => []
  | n + 1, bs => beWord (bs.take 4) :: beWords n (bs.drop 4)

/-- The message schedule, newest word first, extended n times. -/
def shaSchedule : Nat → List (BitVec 32) → List (BitVec 32)
  | 0, w => w
  | n + 1, w =>
    let x15 := w.getD 14 0; let x2 := w.getD 1 0
    let s0 := x15.rotateRight 7 ^^^ x15.rotateRight 18 ^^^ (x15 >>> 3)
    let s1 := x2.rotateRight 17 ^^^ x2.rotateRight 19 ^^^ (x2 >>> 10)
    shaSchedule n ((w.getD 15 0 + s0 + w.getD 6 0 + s1) :: w)

/-- One round. -/
def shaRound (st : List (BitVec 32)) (kw : BitVec 32 × BitVec 32) : List (BitVec 32) :=
  match st with
  | [a, b, c, d, e, f, g, h] =>
    let s1 := e.rotateRight 6 ^^^ e.rotateRight 11 ^^^ e.rotateRight 25
    let t1 := h + s1 + ((e &&& f) ^^^ (~~~e &&& g)) + kw.1 + kw.2
    let s0 := a.rotateRight 2 ^^^ a.rotateRight 13 ^^^ a.rotateRight 22
    let t2 := s0 + ((a &&& b) ^^^ (a &&& c) ^^^ (b &&& c))
    [t1 + t2, a, b, c, d + t1, e, f, g]
  | _ => st

/-- Compress one 64-byte block. -/
def shaBlock (st : List (BitVec 32)) (block : List Nat) : List (BitVec 32) :=
  let w := (shaSchedule 48 (beWords 16 block).reverse).reverse
  List.zipWith (· + ·) st ((shaK.zip w).foldl shaRound st)

/-- Compress n blocks of a byte string. -/
def shaBlocks : Nat → List (BitVec 32) → List Nat → List (BitVec 32)
  | 0, st, _ => st
  | n + 1, st, bs => shaBlocks n (shaBlock st (bs.take 64)) (bs.drop 64)

/-- Big-endian bytes of a number. -/
def beBytes : Nat → Nat → List Nat
  | 0, _ => []
  | n + 1, v => v / 256 ^ n % 256 :: beBytes n v

/-- The digest of a state: each word most significant byte first. -/
def shaDigest (st : List (BitVec 32)) : List Nat := st.flatMap fun w => beBytes 4 w.toNat

/-- SHA-256 of a byte string. -/
def sha256 (bs : List Nat) : List Nat :=
  let n := bs.length
  let z := (119 - n % 64) % 64
  let m := bs ++ 0x80 :: List.replicate z 0 ++ beBytes 8 (8 * n)
  shaDigest (shaBlocks (m.length / 64) shaInit m)

/-- HMAC-SHA-256. -/
def hmacSha256 (key msg : List Nat) : List Nat :=
  let k := if key.length > 64 then sha256 key else key
  let k := k ++ List.replicate (64 - k.length) 0
  sha256 (k.map (fun b => b ^^^ 0x5C) ++ sha256 (k.map (fun b => b ^^^ 0x36) ++ msg))

/-- The bytes of an ASCII string. -/
def ascii (s : String) : List Nat := s.toList.map Char.toNat

end Sys2Proof.Machine
end

