-- ==== Sys2Proof/Machine/Queue.lean ====
section
/-! DEFINITION. The queues of the dock and the twin link, and the frame layer of the twin link (16_networks.md R408 to
R410). -/
namespace Sys2Proof.Machine

def Units.send (u : Units) (m : OutMsg) : Units := { u with out := u.out ++ [m] }

/-! ## The twin link's frames (R409, R410) -/

def Units.laneUp (u : Units) (l : Nat) : Bool := l < 2 && bit (u.rd Reg.TWN_STATUS.LANEUP) l

/-- The lane a frame goes out on: the lowest lane that is up; 2 for none. -/
def Units.freeLane (u : Units) : Nat := if u.laneUp 0 then 0 else if u.laneUp 1 then 1 else 2

/-- The bytes of a twin frame. -/
def twinBytes (type seq ack : Nat) (payload : List Nat) : List Nat :=
  let f := [type, 0] ++ leBytes 2 seq ++ leBytes 2 payload.length ++ leBytes 2 ack ++ payload
  f ++ leBytes 4 (crc32c f)

/-- Move a frame from one lane to another. -/
def twinMove (a b : Nat) (f : TwinTx) : TwinTx := if f.lane = a then { f with lane := b, tries := 0 } else f

def Units.moveLane (u : Units) (a b : Nat) : Units :=
  { u with twl := { u.twl with unacked := u.twl.unacked.map (twinMove a b) } }

/-- Put a frame on its lane. -/
def Units.twinPut (u : Units) (f : TwinTx) : Units :=
  if f.lane < 2 then u.send (.twinFrame f.lane (twinBytes f.type f.seq u.twl.acked f.payload)) else u

/-- Send a frame: it is kept until acknowledged; with no lane up it waits for one. -/
def Units.twinSend (u : Units) (type : Nat) (payload : List Nat) : Units :=
  let f : TwinTx := { seq := u.twl.seq, type := type, payload := payload, lane := u.freeLane }
  ({ u with twl := { u.twl with seq := (u.twl.seq + 1) % 65536, unacked := u.twl.unacked ++ [f] } }).twinPut f

/-- Frames waiting for a lane go out on the lane that is up now. -/
def Units.twinResume (u : Units) : Units :=
  let l := u.freeLane
  if l = 2 then u
  else
    let wait := u.twl.unacked.filter fun f => decide (f.lane = 2)
    (u.moveLane 2 l).each wait fun u f => u.twinPut { f with lane := l }

/-- R459: an attached follower detaches with a cause. -/
def Units.twinDetach (u : Units) (cause : Nat) : Units :=
  if u.rd Reg.TWN_PAIR.ROLE = 2 ∧ u.is Reg.TWN_PAIR.ATTACHED then
    ((u.wr Reg.TWN_PAIR.ATTACHED 0).count Reg.TWN_DETACHES.COUNT Reg.TWN_DETACHES.OVF).emit 0xB004 0x03 cause
  else u

/-- TWN_STATUS.PARTNER clears. -/
def Units.partnerLost (u : Units) : Units :=
  if u.is Reg.TWN_STATUS.PARTNER then
    (({ u with twl := { u.twl with hello := none } }.wr Reg.TWN_STATUS.PARTNER 0).emit 0x9031 0x03 0).twinDetach 4
  else u

/-- R409: a lane goes down; its frames move to a lane that is up, and the partner is absent once no lane is up. -/
def Units.twinLaneDown (u : Units) (l : Nat) : Units :=
  let up := u.rd Reg.TWN_STATUS.LANEUP
  if bit up l then
    let u := (u.wr Reg.TWN_STATUS.LANEUP (up - 2 ^ l)).emit 0x9031 0x02 l
    let n := u.freeLane
    let u := u.moveLane l n
    if n = 2 then u.partnerLost else u
  else u

/-- R410: the oldest unacknowledged frame is sent again after 20 us, up to 8 times; then its lane goes down and it is
resent on the other lane. -/
def Units.twinRetry (u : Units) : Units :=
  match u.twl.unacked with
  | [] => u
  | f :: fs =>
    if f.lane = 2 then u
    else if f.tries < 8 then
      let g := { f with tries := f.tries + 1 }
      (({ u with twl := { u.twl with unacked := g :: fs } }).count Reg.TWN_RETRY.COUNT Reg.TWN_RETRY.OVF).twinPut g
    else
      let u := (u.emit 0x9031 0x04 (f.lane + f.seq * 2 ^ 16)).twinLaneDown f.lane
      match u.twl.unacked with
      | [] => u
      | g :: _ => u.twinPut g

/-! ## Queues (R408) -/

def qKey (twin : Bool) (q : Nat) : Nat := q + (if twin then 4 else 0)
def Units.xq (u : Units) (twin : Bool) (q : Nat) : XQueue := SMap.get {} u.queue (qKey twin q)
def Units.setXq (u : Units) (twin : Bool) (q : Nat) (x : XQueue) : Units := { u with queue := SMap.set {} u.queue (qKey twin q) x }

/-- The queue is on: a dock queue by its EN, a twin queue always. -/
def Units.queueOn (u : Units) (twin : Bool) (q : Nat) : Bool := twin || u.is (Reg.DOCK_QCFG.EN q)

/-- BYTES of a header word. -/
def headBytes (w : Nat) : Nat := w % 2 ^ 14
/-- Data bytes a list of frames holds. -/
def frameBytes (l : List (List Nat)) : Nat := l.foldl (fun a f => a + headBytes (f.headD 0)) 0

/-- 32-bit words of a byte string, the last padded with zeros. -/
def packWords : Nat → List Nat → List Nat
  | 0, _ => []
  | n + 1, bs => leNat (bs.take 4) :: packWords n (bs.drop 4)
def bytesToWords (bs : List Nat) : List Nat := packWords ((bs.length + 3) / 4) bs
def wordsToBytes (ws : List Nat) : List Nat := ws.flatMap (leBytes 4)

/-- A frame that finds no room or no host: dropped and counted; QUEUE_OVF at most once per millisecond. -/
def Units.queueDrop (u : Units) (twin : Bool) (q : Nat) (send ovf : Bool) : Units :=
  let u := if twin then u.count (Reg.TWN_QDROP.COUNT q) (Reg.TWN_QDROP.OVF q) else u.count (Reg.DOCK_QDROP.COUNT q) (Reg.DOCK_QDROP.OVF q)
  let x := u.xq twin q
  let quiet : Bool := match x.lastOvf with | some t => decide (u.clock < t + 400000) | none => false
  if ovf ∧ ¬ quiet then
    (u.setXq twin q { x with lastOvf := some u.clock }).emit (if twin then 0x9031 else 0x9030) 0x06 (q + b2n send * 2 ^ 8)
  else u

/-- R408: a received frame enters a queue, as a header word, a second word and its data words. -/
def Units.queueRx (u : Units) (twin : Bool) (q lane port : Nat) (bytes : List Nat) : Units :=
  let x := u.xq twin q
  if (x.rx.map Prod.fst).sum + bytes.length ≤ 65536 then
    let f := (bytes.length + lane * 2 ^ 14 + 2 ^ 31) :: port :: bytesToWords bytes
    u.setXq twin q { x with rx := x.rx ++ [(bytes.length, f)] }
  else u.queueDrop twin q false true

/-- R408: a read of the window pops one word; 0 with no frame queued. -/
def Units.queuePop (u : Units) (twin : Bool) (q : Nat) : Nat × Units :=
  let x := u.xq twin q
  match x.rx with
  | (n, w :: v :: ws) :: fs => (w, u.setXq twin q { x with rx := (n, v :: ws) :: fs })
  | (_, [w]) :: fs => (w, u.setXq twin q { x with rx := fs })
  | _ => (0, u)

/-- R408: a complete frame leaves a dock queue: to the host the queue last heard from, held while its lane is paused
(R405). -/
def Units.dockSend (u : Units) (q : Nat) (f : List Nat) : Units :=
  let x := u.xq false q
  let n := headBytes (f.headD 0)
  match x.host with
  | none => u.queueDrop false q true false
  | some (lane, host) =>
    if bit u.paused lane ∨ x.held ≠ [] then
      if frameBytes x.held + n ≤ 65536 then u.setXq false q { x with held := x.held ++ [f] } else u.queueDrop false q true true
    else u.send (.dockData lane host (u.rd (Reg.DOCK_QCFG.PORT q)) (f.getD 1 0 % 65536) ((wordsToBytes (f.drop 2)).take n))

/-- R408, R410: a complete frame leaves a twin queue as a queue-data frame. -/
def Units.twinQueueSend (u : Units) (q : Nat) (f : List Nat) : Units :=
  let n := headBytes (f.headD 0)
  let held := u.twl.unacked.foldl (fun a t => if t.type = 4 ∧ t.payload.head? = some q then a + (t.payload.length - 1) else a) 0
  if held + n ≤ 65536 then u.twinSend 0x04 (q :: (wordsToBytes (f.drop 2)).take n) else u.queueDrop true q true true

/-- R408: a write to the window pushes one word; the frame is sent when its last word has been pushed. A header word that
names no frame of 1 to 8,192 bytes starts none. -/
def Units.queuePush (u : Units) (twin : Bool) (q w : Nat) : Units :=
  let x := u.xq twin q
  if ¬ u.queueOn twin q then u
  else
    let tx := x.tx ++ [w % 2 ^ 32]
    let n := headBytes (tx.headD 0)
    if ¬ bit (tx.headD 0) 31 ∨ n = 0 ∨ n > 8192 then u.setXq twin q { x with tx := [] }
    else if tx.length = 2 + (n + 3) / 4 then
      let u := u.setXq twin q { x with tx := [] }
      if twin then u.twinQueueSend q tx else u.dockSend q tx
    else u.setXq twin q { x with tx := tx }

/-! ## Meanings -/

def execQueuePop (twin : Bool) (q : Nat) (s : State) : Host.Outcome State Fault Refusal :=
  s.run (decide (q < 4)) fun u => let r := u.queuePop twin q; { r.2 with rdata := r.1 }
def execQueuePush (twin : Bool) (q w : Nat) (s : State) : Host.Outcome State Fault Refusal :=
  s.run (decide (q < 4)) fun u => u.queuePush twin q w
def execTwinRetryTimeout (s : State) : Host.Outcome State Fault Refusal := s.run true fun u => u.twinRetry

end Sys2Proof.Machine
end

