-- ==== Sys2Proof/Machine/Angle.lean ====
section
/-! DEFINITION. The angle engines (02_angle_bases.md R28 to R78): decoder states, sync, the cam input, extrapolation,
motor bases, the schedule, its banks and the deadline slots. -/
namespace Sys2Proof.Machine

/-- The engine's event source. -/
def Units.angEvent (u : Units) (n kind pay : Nat) : Units := u.emit (0x1000 + n) kind pay

/-! ## Publishing the angle (R30, R32, R57, R58) -/

/-- The stretch in force now. -/
def Units.segNow (u : Units) (n : Nat) : Option Seg := segAt (u.eng n).segs u.clock

/-- Keep the stretches that reach into the last 512 ticks (R87). -/
def pruneSegs (now : Nat) : List Seg → List Seg
  | [] => []
  | s :: ss => if s.start + 512 ≤ now then [s] else s :: pruneSegs now ss

/-- The register view of the angle at a tick: ANG_WORD and ANG_CRANK. -/
def Units.angPublish (u : Units) (n : Nat) : Units :=
  let s := u.segNow n
  let full := match s with | some s => s.full | none => false
  let crank := match s with | some s => s.crank | none => false
  let x := match s with | some s => s.value u.clock | none => 0
  let u := u.wr (Reg.ANG_WORD.WORD n) (if full then wordOf (u.cycleLen n) x else noAngle)
  (u.wr (Reg.ANG_CRANK.ANGLE n) (if crank then (x % rev).toNat else 0)).wrb (Reg.ANG_CRANK.VALID n) crank

/-- Start a new stretch now. -/
def Units.pushSeg (u : Units) (n : Nat) (s : Seg) : Units :=
  let e := u.eng n
  let u := u.setEng n { e with segs := pruneSegs u.clock ({ s with start := u.clock } :: e.segs) }
  u.angPublish n

/-- A still stretch at an absolute angle. -/
def stillSeg (x : Int) (full crank : Bool) : Seg :=
  { start := 0, theta := x, t0 := 0, w0 := 0, a := 0, cap := x, floor := x, full := full, crank := crank }

/-- The angle is valid now. -/
def Units.angValid (u : Units) (n : Nat) : Bool := match u.segNow n with | some s => s.full | none => false

/-! ## Banks (R70) -/

/-- Exchange the banks and emit BANK_SWAP. -/
def Units.bankSwap (u : Units) (n : Nat) : Units :=
  let e := u.eng n
  let u := u.setEng n { e with active := e.inactive, inactive := e.active, ptr := 0 }
  let b := 1 - u.rd (Reg.ANG_STATUS.BANK n)
  let u := (u.wr (Reg.ANG_STATUS.BANK n) b).wr (Reg.ANG_STATUS.PENDING n) 0
  u.angEvent n 0x0B (b + e.rejected % 1024 * 2 ^ 16)

/-- The angle word becomes invalid in this tick, for whatever reason: the last CYCLE is kept for R45, a pending bank is
exchanged at once (R70), and angle-clock windows on the base are lost (04_acquisition.md R114); a slaved base
detaches a follower (19_twin_mode.md R459). -/
def Units.angInvalidate (u : Units) (n : Nat) : Units :=
  let was := u.angValid n
  let e := u.eng n
  let e := if was then { e with lastCycle := u.angleWord n u.clock / 2 ^ 20 } else e
  let u := (u.setEng n e).pushSeg n (stillSeg 0 false false)
  let u := if u.is (Reg.ANG_STATUS.PENDING n) then u.bankSwap n else u
  let u := if was ∧ u.angMode n = 4 then u.twinDetach 2 else u
  if was then u.aclkLost n else u

/-- Entries of the active bank that would issue among those the angle has reached or passed (R50). -/
def Units.unissued (u : Units) (n : Nat) : Nat :=
  let e := u.eng n
  match u.absAngle n u.clock with
  | none => 0
  | some x =>
    ((e.active.drop e.ptr).filter fun s => decide (e.cyc * u.cycleLen n + s.angle ≤ x) && s.passes e.cyc).length

/-- Arm the schedule at an absolute angle (R74): entries at or above it fire in this cycle. -/
def Units.armAt (u : Units) (n : Nat) (x : Int) : Units :=
  let e := u.eng n
  let c := u.cycleLen n
  u.setEng n { e with cyc := x / c, ptr := (e.active.takeWhile fun s => decide (s.angle < x % c)).length, validFrom := x }

/-! ## Sync (R42 to R50) -/

/-- Forget the identification under way. -/
def AngEngine.restart (e : AngEngine) : AngEngine :=
  { e with pos := none, confirming := false, firstGap := none, charges := 0, camSeen := [] }

/-- R50: sync is lost with a cause. -/
def Units.syncLost (u : Units) (n cause : Nat) : Units :=
  let d := u.unissued n
  let u := u.angInvalidate n
  let u := u.angEvent n 0x04 (cause + d * 2 ^ 16)
  let u := u.count (Reg.ANG_SYNCLOSS.COUNT n) (Reg.ANG_SYNCLOSS.OVF n)
  let u := u.setEng n { (u.eng n).restart with seekEdges := 0, contraryRun := 0, missingRun := 0, held := 0, resLock := 0 }
  u.wr (Reg.ANG_STATUS.STATE n) stSeek

/-- R45: the cycle number taken on entering FULL_SYNC. -/
def Units.entryCycleNo (u : Units) (n : Nat) : Nat :=
  let e := u.eng n
  if e.fresh then 0 else (e.lastCycle + 1) % 4096

/-- R45, R47, R74: enter FULL_SYNC with the angle within the cycle now `x`; the absolute angle is counted from the new
cycle number. -/
def Units.enterFull (u : Units) (n : Nat) (abs : Int) : Units :=
  let q := (u.rd (Reg.ANG_SYNCSEQ.SEQ n) + 1) % 65536
  let e := u.eng n
  let u := u.wr (Reg.ANG_SYNCSEQ.SEQ n) q
  let u := if q = 0 then u.angEvent n 0x0D 0 else u
  let u := u.setEng n { e with fresh := false, contraryRun := 0, missingRun := 0, cycContrary := false, cycInside := false,
                               entryCycle := true }
  let u := (u.wr (Reg.ANG_STATUS.STATE n) stFull).armAt n abs
  u.angEvent n 0x03 (satN 16 e.seekEdges * 2 ^ 16 + q)

/-- A contact of the harness guard reports a code that keeps a source out of sync (05_harness_guard.md R133). -/
def syncCode (c : Nat) : Bool := c == 1 || c == 2 || c == 3 || c == 5

/-- An input of the engine reports a code that loses sync. -/
def Units.sourceFaulted (u : Units) (n : Nat) : Bool :=
  if u.angMode n = 1 then syncCode (u.rd (Reg.ANG_RES_FAULT.NOW (u.rd (Reg.ANG_RES_CFG.SEL n))))
  else (u.angFaultSources n).any fun i => syncCode (u.rd (Reg.DIN_FAULT.NOW i))

/-! ## Speed (R51, R57) -/

/-- Counts per CD03 tick to units of 1/16 rpm: 1 rpm is 6,144 ac/s; 4 x 10^8 ticks per second. -/
def speedOf (w : Rat) : Nat := (w * 16 * 400000000 / 6144).floor.toNat

/-- ANG_SPEED, OVERSPEED and ANG_PERIOD after an accepted interval. -/
def Units.angSpeed (u : Units) (n T : Nat) (w : Rat) : Units :=
  let v := speedOf (if w < 0 then -w else w)
  let u := (u.wr (Reg.ANG_SPEED.SPEED n) (satN 24 v)).wr (Reg.ANG_PERIOD.TICKS n) (satN 32 T)
  if v > 480000 then u.wr (Reg.ANG_STATUS.OVERSPEED n) 1 else u

/-- R51: a speed below MIN_RPM; 0 disables the test. -/
def Units.tooSlow (u : Units) (n : Nat) (w : Rat) : Bool :=
  let m := u.rd (Reg.ANG_STALL.MIN_RPM n)
  decide (m ≠ 0) && decide ((if w < 0 then -w else w) * 400000000 < (m * 6144 : Nat))

/-- A_MAX in counts per tick squared: 245,760,000 ac/s^2 (R57). -/
def aMax : Rat := 245760000 / (400000000 * 400000000)

def clampR (m x : Rat) : Rat := if x > m then m else if x < -m then -m else x

/-- R57: the motion from an accepted edge at absolute angle th, dated t0, with the next edge at `next`. -/
def Units.moveSeg (u : Units) (n : Nat) (th t0 next : Int) (w : Rat) (T : Nat) (full : Bool) : Units :=
  let e := u.eng n
  let acc := u.is (Reg.ANG_CTRL.ACC_EN n)
  let a : Rat := match e.wPrev, acc with
    | some (wp, tp), true => clampR aMax ((w - wp) / (((T : Rat) + (tp : Rat)) / 2))
    | _, _ => 0
  let w0 := w + a * (T : Rat) / 2
  let shown := match u.segNow n with
    | some s => if s.full || s.crank then s.value (u.clock - 1) else th
    | none => th
  let u := u.wr (Reg.ANG_ACCEL.ACCEL n) (ofInt 32 (a * 160000000000000000 / 6144).floor)
  u.pushSeg n { start := 0, theta := th, t0 := t0, w0 := w0, a := a, cap := next - 1, floor := shown, full := full, crank := true }

/-! ## Stopping (R51, R52, R53, R59) -/

/-- Enter STOPPED. Without direction sensing the angle becomes invalid; otherwise it is held and moves only at edges. -/
def Units.enterStopped (u : Units) (n : Nat) : Units :=
  let st := u.angState n
  let keeps := (u.rd (Reg.ANG_SRC.DIR_MODE n) ≠ 0 ∨ u.angMode n ≠ 0) ∧ (st = stCrank ∨ st = stFull)
  let u := if keeps then
      let x := match u.segNow n with | some s => s.value u.clock | none => 0
      (u.setEng n { u.eng n with held := st, wPrev := none }).pushSeg n (stillSeg x (st = stFull) true)
    else (u.setEng n { (u.eng n).restart with held := 0, ref := none, wPrev := none }).angInvalidate n
  let u := (u.wr (Reg.ANG_STATUS.STATE n) stStopped).wr (Reg.ANG_SPEED.SPEED n) 0
  u.angEvent n 0x05 (b2n (u.angValid n))

/-- R51: the stall time has passed. The sender's command is its passing; before the first accepted edge it does not run.
A motor base stops when its speed has been below MIN_RPM for STALL (R59). -/
def Units.angStallTimeout (u : Units) (n t : Nat) : Units :=
  let u := u.advance t
  let st := u.angState n
  if (u.eng n).lastEdge.isSome ∧ (if u.angMode n = 0 then st = stSeek ∨ st = stCrank ∨ st = stFull else st = stFull) then u.enterStopped n else u

/-! ## The cam input (R46 to R48) -/

/-- The crank angle of a cam edge lies in the window modulo one revolution. -/
def Units.camInCrank (u : Units) (n : Nat) (x : Int) : Bool :=
  let lo : Int := u.rd (Reg.ANG_CAM_LO.ANGLE n); let hi : Int := u.rd (Reg.ANG_CAM_HI.ANGLE n)
  decide (lo % rev ≤ x % rev) && decide (x % rev ≤ hi % rev)

/-- The revolution that contains the window: false the first, true the second. -/
def Units.camRev (u : Units) (n : Nat) : Bool := decide ((u.rd (Reg.ANG_CAM_LO.ANGLE n) : Int) ≥ rev)

/-- Move the engine's absolute counting by a number of counts. -/
def Units.shiftAbs (u : Units) (n : Nat) (d : Int) (full : Bool) : Units :=
  let e := u.eng n
  let u := u.setEng n { e with absEdge := e.absEdge + d }
  match u.segNow n with
  | some s => u.pushSeg n { s with theta := s.theta + d, cap := s.cap + d, floor := s.floor + d, full := full }
  | none => u

/-- The shift that puts the present absolute angle x into revolution `second` of the cycle numbered by R45. -/
def Units.phaseShift (u : Units) (n : Nat) (x : Int) (second : Bool) : Int :=
  (u.entryCycleNo n : Int) * u.cycleLen n + (if second then rev else 0) + x % rev - x

/-- The phase is decided: FULL_SYNC (R46). -/
def Units.decidePhase (u : Units) (n : Nat) (second : Bool) : Units :=
  match u.segNow n with
  | none => u
  | some s =>
    let u := u.shiftAbs n (u.phaseShift n (s.value u.clock) second) true
    match u.segNow n with
    | some s => u.enterFull n (s.value u.clock)
    | none => u

/-- R46, R47: a cam edge is judged. -/
def Units.angCamEdge (u : Units) (n t : Nat) : Units :=
  let u := u.advance t
  let e := u.eng n
  let st := u.angState n
  if u.angMode n ≠ 0 ∨ ¬ u.is (Reg.ANG_SRC.CAM_EN n) then u
  else if st = stSeek then
    if e.confirming then
      let x := match u.segNow n with | some s => s.value u.clock | none => 0
      if u.camInCrank n x then u.setEng n { e with camSeen := e.camSeen ++ [decide ((x / rev) % 2 = 1)] } else u
    else u
  else if st = stCrank then
    match u.segNow n with
    | some s => if u.camInCrank n (s.value u.clock) then u.decidePhase n (u.camRev n) else u
    | none => u
  else if st = stFull then
    match u.absAngle n u.clock with
    | none => u
    | some x =>
      let c := u.cycleLen n
      let a := x % c
      let lo : Int := u.rd (Reg.ANG_CAM_LO.ANGLE n); let hi : Int := u.rd (Reg.ANG_CAM_HI.ANGLE n)
      let inWin (v : Int) : Bool := decide (lo ≤ v) && decide (v ≤ hi)
      if inWin a then
        let u := (u.wr (Reg.ANG_CAMPHASE.ANGLE n) a.toNat).wr (Reg.ANG_CAMPHASE.VALID n) 1
        (u.wr (Reg.ANG_STATUS.CAMVALID n) 1).setEng n { e with cycInside := true }
      else if inWin ((a + rev) % c) then
        let u := u.count (Reg.ANG_CAMERR.COUNT n) (Reg.ANG_CAMERR.OVF n)
        (u.setEng n { e with cycContrary := true }).angEvent n 0x09 a.toNat
      else u.count (Reg.ANG_CAMERR.COUNT n) (Reg.ANG_CAMERR.OVF n)
  else u

/-! ## Gaining sync (R44 to R46) -/

/-- The engine gains sync at an accepted edge of position p dated t0, with the angle from its interval. -/
def Units.gainSync (u : Units) (n p : Nat) (t0 : Int) (w : Rat) (T : Nat) : Units :=
  let e := u.eng n
  let off : Int := u.rd (Reg.ANG_OFFSET.OFFSET n)
  let span1 := u.is (Reg.ANG_WHEEL_CFG.SPAN n)
  let cyc := u.is (Reg.ANG_CTRL.CYCLE n)
  let c := u.cycleLen n
  let step := u.wheelMove n p (u.nextTooth n p).2
  let base := off + u.wheelAngle n p
  if span1 ∨ ¬ cyc then
    let abs := (u.entryCycleNo n : Int) * c + base % c
    let u := u.setEng n { e with pos := some p, confirming := false, charges := 0, absEdge := abs }
    let u := (u.pushSeg n (stillSeg abs false false)).moveSeg n abs t0 (abs + step) w T true
    match u.segNow n with | some s => u.enterFull n (s.value u.clock) | none => u
  else
    let abs0 := if e.confirming then e.absEdge else base % rev
    let u := u.setEng n { e with pos := some p, confirming := false, charges := 0, absEdge := abs0 }
    let u := (u.pushSeg n (stillSeg abs0 false false)).moveSeg n abs0 t0 (abs0 + step) w T false
    -- Each cam edge seen names the revolution in progress at that edge as the one that holds the window (R46).
    let names := e.camSeen.map fun r => r != u.camRev n
    match names with
    | [] =>
      (u.wr (Reg.ANG_STATUS.STATE n) stCrank).angEvent n 0x02 e.identPos
    | r :: rs =>
      let bad := (rs.filter fun x => x != r).length
      if bad = 0 then
        match u.segNow n with
        | some s => u.decidePhase n (decide ((s.value u.clock / rev) % 2 = 1) != r)
        | none => u
      else
        let u := u.countN (Reg.ANG_CAMERR.COUNT n) (Reg.ANG_CAMERR.OVF n) bad
        (u.wr (Reg.ANG_STATUS.STATE n) stCrank).angEvent n 0x02 e.identPos

/-- The tooth position at which a gap ends. -/
def Units.gapEnd (u : Units) (n : Nat) (g : Gap) : Nat := (g.start + g.width) % u.wheelN n

/-- R43: an unexpected outcome of the confirmation: identification starts again from this edge. -/
def Units.confirmFail (u : Units) (n : Nat) : Units :=
  (u.count (Reg.ANG_MISMATCH.COUNT n) (Reg.ANG_MISMATCH.OVF n)).setEng n (u.eng n).restart

/-- R42: the edge that ends a gap identifies position p: sync is gained at once, or confirmation begins. -/
def Units.identified (u : Units) (n p : Nat) (t0 : Int) (w : Rat) (T : Nat) : Units :=
  let e := u.eng n
  let u := u.setEng n { e with identPos := p, firstGap := none }
  if u.is (Reg.ANG_WHEEL_CFG.CONFIRM n) then
    let abs := ((u.rd (Reg.ANG_OFFSET.OFFSET n) : Int) + u.wheelAngle n p) % rev
    let step := u.wheelMove n p (u.nextTooth n p).2
    let u := u.setEng n { u.eng n with pos := some p, confirming := true, charges := 0, camSeen := [], absEdge := abs }
    let u := (u.pushSeg n (stillSeg abs false false)).moveSeg n abs t0 (abs + step) w T false
    match u.segNow n with | some s => u.pushSeg n { s with crank := false } | none => u
  else u.gainSync n p t0 w T

/-- The expectation after position p: the width of the gap that follows, or none when a tooth follows. -/
def Units.expectGap (u : Units) (n p : Nat) : Option Nat :=
  let m := (u.nextTooth n p).2
  if m = 1 then none else some (m - 1)

/-- Advance to the next tooth position at an accepted edge, keeping the angle; charges restart at the first tooth after
the pattern's first gap (R49). -/
def Units.advancePos (u : Units) (n p : Nat) (t0 : Int) (T : Nat) (full crank : Bool) : Units :=
  let (p', k) := u.nextTooth n p
  let d := u.wheelMove n p k
  let w : Rat := (d : Rat) / (T : Rat)
  let e := u.eng n
  let abs := e.absEdge + d
  let restart := match firstGapOf (u.wheelN n) (u.gaps n) with | some g => u.gapEnd n g == p' | none => false
  let u := u.setEng n { e with pos := some p', absEdge := abs, charges := if restart then 0 else e.charges }
  let u := u.moveSeg n abs t0 (abs + u.wheelMove n p' (u.nextTooth n p').2) w T full
  match u.segNow n, crank with
  | some s, false => u.pushSeg n { s with crank := false }
  | _, _ => u

/-- A charge against SYNC_TOL (R43, R49). -/
def Units.charge (u : Units) (n : Nat) : Units := u.setEng n { u.eng n with charges := (u.eng n).charges + 1 }
def Units.overTol (u : Units) (n : Nat) : Bool := decide ((u.eng n).charges > u.rd (Reg.ANG_WHEEL_CFG.SYNC_TOL n))

/-- R42: identification takes one classified interval. -/
def Units.seekInterval (u : Units) (n : Nat) (cl : IntervalClass) (t0 : Int) (w : Rat) (T : Nat) : Units :=
  let e := u.eng n
  let gs := u.gaps n
  match cl with
  | .noise => u
  | .tooth => u.setEng n { e with firstGap := e.firstGap.map fun p => (p.1, p.2 + 1) }
  | .long => u.setEng n { e with firstGap := none }
  | .gap g =>
    if distinctWidths gs then
      match gs.find? fun x => x.width == g with
      | some x => u.identified n (u.gapEnd n x) t0 w T
      | none => u
    else
      match e.firstGap with
      | none => u.setEng n { e with firstGap := some (g, 0) }
      | some (_, k) =>
        match gs.find? fun x => x.width == g && x.teeth == k + 1 with
        | some x => u.identified n (u.gapEnd n x) t0 w T
        | none => u.setEng n { e with firstGap := some (g, 0) }

/-- R43: the confirmation takes one classified interval. -/
def Units.confirmInterval (u : Units) (n p : Nat) (cl : IntervalClass) (t0 : Int) (T : Nat) : Units :=
  match u.expectGap n p, cl with
  | _, .noise => let u := u.charge n; if u.overTol n then u.confirmFail n else u
  | none, .tooth => u.advancePos n p t0 T false false
  | none, .long =>
    let u := (u.count (Reg.ANG_MISMATCH.COUNT n) (Reg.ANG_MISMATCH.OVF n)).charge n
    if u.overTol n then u.confirmFail n else u.advancePos n p t0 T false false
  | none, .gap _ => u.confirmFail n
  | some g, .gap h =>
    if g = h ∧ ¬ u.sourceFaulted n then
      let d := u.wheelMove n p (g + 1)
      let u := u.setEng n { u.eng n with absEdge := (u.eng n).absEdge + d }
      u.gainSync n (u.nextTooth n p).1 t0 ((d : Rat) / (T : Rat)) T
    else u.confirmFail n
  | some _, _ => u.confirmFail n

/-- R49: an interval in CRANK_SYNC or FULL_SYNC. The result's flag tells whether sync was lost. -/
def Units.syncInterval (u : Units) (n p : Nat) (cl : IntervalClass) (t0 : Int) (T : Nat) : Units :=
  let full := u.angState n == stFull
  match u.expectGap n p, cl with
  | _, .noise => let u := u.charge n; if u.overTol n then u.syncLost n 3 else u
  | none, .tooth => u.advancePos n p t0 T full true
  | none, .long =>
    let u := (u.count (Reg.ANG_MISMATCH.COUNT n) (Reg.ANG_MISMATCH.OVF n)).charge n
    if u.overTol n then u.syncLost n 3 else u.advancePos n p t0 T full true
  | none, .gap _ => u.syncLost n 1
  | some g, .gap h => if g = h then u.advancePos n p t0 T full true else u.syncLost n 2
  | some _, _ => u.syncLost n 2

/-! ## Accepted edges (R38 to R40, R51 to R53) -/

/-- The positions an accepted interval spans: by the pattern once identified, by its class before (R38). -/
def Units.spanOf (u : Units) (n : Nat) (cl : IntervalClass) : Nat :=
  match (u.eng n).pos with
  | some p => (u.nextTooth n p).2
  | none => cl.span

/-- Speed over an interval spanning a number of positions. -/
def Units.wheelSpeed (u : Units) (n span T : Nat) : Rat :=
  ((span * u.wheelL n : Nat) : Rat) / ((u.wheelN n * T : Nat) : Rat)

/-- Record an accepted edge: reference, previous speed, period. It has been counted already, unless it lost sync: then it is the
first of the new SEEK (R50). -/
def Units.acceptEdge (u : Units) (n : Nat) (t0 : Int) (T span : Nat) (w : Rat) : Units :=
  let e := u.eng n
  let u := u.setEng n { e with lastEdge := some t0, ref := some (T, span), wPrev := some (w, T), seekEdges := max 1 e.seekEdges }
  u.angSpeed n T w

/-- An edge without a preceding accepted one in this SEEK (R40, R50, R52): it only dates the next interval. -/
def Units.firstEdge (u : Units) (n : Nat) (t0 : Int) : Units :=
  let e := u.eng n
  u.setEng n { e with lastEdge := some t0, seekEdges := e.seekEdges + 1 }

/-- R43, R50: a noise edge that breaks the position becomes the first accepted edge: its interval, of one position, is the next
reference. R38 gives such an interval no speed (DEDUCED; log entry 8). -/
def Units.brokenEdge (u : Units) (n : Nat) (t0 : Int) (T : Nat) : Units :=
  let u := u.firstEdge n t0
  u.setEng n { u.eng n with ref := some (T, 1), wPrev := none }

/-- Turn of direction (R53): REVERSE is emitted. -/
def Units.setRev (u : Units) (n : Nat) (r : Bool) : Units :=
  if u.is (Reg.ANG_STATUS.REV n) = r then u
  else (u.wrb (Reg.ANG_STATUS.REV n) r).angEvent n 0x07 (b2n r)

/-- R54: with REARM = 1, entries the shaft has passed backwards are armed again. -/
def Units.rearm (u : Units) (n : Nat) (x : Int) : Units :=
  if u.is (Reg.ANG_CTRL.REARM n) then
    let e := u.eng n
    let c := u.cycleLen n
    let k := (e.active.takeWhile fun s => decide (s.angle ≤ x % c)).length
    if x / c < e.cyc then u.setEng n { e with cyc := x / c, ptr := k }
    else if x / c = e.cyc then u.setEng n { e with ptr := min e.ptr k }
    else u
  else u

/-- R53: a step under direction sensing, with the angle moving only at edges. -/
def Units.stepEdge (u : Units) (n p : Nat) (fwd : Bool) (full : Bool) : Units :=
  let e := u.eng n
  let (q, k) := if fwd then u.nextTooth n p else u.prevTooth n p
  let d := if fwd then u.wheelMove n p k else -(u.wheelMove n q k)
  let abs := e.absEdge + d
  let u := (u.setEng n { e with pos := some q, absEdge := abs }).pushSeg n (stillSeg abs full true)
  if fwd then u else if full then u.rearm n abs else u

/-- R53: an edge with a direction while STOPPED is held, while reversing, or in the two forward intervals after. -/
def Units.suspendedEdge (u : Units) (n p : Nat) (t0 : Int) (fwd : Bool) : Units :=
  let e := u.eng n
  let st := u.angState n
  let held := if st = stStopped then e.held else st
  let T := match e.lastEdge with | some l => (t0 - l).toNat | none => 0
  let interval := fwd && !e.lastRev && decide (0 < T)
  let k := (u.nextTooth n p).2
  let w := u.wheelSpeed n k (max T 1)
  let u := (u.setRev n (!fwd)).stepEdge n p fwd (held = stFull)
  let e := u.eng n
  let sus := if !fwd then 2 else if interval ∧ st ≠ stStopped then e.suspended - 1 else e.suspended
  let u := u.setEng n { e with lastEdge := some t0, lastRev := !fwd, suspended := sus,
                               ref := if interval then some (T, k) else e.ref, wPrev := none }
  let u := if interval then u.angSpeed n T w else u
  if st = stStopped then
    if interval ∧ ¬ u.tooSlow n w then
      let u := u.setEng n { u.eng n with suspended := 2, held := 0 }
      (u.wr (Reg.ANG_STATUS.STATE n) held).angEvent n 0x06 (u.rd (Reg.ANG_STATUS.REV n))
    else u.wr (Reg.ANG_SPEED.SPEED n) 0
  else if interval ∧ u.tooSlow n w then u.enterStopped n
  else u

/-- R38 to R52: a tooth edge dated t0, with its direction. -/
def Units.toothStep (u : Units) (n : Nat) (t0 : Int) (fwd : Bool) : Units :=
  let e := u.eng n
  let st := u.angState n
  let dir := u.rd (Reg.ANG_SRC.DIR_MODE n) ≠ 0
  if st = stStopped then
    match e.pos, (dir ∧ e.held ≠ 0 : Bool) with
    | some p, true => u.suspendedEdge n p t0 fwd
    | _, _ =>
      let u := u.setEng n { e.restart with ref := none, wPrev := none, seekEdges := 0, lastRev := !fwd, suspended := 0 }
      let u := (u.wrb (Reg.ANG_STATUS.REV n) (dir && !fwd)).wr (Reg.ANG_STATUS.STATE n) stSeek
      (u.angEvent n 0x06 (u.rd (Reg.ANG_STATUS.REV n))).firstEdge n t0
  else if st = stSeek ∨ st = stCrank ∨ st = stFull then
    match e.lastEdge with
    | none => ((if dir then u.setRev n (!fwd) else u).firstEdge n t0)
    | some l =>
      let T := (t0 - l).toNat
      if T = 0 then u
      else
      if dir ∧ st ≠ stSeek ∧ (¬ fwd ∨ e.suspended ≠ 0 ∨ u.is (Reg.ANG_STATUS.REV n)) then
        match e.pos with
        | some p => u.suspendedEdge n p t0 fwd
        | none => u
      else if dir ∧ ¬ fwd then
        let u := u.setRev n true
        (u.setEng n { (u.eng n).restart with ref := none, wPrev := none, lastRev := true }).firstEdge n t0
      else
        let u := if dir then u.setRev n false else u
        let cl := match e.ref with | some r => u.classify n T r | none => .tooth
        match e.ref, cl with
        | some _, .noise =>
          let u := u.count (Reg.ANG_NOISE.COUNT n) (Reg.ANG_NOISE.OVF n)
          match e.pos with
          | some p =>
            if st = stSeek then
              let u := if e.confirming then u.confirmInterval n p .noise t0 T else u
              if (u.eng n).pos.isNone then u.brokenEdge n t0 T else u
            else
              let u := u.syncInterval n p .noise t0 T
              if u.angState n = stSeek then u.brokenEdge n t0 T else u
          | none => u
        | _, _ =>
          let u := u.setEng n { u.eng n with seekEdges := e.seekEdges + 1 }
          -- The interval is not what the pattern expects, so the position is no longer known.
          let broken : Bool := match e.pos with
            | some p => (match u.expectGap n p, cl with
              | none, .gap _ => true
              | some g, .gap h => decide (g ≠ h)
              | some _, _ => true
              | none, .long => decide (e.charges + 1 > u.rd (Reg.ANG_WHEEL_CFG.SYNC_TOL n))
              | none, _ => false)
            | none => false
          let span := if broken then cl.span else u.spanOf n cl
          let w := u.wheelSpeed n span T
          let step (u : Units) : Units := match e.pos with
            | some p =>
              if st = stSeek then (if e.confirming then u.confirmInterval n p cl t0 T else u)
              else u.syncInterval n p cl t0 T
            | none => if e.ref.isSome ∧ ¬ u.sourceFaulted n then u.seekInterval n cl t0 w T else u
          -- Losing sync comes before stopping, stopping before gaining sync (R56); a charge or mismatch still counts.
          if u.tooSlow n w ∧ ¬ (broken ∧ st ≠ stSeek) then
            ((if st = stSeek ∧ ¬ broken ∧ cl ≠ .long then u else step u).acceptEdge n t0 T span w).enterStopped n
          else (step u).acceptEdge n t0 T span w
  else u

/-- R34, R38, R53: a tooth edge leaves the synchroniser at tick t, dated three ticks before. Under DIR_MODE 1 the step
waits for the end of the pulse. -/
def Units.angToothEdge (u : Units) (n t : Nat) (fwd : Bool) : Units :=
  let u := u.advance t
  let dm := u.rd (Reg.ANG_SRC.DIR_MODE n)
  if u.angMode n ≠ 0 ∨ u.angState n = stOff then u
  else if dm = 1 then u.setEng n { u.eng n with pulseStart := some ((t : Int) - 3) }
  else u.toothStep n ((t : Int) - 3) (dm = 0 || fwd)

/-- R53, DIR_MODE 1: the pulse ends; shorter than DIR_PW us means forward. The step is dated to its starting edge. -/
def Units.angDirPulseEnd (u : Units) (n t : Nat) : Units :=
  let u := u.advance t
  let e := u.eng n
  match e.pulseStart with
  | none => u
  | some t0 =>
    let u := u.setEng n { e with pulseStart := none }
    let pw := max 1 (u.rd (Reg.ANG_SRC.DIR_PW n)) * 400
    if u.rd (Reg.ANG_SRC.DIR_MODE n) = 1 ∧ u.angMode n = 0 then u.toothStep n t0 (decide ((t : Int) - 3 - t0 < pw)) else u

/-! ## Cycle boundary (R47, R70, R73) -/

/-- Cam votes at the end of a cycle (R47): the flag tells whether sync is lost. -/
def Units.judgeCycle (u : Units) (n : Nat) : Units :=
  let e := u.eng n
  if ¬ u.is (Reg.ANG_SRC.CAM_EN n) ∨ u.angMode n ≠ 0 then u
  else if e.entryCycle then u.setEng n { e with entryCycle := false, cycContrary := false, cycInside := false }
  else
    let con := if e.cycContrary ∧ ¬ e.cycInside then e.contraryRun + 1 else 0
    let mis := if e.cycInside then 0 else e.missingRun + 1
    let lim := u.rd (Reg.ANG_CAM_CFG.MISS_LIMIT n)
    let u := u.setEng n { e with contraryRun := con, missingRun := mis, cycContrary := false, cycInside := false }
    let u := if lim ≠ 0 ∧ mis = lim then (u.wr (Reg.ANG_STATUS.CAMVALID n) 0).angEvent n 0x08 mis else u
    if con ≥ max 1 (u.rd (Reg.ANG_CAM_CFG.VOTE n)) then u.syncLost n 4 else u

/-- Every entry of the active bank armed for the cycle that just ended has been examined (R73). -/
def Units.bankDone (u : Units) (n : Nat) : Bool :=
  let e := u.eng n
  ((e.active.drop e.ptr).filter fun s => s.passes e.cyc).isEmpty

/-- The angle word stood in an earlier cycle one tick ago: with REARM = 0 the shaft had moved back over the boundary of a cycle
whose entries have fired (R54), and passes it forwards again. -/
def Units.angBack (u : Units) (n : Nat) (x : Int) : Bool :=
  match u.absAngle n (u.clock - 1) with
  | some y => decide (y / u.cycleLen n < x / u.cycleLen n)
  | none => false

/-- R47, R70, R73: the angle word passes C - 1 to 0 in forward motion. The entries of the old cycle come first. -/
def Units.angCycleWrap (u : Units) (n t : Nat) : Units :=
  let u := u.advance t
  match u.absAngle n u.clock with
  | none => u
  | some x =>
    let e := u.eng n
    if x / u.cycleLen n > e.cyc ∧ u.bankDone n then
      let u := u.setEng n { e with cyc := e.cyc + 1, ptr := 0 }
      let u := if u.is (Reg.ANG_STATUS.PENDING n) then u.bankSwap n else u
      if u.angState n = stFull then u.judgeCycle n else u
    else if x / u.cycleLen n = e.cyc ∧ u.angBack n x ∧ u.is (Reg.ANG_STATUS.PENDING n) then u.bankSwap n
    else u

/-! ## Motor bases (R59 to R65) -/

/-- An edge of a motor base at absolute angle x dated t0: extrapolated by R57 toward the next edge at `next`. `back`:
the sensor shows reverse motion. -/
def Units.motorEdge (u : Units) (n : Nat) (back : Bool) (x t0 next : Int) : Units :=
  let e := u.eng n
  let T : Nat := match e.lastEdge with | some l => (t0 - l).toNat | none => 0
  let d := x - e.absEdge
  let u := u.setRev n back
  let moved := e.lastEdge.isSome ∧ 0 < T
  let w : Rat := if moved then (d : Rat) / (T : Rat) else 0
  let fullNow := u.angState n == stFull || u.angState n == stStopped
  let u := if d > 0 ∧ moved ∧ ¬ back then u.moveSeg n x t0 next w T fullNow else u.pushSeg n (stillSeg x fullNow fullNow)
  let u := if back ∧ fullNow then u.rearm n x else u
  let e := u.eng n
  let u := u.setEng n { e with absEdge := x, lastEdge := some t0, wPrev := if moved then some (w, T) else none,
                               seekEdges := e.seekEdges + 1 }
  if moved then
    let u := u.angSpeed n T w
    if u.angState n = stStopped then
      if u.tooSlow n w then u.wr (Reg.ANG_SPEED.SPEED n) 0
      else (u.wr (Reg.ANG_STATUS.STATE n) stFull).angEvent n 0x06 (u.rd (Reg.ANG_STATUS.REV n))
    else u
  else u

/-- R61, R64, R65: a motor base enters FULL_SYNC at an angle within its cycle. -/
def Units.motorSync (u : Units) (n : Nat) (a : Int) (t0 : Int) : Units :=
  if u.sourceFaulted n then u
  else
    let abs := (u.entryCycleNo n : Int) * u.cycleLen n + a
    let u := u.setEng n { u.eng n with absEdge := abs, lastEdge := some t0, wPrev := none }
    (u.pushSeg n (stillSeg abs true true)).enterFull n abs

/-- The absolute angle nearest the last one that has a given angle within the cycle. -/
def nearest (c last a : Int) : Int := last + (a - last + c / 2) % c - c / 2

/-- R61, R50: a base enters FAULT with a code. -/
def Units.motorFault (u : Units) (n code : Nat) : Units :=
  let u := u.angInvalidate n
  let u := u.setEng n { u.eng n with resLock := 0, resGood := 0, lastEdge := none, wPrev := none }
  (u.wr (Reg.ANG_STATUS.STATE n) stFault).angEvent n 0x0E code

/-- R60, R61: one update of the resolver loop: the loop's angle, its error in units of 0.001 degree and the carrier
amplitude in percent of nominal. -/
def Units.resLoopUpdate (u : Units) (n t angle err ampl : Nat) : Units :=
  let u := u.advance t
  let st := u.angState n
  if u.angMode n ≠ 1 ∨ st = stOff then u
  else
    let e := u.eng n
    let lock := if err < 500 then e.resLock + 1 else 0
    let bad := if ampl < 50 ∨ ampl > 150 then e.resBad + 1 else 0
    let good := if 60 ≤ ampl ∧ ampl ≤ 140 then e.resGood + 1 else 0
    let u := u.setEng n { e with resLock := lock, resBad := bad, resGood := good }
    let u := (u.wr (Reg.ANG_RES_STATUS.AMPL n) (satN 8 ampl)).wrb (Reg.ANG_RES_STATUS.LOCK n) (decide (lock ≥ 64))
    let a : Int := (angle : Int) % u.cycleLen n
    let t0 : Int := t
    if st = stFault then
      if good ≥ 64 then (u.setEng n { u.eng n with resLock := 0, seekEdges := 0 }).wr (Reg.ANG_STATUS.STATE n) stSeek else u
    else if bad ≥ 20 then u.motorFault n 1
    else if st = stSeek then (if lock ≥ 64 then u.motorSync n a t0 else u)
    else
      let x := nearest (u.cycleLen n) (u.eng n).absEdge a
      let d := x - (u.eng n).absEdge
      u.motorEdge n (decide (d < 0) || (decide (d = 0) && u.is (Reg.ANG_STATUS.REV n))) x t0 (x + u.cycleLen n)

/-- The forward order of the Hall states, written as UVW (R64). -/
def hallIndex (s : Nat) : Option Nat := [4, 6, 2, 3, 1, 5].findIdx? (· == s)

/-- R64: the Hall inputs change to a state. -/
def Units.hallTransition (u : Units) (n t uvw : Nat) : Units :=
  let u := u.advance t
  let e := u.eng n
  let st := u.angState n
  let t0 : Int := (t : Int) - 3
  if u.angMode n ≠ 2 ∨ st = stOff ∨ uvw = e.hall then u
  else
    let u := u.setEng n { e with hall := uvw }
    match hallIndex uvw with
    | none => if st = stFault then u else u.motorFault n 2
    | some k =>
      let a := ((u.rd (Reg.ANG_MOFFSET.OFFSET n) : Int) + 61440 * (k : Int)) % u.cycleLen n
      if st = stFault then (u.setEng n { u.eng n with seekEdges := 0 }).wr (Reg.ANG_STATUS.STATE n) stSeek
      else
        match hallIndex e.hall with
        | none => u
        | some j =>
          let fwd := decide (k = (j + 1) % 6)
          let back := decide (j = (k + 1) % 6)
          -- Moving back, the boundary crossed is the edge angle of the state being left.
          let aj := ((u.rd (Reg.ANG_MOFFSET.OFFSET n) : Int) + 61440 * (j : Int)) % u.cycleLen n
          let x0 := (u.eng n).absEdge
          let c := u.cycleLen n
          if st = stSeek then
            let u := u.setEng n { u.eng n with seekEdges := e.seekEdges + 1 }
            if fwd then u.motorSync n a t0 else if back then u.motorSync n aj t0 else u
          else if fwd then
            let x := x0 + (a - x0) % c
            u.motorEdge n false x t0 (x + 61440)
          else if back then
            let x := x0 - (x0 - aj) % c
            u.motorEdge n true x t0 (x + 61440)
          else
            let u := u.count (Reg.ANG_MISMATCH.COUNT n) (Reg.ANG_MISMATCH.OVF n)
            let x := nearest c x0 a
            (u.setEng n { u.eng n with absEdge := x, lastEdge := some t0, wPrev := none }).pushSeg n (stillSeg x true true)

/-- Quadrature steps per cycle (R65). -/
def Units.encSteps (u : Units) (n : Nat) : Int := 4 * (u.rd (Reg.ANG_ENC_CFG.LINES n) : Int)

/-- The angle of a step count, over whole cycles (R65). -/
def Units.encAngle (u : Units) (n : Nat) (s : Int) : Int :=
  (u.rd (Reg.ANG_MOFFSET.OFFSET n) : Int) + s * 368640 / u.encSteps n

/-- R65: a quadrature sample. -/
def Units.encStep (u : Units) (n t : Nat) (mv : EncMove) : Units :=
  let u := u.advance t
  let e := u.eng n
  let st := u.angState n
  let t0 : Int := (t : Int) - 3
  if u.angMode n ≠ 3 ∨ st = stOff then u
  else
    match mv with
    | .both => u.count (Reg.ANG_MISMATCH.COUNT n) (Reg.ANG_MISMATCH.OVF n)
    | _ =>
      let close := match e.lastEdge with | some l => decide (t0 - l < 16) | none => false
      let u := if close then u.wr (Reg.ANG_STATUS.OVERSPEED n) 1 else u
      let s := if mv = .fwd then e.encCount + 1 else e.encCount - 1
      let u := u.setEng n { u.eng n with encCount := s }
      if st = stFull ∨ st = stStopped then
        let x := e.absEdge + u.encAngle n s - u.encAngle n e.encCount
        u.motorEdge n (decide (mv = .back)) x t0 (x + u.encAngle n (s + 1) - u.encAngle n s)
      else u.setEng n { u.eng n with lastEdge := some t0, seekEdges := e.seekEdges + 1 }

/-- R65: a Z edge marks step 0: the first gains sync, one at any other step resets the count. -/
def Units.encZEdge (u : Units) (n t : Nat) : Units :=
  let u := u.advance t
  let e := u.eng n
  let st := u.angState n
  let t0 : Int := (t : Int) - 3
  if u.angMode n ≠ 3 ∨ st = stOff ∨ st = stFault then u
  else if st = stSeek then
    let u := u.setEng n { e with encCount := 0 }
    u.motorSync n (u.encAngle n 0 % u.cycleLen n) t0
  else
    let N := u.encSteps n
    let r := e.encCount % N
    if r = 0 then u.setEng n { e with encCount := 0 }
    else
      let err : Int := if 2 * r > N then r - N else r
      let u := u.count (Reg.ANG_MISMATCH.COUNT n) (Reg.ANG_MISMATCH.OVF n)
      let u := u.angEvent n 0x0C (ofInt 32 err)
      let x := nearest (u.cycleLen n) e.absEdge (u.encAngle n 0 % u.cycleLen n)
      (u.setEng n { u.eng n with encCount := 0, absEdge := x, wPrev := none }).pushSeg n (stillSeg x true true)

/-! ## Enabling, disabling, resync (R49, R56, R69, R76) -/

/-- R56, R69, R76: EN 0→1. -/
def Units.angEnable (u : Units) (n : Nat) : Units :=
  if u.is (Reg.ANG_CTRL.EN n) then u
  else
    let u := u.wr (Reg.ANG_CTRL.EN n) 1
    let c := u.angCode n
    let u := (u.wr (Reg.ANG_STATUS.CFG_CODE n) c).wrb (Reg.ANG_STATUS.CFG_ERR n) (decide (c ≠ 0))
    let u := u.wr (Reg.ANG_WHEEL_CFG.GAPS n) (satN 3 (u.gaps n).length)
    let u := ((u.wr (Reg.ANG_DONE0.SLOT n) 0).wr (Reg.ANG_DONE1.SLOT n) 0)
    let u := (u.wr (Reg.ANG_OPEN0.SLOT n) 0).wr (Reg.ANG_OPEN1.SLOT n) 0
    let e := u.eng n
    let (bad, good) := e.active.partition fun x => u.entryBad n x
    let u := if bad = [] then u else u.wr (Reg.ANG_STATUS.SCHED_ERR n) 1
    let e := { e.restart with active := good, fresh := true, lastEdge := none, ref := none, wPrev := none }
    let e := { e with seekEdges := 0, contraryRun := 0, missingRun := 0, held := 0, suspended := 0, lastRev := false }
    let e := { e with pulseStart := none, hall := 0, encCount := 0, resLock := 0, resBad := 0, resGood := 0, slaveRef := none }
    let u := (u.setEng n e).wr (Reg.ANG_PERIOD.TICKS n) 0xFFFFFFFF
    if c ≠ 0 then u.angEvent n 0x0F c
    else if u.angMode n = 4 then u.wr (Reg.ANG_STATUS.STATE n) stSlaved
    else u.wr (Reg.ANG_STATUS.STATE n) stSeek

/-- R56: EN 1→0. -/
def Units.angDisable (u : Units) (n : Nat) : Units :=
  if u.is (Reg.ANG_CTRL.EN n) then
    let u := (u.wr (Reg.ANG_CTRL.EN n) 0).wr (Reg.ANG_STATUS.STATE n) stOff
    u.angInvalidate n
  else u

/-- The engine stops acquiring, its EN unchanged (20_power.md R490). -/
def Units.angPause (u : Units) (n : Nat) : Units :=
  if u.angState n = stOff ∨ u.angState n = stFault then u else (u.wr (Reg.ANG_STATUS.STATE n) stOff).angInvalidate n

/-- An enabled engine acquires again: it seeks sync, or waits for the sync wire; CYCLE follows R45 (20_power.md R493, 21_reset.md
R511). -/
def Units.angUnpause (u : Units) (n : Nat) : Units :=
  if u.is (Reg.ANG_CTRL.EN n) ∧ ¬ u.is (Reg.ANG_STATUS.CFG_ERR n) ∧ u.angState n = stOff then
    let e := u.eng n
    let e := { e.restart with lastEdge := none, ref := none, wPrev := none, seekEdges := 0, contraryRun := 0, missingRun := 0 }
    let e := { e with held := 0, suspended := 0, lastRev := false, pulseStart := none, hall := 0, encCount := 0, resLock := 0 }
    let e := { e with resBad := 0, resGood := 0, slaveRef := none }
    ((u.setEng n e).wr (Reg.ANG_PERIOD.TICKS n) 0xFFFFFFFF).wr (Reg.ANG_STATUS.STATE n) (if u.angMode n = 4 then stSlaved else stSeek)
  else u

/-- R49: RESYNC loses sync with cause 5. -/
def Units.angResync (u : Units) (n : Nat) : Units :=
  if u.angState n = stCrank ∨ u.angState n = stFull then u.syncLost n 5 else u

/-! ## The schedule window, commits and sorts (R66 to R71, R78) -/

/-- R71: a write to ANG_SCHED_A or ANG_SCHED_B, dropped while BUSY. -/
def Units.schedWrite (u : Units) (n : Nat) (b : Bool) (w : Nat) : Units :=
  if u.is (Reg.ANG_STATUS.BUSY n) then u.wr (Reg.ANG_STATUS.WR_BUSY n) 1
  else
    let i := u.rd (Reg.ANG_SCHED_IDX.INDEX n)
    let e := u.eng n
    let v := w % 2 ^ 32
    if b then
      let u := u.setEng n { e with shadowB := SMap.set 0 e.shadowB i v }
      if u.is (Reg.ANG_SCHED_IDX.AUTOINC n) then u.wr (Reg.ANG_SCHED_IDX.INDEX n) ((i + 1) % 512) else u
    else u.setEng n { e with shadowA := SMap.set 0 e.shadowA i v }

/-- R71: the window reads the shadow bank. -/
def Units.schedRead (u : Units) (n : Nat) (b : Bool) : Nat :=
  SMap.get 0 (if b then (u.eng n).shadowB else (u.eng n).shadowA) (u.rd (Reg.ANG_SCHED_IDX.INDEX n))

/-- R70, R71: COMMIT, withdrawing a pending bank. -/
def Units.schedCommit (u : Units) (n : Nat) : Units :=
  if u.is (Reg.ANG_STATUS.BUSY n) then u.wr (Reg.ANG_STATUS.WR_BUSY n) 1
  else
    let e := u.eng n
    ((u.wr (Reg.ANG_STATUS.PENDING n) 0).wr (Reg.ANG_STATUS.BUSY n) 1).setEng n { e with sorting := e.shadow }

/-- R70, R71, R74: the sort ends: PENDING, or an exchange at once without a valid angle. -/
def Units.sortDone (u : Units) (n : Nat) : Units :=
  if u.is (Reg.ANG_STATUS.BUSY n) then
    let e := u.eng n
    let (bad, good) := e.sorting.partition fun x => u.entryBad n x
    let u := u.setEng n { e with inactive := sortEntries good, rejected := bad.length, sorting := [] }
    let u := u.wr (Reg.ANG_STATUS.BUSY n) 0
    let u := if bad = [] then u else u.wr (Reg.ANG_STATUS.SCHED_ERR n) 1
    if u.angValid n then u.wr (Reg.ANG_STATUS.PENDING n) 1 else u.bankSwap n
  else u

/-! ## Deadlines (R76) -/

def doneFld (n slot : Nat) : Fld := if slot < 32 then Reg.ANG_DONE0.SLOT n else Reg.ANG_DONE1.SLOT n
def openFld (n slot : Nat) : Fld := if slot < 32 then Reg.ANG_OPEN0.SLOT n else Reg.ANG_OPEN1.SLOT n

/-- Set or clear one bit of a slot register. -/
def Units.putSlot (u : Units) (f : Fld) (slot : Nat) (v : Bool) : Units :=
  let x := u.rd f
  let k := slot % 32
  u.wr f (if bit x k == v then x else if v then x + 2 ^ k else x - 2 ^ k)

/-- R76: a write of ones to ANG_DONE0 or ANG_DONE1 marks open slots and counts each bit of a closed slot. -/
def Units.doneWrite (u : Units) (n i w : Nat) : Units :=
  let d := if i = 0 then Reg.ANG_DONE0.SLOT n else Reg.ANG_DONE1.SLOT n
  let o := u.rd (if i = 0 then Reg.ANG_OPEN0.SLOT n else Reg.ANG_OPEN1.SLOT n)
  let v := w % 2 ^ 32
  let u := u.wr d (u.rd d ||| (v &&& o))
  u.countN (Reg.ANG_LATE.COUNT n) (Reg.ANG_LATE.OVF n) (popcount 32 (v - (v &&& o)))

/-- R76: OPEN clears the slot's bit and opens it. -/
def Units.slotOpen (u : Units) (n slot : Nat) : Units :=
  (u.putSlot (doneFld n slot) slot false).putSlot (openFld n slot) slot true

/-- R76: DEADLINE judges the slot and closes it. -/
def Units.slotDeadline (u : Units) (n idx slot : Nat) : Units :=
  let opn := bit (u.rd (openFld n slot)) (slot % 32)
  let met := bit (u.rd (doneFld n slot)) (slot % 32)
  let u := u.putSlot (openFld n slot) slot false
  if opn ∧ met then u
  else
    let u := u.count (Reg.ANG_MISSED.COUNT n) (Reg.ANG_MISSED.OVF n)
    u.angEvent n 0x0A (idx * 2 ^ 16 + b2n (!opn) * 2 ^ 6 + slot)

/-! ## Firing (R72 to R74) -/

/-- Skip entries whose filter fails and whose angle has been reached (R72). -/
def passOver (cyc base x : Int) : Nat → List SchedEntry → Nat
  | p, [] => p
  | p, s :: ss => if base + s.angle ≤ x ∧ ¬ s.passes cyc then passOver cyc base x (p + 1) ss else p

/-- The entry that issues at tick t: the next armed one, when its angle has been reached in forward motion (R54, R72). -/
def Units.dueEntry (u : Units) (n : Nat) : Option (SchedEntry × Nat) :=
  match u.absAngle n u.clock with
  | none => none
  | some x =>
    let e := u.eng n
    let st := u.angState n
    if (st = stFull ∨ st = stSlaved ∨ st = stStopped) ∧ ¬ u.is (Reg.ANG_STATUS.REV n) then
      let base := e.cyc * u.cycleLen n
      let p := passOver e.cyc base x e.ptr (e.active.drop e.ptr)
      match e.active[p]? with
      | some s => if base + s.angle ≤ x then some (s, p) else none
      | none => none
    else none

/-- Ticks since the angle word first reached an absolute angle, saturating at 127 (R77). -/
def Units.lateBy (u : Units) (n : Nat) (x : Int) : Nat → Nat
  | 0 => 0
  | f + 1 =>
    match u.absAngle n (u.clock - (128 - (f + 1))) with
    | some y => if x ≤ y ∧ 128 - (f + 1) ≤ u.clock then 1 + u.lateBy n x f else 0
    | none => 0

/-- R72: the comparator issues the next armed entry, when it is due and carries the action of the command: `act` says
what the action does. The entry is used up and its SCHED event emitted. -/
def Units.fire (u : Units) (n t code : Nat) (act : Units → SchedEntry → Units) : Units :=
  let u := u.advance t
  match u.dueEntry n with
  | none => u
  | some (s, p) =>
    if s.act = code then
      let e := u.eng n
      let late := u.lateBy n (e.cyc * u.cycleLen n + s.angle) 127
      let u := u.setEng n { e with ptr := p + 1 }
      let u := act u s
      if s.evt then u.angEvent n 0x01 (min 127 late * 2 ^ 25 + s.idx * 2 ^ 16 + s.tag) else u
    else u

/-- R124: an action joins the engine's queue of 512. -/
def Units.schedTrg (n act : Nat) (u : Units) (s : SchedEntry) : Units := u.trgPush n s.target act

/-! ## Meanings -/

def execAngEnable (n : Nat) (s : State) : Host.Outcome State Fault Refusal := s.run (decide (n < 4)) fun u => u.angEnable n
def execAngDisable (n : Nat) (s : State) : Host.Outcome State Fault Refusal := s.run (decide (n < 4)) fun u => u.angDisable n
def execAngResync (n : Nat) (s : State) : Host.Outcome State Fault Refusal := s.run (decide (n < 4)) fun u => u.angResync n
def execAngToothEdge (n t : Nat) (fwd : Bool) (s : State) : Host.Outcome State Fault Refusal :=
  s.run (decide (n < 4)) fun u => if u.pwr.frontOff then u else u.angToothEdge n t fwd
def execAngCamEdge (n t : Nat) (s : State) : Host.Outcome State Fault Refusal := s.run (decide (n < 4)) fun u => if u.pwr.frontOff then u else u.angCamEdge n t
def execAngCycleWrap (n t : Nat) (s : State) : Host.Outcome State Fault Refusal :=
  s.run (decide (n < 4)) fun u => u.angCycleWrap n t
def execAngStallTimeout (n t : Nat) (s : State) : Host.Outcome State Fault Refusal :=
  s.run (decide (n < 4)) fun u => u.angStallTimeout n t
def execAngDirPulseEnd (n t : Nat) (s : State) : Host.Outcome State Fault Refusal :=
  s.run (decide (n < 4)) fun u => if u.pwr.frontOff then u else u.angDirPulseEnd n t
def execResLoopUpdate (n t angle err ampl : Nat) (s : State) : Host.Outcome State Fault Refusal :=
  s.run (decide (n < 4)) fun u => if u.pwr.frontOff then u else u.resLoopUpdate n t angle err ampl
def execHallTransition (n t uvw : Nat) (s : State) : Host.Outcome State Fault Refusal :=
  s.run (decide (n < 4 ∧ uvw < 8)) fun u => if u.pwr.frontOff then u else u.hallTransition n t uvw
def execEncStep (n t : Nat) (mv : EncMove) (s : State) : Host.Outcome State Fault Refusal :=
  s.run (decide (n < 4)) fun u => if u.pwr.frontOff then u else u.encStep n t mv
def execEncZEdge (n t : Nat) (s : State) : Host.Outcome State Fault Refusal := s.run (decide (n < 4)) fun u => if u.pwr.frontOff then u else u.encZEdge n t
def execAngSchedBWrite (n : Nat) (b : Bool) (w : Nat) (s : State) : Host.Outcome State Fault Refusal :=
  s.run (decide (n < 4)) fun u => u.schedWrite n b w
def execAngSchedCommit (n : Nat) (s : State) : Host.Outcome State Fault Refusal := s.run (decide (n < 4)) fun u => u.schedCommit n
def execAngSortDone (n : Nat) (s : State) : Host.Outcome State Fault Refusal := s.run (decide (n < 4)) fun u => u.sortDone n
def execAngDoneWrite (n i w : Nat) (s : State) : Host.Outcome State Fault Refusal :=
  s.run (decide (n < 4 ∧ i < 2)) fun u => u.doneWrite n i w
def execSchedEventOnly (n t : Nat) (s : State) : Host.Outcome State Fault Refusal :=
  s.run (decide (n < 4)) fun u => u.fire n t 0 fun u _ => u
def execSchedAinGroup (n t : Nat) (s : State) : Host.Outcome State Fault Refusal :=
  s.run (decide (n < 4)) fun u => u.fire n t 1 fun u e => u.schedRequest n e.target
def execSchedFinConvert (n t : Nat) (s : State) : Host.Outcome State Fault Refusal :=
  s.run (decide (n < 4)) fun u => u.fire n t 2 fun u e => u.schedRequest n (32 + e.target)
def execSchedTrgHigh (n t : Nat) (s : State) : Host.Outcome State Fault Refusal :=
  s.run (decide (n < 4)) fun u => u.fire n t 3 (Units.schedTrg n 0)
def execSchedTrgLow (n t : Nat) (s : State) : Host.Outcome State Fault Refusal :=
  s.run (decide (n < 4)) fun u => u.fire n t 4 (Units.schedTrg n 1)
def execSchedTrgToggle (n t : Nat) (s : State) : Host.Outcome State Fault Refusal :=
  s.run (decide (n < 4)) fun u => u.fire n t 5 (Units.schedTrg n 2)
def execSchedSluiceRequest (n t : Nat) (s : State) : Host.Outcome State Fault Refusal :=
  s.run (decide (n < 4)) fun u => u.fire n t 6 fun u e => u.pulseSend (256 * n + e.target)
def execSchedDinSnapshot (n t : Nat) (s : State) : Host.Outcome State Fault Refusal :=
  s.run (decide (n < 4)) fun u => u.fire n t 7 fun u e =>
    if u.rd (Reg.DIN_GSTREAM.BASE e.target) = n then u.dinSnapshot e.target u.clock else u
def execSchedOpen (n t : Nat) (s : State) : Host.Outcome State Fault Refusal :=
  s.run (decide (n < 4)) fun u => u.fire n t 8 fun u e => u.slotOpen n e.target
def execSchedDeadline (n t : Nat) (s : State) : Host.Outcome State Fault Refusal :=
  s.run (decide (n < 4)) fun u => u.fire n t 9 fun u e => u.slotDeadline n e.idx e.target

end Sys2Proof.Machine
end

