-- ==== Sys2Proof/Machine/Flags.lean ====
section
/-! DEFINITION. Results and flags of the arithmetic, logic, shift, multiply and divide operations (10_ehrel_isa.md R252
to R258), on 32-bit patterns held as numbers. -/
namespace Sys2Proof.Machine

/-- What an operation leaves: its result and the flags it writes. -/
structure AluOut where
  r : Nat
  c : Option Bool := none
  v : Option Bool := none
  deriving DecidableEq, Repr

def w32 (n : Nat) : Nat := n % 2 ^ 32
/-- The signed value of a word. -/
def sgn (a : Nat) : Int := toInt 32 a
/-- The word of an integer. -/
def wd (i : Int) : Nat := ofInt 32 i
/-- An integer lies in the signed 32-bit range. -/
def inS32 (i : Int) : Bool := decide (-2147483648 ≤ i) && decide (i ≤ 2147483647)
/-- Saturated to the signed 32-bit range. -/
def satS32 (i : Int) : Int := max (-2147483648) (min 2147483647 i)

/-- R254: ADD, ADC, INC. -/
def aluAdd (a b : Nat) (cin : Bool) : AluOut :=
  ⟨w32 (a + b + b2n cin), some (decide (2 ^ 32 ≤ a + b + b2n cin)), some (!inS32 (sgn a + sgn b + b2n cin))⟩
/-- R254: SUB, SBC, DEC; C is the borrow. -/
def aluSub (a b : Nat) (cin : Bool) : AluOut :=
  ⟨wd ((a : Int) - b - b2n cin), some (decide (a < b + b2n cin)), some (!inS32 (sgn a - sgn b - b2n cin))⟩
/-- R254: NEG. -/
def aluNeg (a : Nat) : AluOut := ⟨wd (-(a : Int)), some (a != 0), some (a == 0x80000000)⟩
/-- R252: ABS. -/
def aluAbs (a : Nat) : AluOut := ⟨wd (sgn a).natAbs, none, some (a == 0x80000000)⟩
/-- R252: ADDS and SUBS, from the exact result. -/
def aluSat (i : Int) : AluOut := ⟨wd (satS32 i), none, some (!inS32 i)⟩
/-- R254: MUL. -/
def aluMul (a b : Nat) : AluOut := ⟨w32 (a * b), some (decide (2 ^ 32 ≤ a * b)), some (!inS32 (sgn a * sgn b))⟩

def plain (r : Nat) : AluOut := { r := r }

/-! R258: counts are bits 5:0; rotates take them modulo 32. -/
def shl (a n : Nat) : Nat := w32 (a * 2 ^ (n % 64))
def shr (a n : Nat) : Nat := a / 2 ^ (n % 64)
def sar (a n : Nat) : Nat := wd (sgn a / 2 ^ (n % 64))
def rol (a n : Nat) : Nat := w32 (a * 2 ^ (n % 32)) + a / 2 ^ (32 - n % 32)
def ror (a n : Nat) : Nat := rol a (32 - n % 32)

/-- Leading zeros of the low n bits. -/
def clzN : Nat → Nat → Nat
  | 0, _ => 0
  | n + 1, a => if bit a n then 0 else 1 + clzN n a
def clz (a : Nat) : Nat := clzN 32 a
def bswap (a : Nat) : Nat := bits a 7 0 * 2 ^ 24 + bits a 15 8 * 2 ^ 16 + bits a 23 16 * 2 ^ 8 + bits a 31 24
def sext (w a : Nat) : Nat := wd (toInt w a)

/-- The operations of codes 0x10 to 0x2F (R252): ADD to ZEXH, with A as a and B as b or n. -/
def alu (code a b : Nat) (cin : Bool) : AluOut :=
  match code with
  | 0x10 => aluAdd a b false
  | 0x11 => aluSub a b false
  | 0x12 => aluAdd a b cin
  | 0x13 => aluSub a b cin
  | 0x14 => aluNeg a
  | 0x15 => aluAbs a
  | 0x16 => aluAdd a 1 false
  | 0x17 => aluSub a 1 false
  | 0x18 => aluSat (sgn a + sgn b)
  | 0x19 => aluSat (sgn a - sgn b)
  | 0x1A => plain (if sgn a ≤ sgn b then a else b)
  | 0x1B => plain (if sgn a ≤ sgn b then b else a)
  | 0x1C => plain (min a b)
  | 0x1D => plain (max a b)
  | 0x1E => plain (b2n (decide (sgn a < sgn b)))
  | 0x1F => plain (b2n (decide (a < b)))
  | 0x20 => plain (a &&& b)
  | 0x21 => plain (a ||| b)
  | 0x22 => plain (a ^^^ b)
  | 0x23 => plain (2 ^ 32 - 1 - a)
  | 0x24 => plain (shl a b)
  | 0x25 => plain (shr a b)
  | 0x26 => plain (sar a b)
  | 0x27 => plain (rol a b)
  | 0x28 => plain (w32 (ror a b))
  | 0x29 => plain (clz a)
  | 0x2A => plain (popcount 32 a)
  | 0x2B => plain (bswap a)
  | 0x2C => plain (sext 8 a)
  | 0x2D => plain (sext 16 a)
  | 0x2E => plain (a % 2 ^ 8)
  | _ => plain (a % 2 ^ 16)

/-! ## Division (R256, R257) -/

/-- What a division leaves: quotient, remainder, V, and a division by zero. -/
structure DivOut where
  q : Nat
  r : Nat
  v : Bool
  zero : Bool
  deriving DecidableEq, Repr

def divU (a b : Nat) : DivOut := if b = 0 then ⟨0, a, false, true⟩ else ⟨a / b, a % b, false, false⟩
def divS (a b : Nat) : DivOut :=
  if b = 0 then ⟨0, a, false, true⟩
  else ⟨wd (Int.tdiv (sgn a) (sgn b)), wd (Int.tmod (sgn a) (sgn b)), a == 0x80000000 && b == 0xFFFFFFFF, false⟩

/-! ## Conditions of the skips (R262) -/

def condSk (c a : Nat) : Bool :=
  match c with
  | 0 => a == 0 | 1 => a != 0 | 2 => decide (sgn a < 0) | 3 => decide (0 ≤ sgn a)
  | 4 => decide (0 < sgn a) | 5 => decide (sgn a ≤ 0) | 6 => a % 2 == 1 | _ => a % 2 == 0

def condCmp (c a b : Nat) : Bool :=
  match c with
  | 0 => a == b | 1 => a != b | 2 => decide (sgn a < sgn b) | 3 => decide (sgn b ≤ sgn a)
  | 4 => decide (a < b) | 5 => decide (b ≤ a) | 6 => decide (sgn b < sgn a) | 7 => decide (sgn a ≤ sgn b)
  | 8 => decide (b < a) | _ => decide (a ≤ b)

/-! ## Rounding -/

/-- i / 2^n rounded to the nearest, ties away from zero. -/
def roundShift (i : Int) (n : Nat) : Int :=
  if n = 0 then i
  else if 0 ≤ i then (i + 2 ^ (n - 1)) / 2 ^ n else -((-i + 2 ^ (n - 1)) / 2 ^ n)

end Sys2Proof.Machine
end

