-- ==== Sys2Proof/Machine/Weir.lean ====
section
/-! DEFINITION. The weir: regions, grants, refusal intervals and the depth law (09_reservoir.md R211 to R217, R231 to
R233), and the doorbells of the command rings (R222), which sluice completion pulses also ring. -/
namespace Sys2Proof.Machine

/-! ## Constants by part (R14, R231) -/

/-- DEPTH_MAX in MiB. -/
def Part.depthMax : Part → Nat
  | .swk7240 => 32768 | .swk7220 => 16384 | .swk7210 => 4096
/-- The rated commit rate in MB/s. -/
def Part.rated : Part → Nat
  | .swk7240 => 24000 | .swk7220 => 12000 | .swk7210 => 6000
def Part.pFlush : Part → Nat
  | .swk7240 => 32 | .swk7220 => 20 | .swk7210 => 13
def Part.pGrace : Part → Nat
  | .swk7240 => 46 | .swk7220 => 28 | .swk7210 => 19
def Part.eFixed : Part → Nat
  | .swk7240 => 6 | .swk7220 => 5 | .swk7210 => 4

/-- RSV_STATUS.STATE codes. -/
def rsvStarting : Nat := 0
def rsvRecovering : Nat := 1
def rsvReady : Nat := 2
def rsvNoVolume : Nat := 3
def rsvFlushing : Nat := 4
def rsvFull : Nat := 5
def rsvFault : Nat := 6

/-- The reservoir is STARTING or RECOVERING. -/
def Units.rsvNotReady (u : Units) : Bool := u.rd Reg.RSV_STATUS.STATE ≤ 1

/-- An event of the reservoir and the weir (R239). -/
def Units.rsvEvent (u : Units) (kind pay : Nat) : Units := u.emit 0x7000 kind pay

/-- GSEQ of the last group committed; all ones if none. -/
def Units.commitGseq (u : Units) : Nat := u.rd Reg.RSV_COMMIT_LO.GSEQ + u.rd Reg.RSV_COMMIT_HI.GSEQ * 2 ^ 32

/-! ## Regions (R212, R214) -/

def regions : List Nat := List.range 16
def Units.rgnOn (u : Units) (r : Nat) : Bool := u.is (Reg.WEIR_RGN_CTRL.EN r)
def Units.rgnBase (u : Units) (r : Nat) : Nat := u.rd (Reg.WEIR_RGN_CFG.BASE r) * 2 ^ 20
def Units.rgnSize (u : Units) (r : Nat) : Nat := u.rd (Reg.WEIR_RGN_CFG.SIZE r) * 2 ^ 20
def Units.rgnFill (u : Units) (r : Nat) : Nat := u.rd (Reg.WEIR_RGN_FILL.OFFSET r)
def Units.rgnPost (u : Units) (r : Nat) : Nat := u.rd (Reg.WEIR_RGN_POST.OFFSET r)
def Units.rgnDone (u : Units) (r : Nat) : Nat := u.rd (Reg.WEIR_RGN_DONE.OFFSET r)

/-- n bytes at a touch a region. -/
def Units.rgnTouches (u : Units) (r a n : Nat) : Bool :=
  u.rgnOn r && decide (a < u.rgnBase r + u.rgnSize r) && decide (u.rgnBase r < a + n)

/-- Every byte lies in [POST, FILL). -/
def Units.rgnAllows (u : Units) (r a n : Nat) : Bool :=
  decide (u.rgnBase r + u.rgnPost r ≤ a) && decide (a + n ≤ u.rgnBase r + u.rgnFill r)

/-- R214: the enabled regions that refuse a write of n bytes at a. -/
def Units.weirRefusing (u : Units) (a n : Nat) : List Nat := regions.filter fun r => u.rgnTouches r a n && !u.rgnAllows r a n

/-- R214: a refused write sets WR_REF of the regions that refuse it. -/
def Units.weirRefuse (u : Units) (rs : List Nat) : Units := u.each rs fun u r => u.wr (Reg.WEIR_RGN_CTRL.WR_REF r) 1

/-- HELD (R211). -/
def Units.held (u : Units) : Nat := regions.foldl (fun a r => if u.rgnOn r then a + (u.rgnFill r - u.rgnDone r) else a) 0

/-- DEPTH in bytes. -/
def Units.depthBytes (u : Units) : Nat := u.rd Reg.WEIR_DEPTH.DEPTH * 2 ^ 20

/-- Publish WEIR_HELD and WEIR_ROOM. -/
def Units.weirSync (u : Units) : Units :=
  let h := u.held
  ((u.wr Reg.WEIR_HELD_LO.BYTES h).wr Reg.WEIR_HELD_HI.BYTES (h / 2 ^ 32)).wr Reg.WEIR_ROOM.KIB ((u.depthBytes - h) / 1024)

/-- R212: the region lies wholly in DRAM or in the open half of the staging area, and overlaps no other enabled one. -/
def Units.rgnValid (u : Units) (r : Nat) : Bool :=
  let b := u.rgnBase r; let e := b + u.rgnSize r
  decide (b < e) && (decide (e ≤ 0x1000000000) || (decide (0x1202000000 ≤ b) && decide (e ≤ 0x1204000000))) &&
    regions.all fun q => q == r || !u.rgnOn q || decide (e ≤ u.rgnBase q) || decide (u.rgnBase q + u.rgnSize q ≤ b)

def Units.rgnZero (u : Units) (r : Nat) : Units :=
  ((u.wr (Reg.WEIR_RGN_FILL.OFFSET r) 0).wr (Reg.WEIR_RGN_POST.OFFSET r) 0).wr (Reg.WEIR_RGN_DONE.OFFSET r) 0

/-- R212: EN 0→1. -/
def Units.rgnEnable (u : Units) (r : Nat) : Units :=
  if u.rgnOn r then u
  else if u.rgnValid r then (((u.rgnZero r).wr (Reg.WEIR_RGN_CTRL.CFG_ERR r) 0).wr (Reg.WEIR_RGN_CTRL.EN r) 1).weirSync
  else u.wr (Reg.WEIR_RGN_CTRL.CFG_ERR r) 1

/-- R217: EN 1→0 takes effect only if FILL = DONE. -/
def Units.rgnDisable (u : Units) (r : Nat) : Units :=
  if ¬ u.rgnOn r then u
  else if u.rgnFill r = u.rgnDone r then (u.wr (Reg.WEIR_RGN_CTRL.EN r) 0).weirSync
  else u.wr (Reg.WEIR_RGN_CTRL.REW_REF r) 1

/-- R217: REWIND. -/
def Units.rgnRewind (u : Units) (r : Nat) : Units :=
  if u.rgnFill r = u.rgnDone r then (u.rgnZero r).weirSync else u.wr (Reg.WEIR_RGN_CTRL.REW_REF r) 1

/-! ## Refusal intervals (R216, R174) -/

def kibUp (n : Nat) : Nat := (n + 1023) / 1024

/-- Open a refusal interval now. -/
def Units.openInterval (u : Units) : Units :=
  let i : RefusalInterval := { start := u.now, last := u.now, kib := 0, gseq := u.commitGseq }
  ({ u with weir := { u.weir with interval := some i } }.wr Reg.WEIR_STATUS.REFUSING 1).rsvEvent 0x03 0

/-- Close the interval: one GAP record of cause 0x01 for the next group. -/
def Units.closeInterval (u : Units) : Units :=
  match u.weir.interval with
  | none => u
  | some i =>
    let g : GapRecord := { cause := 1, count := satN 32 i.kib, tStart := i.start, tEnd := i.last, lastGseq := i.gseq }
    ({ u with weir := { u.weir with interval := none, gaps := u.weir.gaps ++ [g] } }.wr Reg.WEIR_STATUS.REFUSING 0).rsvEvent 0x04
      (satN 32 i.kib)

/-- A request of n bytes fails for lack of depth. -/
def Units.weirFail (u : Units) (n : Nat) : Units :=
  let u := if u.weir.interval.isNone then u.openInterval else u
  let u := match u.weir.interval with
    | some i => { u with weir := { u.weir with interval := some { i with last := u.now, kib := i.kib + kibUp n } } }
    | none => u
  u.countN Reg.WEIR_REFUSED.COUNT Reg.WEIR_REFUSED.OVF (kibUp n)

/-- R216: the interval ends after 1 s; with failed requests still waiting, a new one begins at that instant. -/
def Units.intervalTimeout (u : Units) : Units :=
  if u.weir.interval.isNone then u
  else
    let u := u.closeInterval
    if u.weir.waits.any GrantWait.failed then u.openInterval else u

/-! ## Grants (R215) -/

/-- A grant of n more bytes in region r fits DEPTH. -/
def Units.depthFits (u : Units) (n : Nat) : Bool := !u.weir.closed && decide (u.held + n ≤ u.depthBytes)

/-- Make a grant: FILL advances; the interval ends if no failed request still waits. -/
def Units.grant (u : Units) (r n : Nat) : Units :=
  let u := (u.wr (Reg.WEIR_RGN_FILL.OFFSET r) (u.rgnFill r + n)).weirSync
  if u.weir.waits.any GrantWait.failed then u else u.closeInterval

/-- A request that does not wait: a core, the steward, a camera receiver or the mirror engine. The answer: granted. -/
def Units.grantNow (u : Units) (r n : Nat) : Bool × Units :=
  if u.weir.waits.isEmpty ∧ u.depthFits n then (true, u.grant r n) else (false, u.weirFail n)

/-- What a sluice burst's request gets: nothing needed or granted; waits; or the region's end would be passed. -/
inductive SluiceGrant where
  | go | wait | full
  deriving DecidableEq, Repr

/-- R215: a burst whose destination is [a, a + n): a grant is needed when it starts inside [POST, FILL] of a region and
ends beyond FILL. -/
def Units.sluiceGrant (u : Units) (ch a n : Nat) : SluiceGrant × Units :=
  match regions.find? fun r => u.rgnOn r && decide (u.rgnBase r + u.rgnPost r ≤ a) && decide (a ≤ u.rgnBase r + u.rgnFill r)
      && decide (a < u.rgnBase r + u.rgnSize r) && decide (u.rgnBase r + u.rgnFill r < a + n) with
  | none => (.go, { u with weir := { u.weir with waits := u.weir.waits.filter fun w => w.ch != ch } })
  | some r =>
    let e := a + n - u.rgnBase r
    let need := e - u.rgnFill r
    if u.rgnSize r < e then (.full, { u with weir := { u.weir with waits := u.weir.waits.filter fun w => w.ch != ch } })
    else if u.weir.waits.any fun w => w.ch == ch then (.wait, u)
    else if u.weir.waits.isEmpty then
      if u.depthFits need then (.go, u.grant r need)
      else (.wait, { u.weirFail need with weir := { (u.weirFail need).weir with waits := [⟨ch, r, e, true⟩] } })
    else (.wait, { u with weir := { u.weir with waits := u.weir.waits ++ [⟨ch, r, e, false⟩] } })

/-- Waiting requests are granted in arrival order, as long as the first fits (R215, R216). -/
def Units.grantWaiting (u : Units) : Nat → Units
  | 0 => u
  | k + 1 =>
    match u.weir.waits with
    | [] => u
    | w :: ws =>
      let rest := { u with weir := { u.weir with waits := ws } }
      if !u.rgnOn w.rgn || decide (w.end_ ≤ u.rgnFill w.rgn) || decide (u.rgnSize w.rgn < w.end_) then rest.grantWaiting k
      else if u.depthFits (w.end_ - u.rgnFill w.rgn) then (rest.grant w.rgn (w.end_ - u.rgnFill w.rgn)).grantWaiting k
      else if w.failed then u
      else
        let u := u.weirFail (w.end_ - u.rgnFill w.rgn)
        { u with weir := { u.weir with waits := { w with failed := true } :: ws } }

/-- A requester's last result of WEIR_RGN_RESERVE. -/
def Units.reserveRead (u : Units) (who r : Nat) : Nat := SMap.get 0xFFFFFFFF u.weir.results (r * 128 + who)

/-- R215: a core's or the steward's reservation. One that fails only because FILL would pass SIZE is no failure for lack of
depth. -/
def Units.reserve (u : Units) (who r n : Nat) : Units :=
  let put (u : Units) (v : Nat) : Units := { u with weir := { u.weir with results := SMap.set 0xFFFFFFFF u.weir.results (r * 128 + who) v } }
  if n = 0 ∨ n > 0x01000000 ∨ ¬ u.rgnOn r then put u 0xFFFFFFFF
  else if u.rgnFill r + n > u.rgnSize r then
    put (if u.weir.waits.isEmpty ∧ u.depthFits n then u else u.weirFail n) 0xFFFFFFFF
  else
    let at_ := u.rgnFill r
    let g := u.grantNow r n
    put g.2 (if g.1 then at_ else 0xFFFFFFFF)

/-! ## The depth law (R231 to R233) -/

/-- E_A in joules for a reserve at V_R mV and C_M mF. -/
def energyA (mv mf : Nat) : Rat := ((4 : Rat) / 10) * ((mf : Rat) / 1000) * (((mv : Rat) * mv - 25000000) / 1000000)

/-- C_M in mF: 0.80 F from each start until the first measurement (20_power.md R482). -/
def Units.cM (u : Units) : Nat := if u.rd Reg.WEIR_VRES.MF = 0 then 800 else u.rd Reg.WEIR_VRES.MF

/-- R_CAP in bytes per second. -/
def Units.rCap (u : Units) : Nat := min (u.rd Reg.RSV_RATE.CAP) u.census.part.rated * 1000000

/-- The energy term in MiB for a grace window in ms. -/
def Units.edepth (u : Units) (grace : Nat) : Nat :=
  let p := u.census.part
  let e : Rat := energyA (u.rd Reg.WEIR_VRES.MV) u.cM - p.eFixed - (p.pGrace : Rat) * (min grace 250 : Nat) / 1000
  if e ≤ 0 then 0 else (e * u.rCap / p.pFlush / 1048576).floor.toNat

/-- R231: the 1 ms update of DEPTH. -/
def Units.depthUpdate (u : Units) : Units :=
  let ed := u.edepth (u.rd Reg.WEIR_CFG.GRACE)
  let dmax := u.census.part.depthMax
  let pool := u.rd Reg.RSV_POOL.MIB - 1024
  let d0 := min ed (min dmax pool)
  let l0 := if d0 = ed then 0 else if d0 = dmax then 1 else 2
  let pct := max 1 (u.rd Reg.WEIR_CFG.DIP_PCT)
  let dip := u.is Reg.WEIR_STATUS.DIP
  let (d, l) : Nat × Nat :=
    if u.is Reg.WEIR_STATUS.FROZEN then (u.rd Reg.WEIR_DEPTH.DEPTH, 4)
    else if u.rsvNotReady then (0, 5)
    else if dip then (d0 * pct / 16, 3) else (d0, l0)
  let ea := (energyA (u.rd Reg.WEIR_VRES.MV) u.cM * 100).floor.toNat
  let u := (((u.wr Reg.WEIR_DEPTH.DEPTH d).wr Reg.WEIR_DEPTH.EDEPTH (satN 16 ed)).wr Reg.WEIR_STATUS.LIMIT l).wr Reg.WEIR_ENERGY.E (satN 16 ea)
  let excess := decide (u.held > ed * 1048576)
  let u := if excess then u.wr Reg.WEIR_STATUS.SHORT 1 else u
  let u := if excess ∧ ¬ u.weir.short then u.rsvEvent 0x08 (satN 16 ed) else u
  { u with weir := { u.weir with short := excess } }.weirSync

/-- R233: a GRACE that would make EDEPTH smaller than HELD is ignored. -/
def Units.graceWrite (u : Units) (v : Nat) : Units :=
  if u.edepth (v % 256) * 1048576 < u.held then u.wr Reg.WEIR_STATUS.CFG_REF 1 else u.wr Reg.WEIR_CFG.GRACE v

/-! ## Doorbells (R222) -/

/-- RSV_RING_STATUS.STATE codes. -/
def ringOff : Nat := 0
def ringIdle : Nat := 1
def ringActive : Nat := 2
def ringHalted : Nat := 3

def Units.ringState (u : Units) (n : Nat) : Nat := u.rd (Reg.RSV_RING_STATUS.STATE n)

/-- A doorbell of ring n. -/
def Units.doorbell (u : Units) (n : Nat) : Units :=
  let st := u.ringState n
  if u.weir.closed ∨ st = ringOff then u
  else if st = ringHalted then u.wr (Reg.RSV_RING_STATUS.RECHECK n) 1
  else
    let u := u.wr (Reg.RSV_RING_STATUS.ALLOW n) 4096
    if st = ringIdle then u.wr (Reg.RSV_RING_STATUS.STATE n) ringActive else u.wr (Reg.RSV_RING_STATUS.RECHECK n) 1

/-- The completion pulse of sluice channel c rings the rings that name it. -/
def Units.pulseDoorbells (u : Units) (c : Nat) : Units :=
  u.each (List.range 8) fun u n => if u.is (Reg.RSV_RING_CFG.DB_EN n) ∧ u.rd (Reg.RSV_RING_CFG.DB_CH n) = c then u.doorbell n else u

/-! ## Meanings -/

def execWeirGrantWaiting (s : State) : Host.Outcome State Fault Refusal := s.run true fun u => u.grantWaiting 64
def execWeirReserve (who r n : Nat) (s : State) : Host.Outcome State Fault Refusal :=
  s.run (decide (who < 65 ∧ r < 16)) fun u => u.reserve who r n
def execRefusalIntervalTimeout (s : State) : Host.Outcome State Fault Refusal := s.run true fun u => u.intervalTimeout
def execWeirRgnEnable (r : Nat) (s : State) : Host.Outcome State Fault Refusal := s.run (decide (r < 16)) fun u => u.rgnEnable r
def execWeirRgnDisable (r : Nat) (s : State) : Host.Outcome State Fault Refusal := s.run (decide (r < 16)) fun u => u.rgnDisable r
def execWeirRgnRewind (r : Nat) (s : State) : Host.Outcome State Fault Refusal := s.run (decide (r < 16)) fun u => u.rgnRewind r
def execWeirGraceWrite (v : Nat) (s : State) : Host.Outcome State Fault Refusal := s.run true fun u => u.graceWrite v
def execWeirDepthUpdate (s : State) : Host.Outcome State Fault Refusal := s.run true fun u => u.depthUpdate
def execRingDoorbell (n : Nat) (s : State) : Host.Outcome State Fault Refusal := s.run (decide (n < 8)) fun u => u.doorbell n

end Sys2Proof.Machine
end

