-- ==== Sys2Proof/Machine/Phys.lean ====
section
/-! DEFINITION. The 40-bit physical address space (01_architecture.md R16 to R18, R26, R27) and the responses of its units
(15_fabric_and_crossings.md R367, R368, R379). -/
namespace Sys2Proof.Machine

/-- The unit an address lies in (R26). -/
inductive Target where
  | none | dram | sram (n : Nat) | coreRam (k : Nat) | runnel (r : Nat) | staging | dock | twin
  deriving DecidableEq, Repr

def physTarget (a : Nat) : Target :=
  if a < 0x1000000000 then .dram
  else if a < 0x1002000000 then .sram ((a - 0x1000000000) / 0x400000)
  else if 0x1020000000 ≤ a ∧ a < 0x1021000000 then
    if (a - 0x1020000000) % 0x40000 < 0x30000 then .coreRam ((a - 0x1020000000) / 0x40000) else .none
  else if 0x1100000000 ≤ a ∧ a < 0x1100040000 then .runnel ((a - 0x1100000000) / 0x1000)
  else if 0x1200000000 ≤ a ∧ a < 0x1204000000 then .staging
  else if 0x1300000000 ≤ a ∧ a < 0x1300010000 then .dock
  else if 0x1400000000 ≤ a ∧ a < 0x1400010000 then .twin
  else .none

/-- Base of a basin's SRAM, and of a core's data and instruction RAM. -/
def sramBase (n : Nat) : Nat := 0x1000000000 + n * 0x400000
def dataRam (k : Nat) : Nat := 0x1020000000 + k * 0x40000
def instrRam (k : Nat) : Nat := dataRam k + 0x20000

/-- The destination port of an access from a source port (R16 to R18). -/
def physPort (src a : Nat) : Nat :=
  match physTarget a with
  | .none => src
  | .dram => 8 + 3 * bits a 9 8 + src % 3
  | .sram n => n
  | .coreRam k => if k < 64 then k / 8 else 27
  | .runnel _ => 22
  | .staging => 20 + bits a 12 12
  | .dock => 25
  | .twin => 26

/-- The core is held in reset (21_reset.md R508, R512). The steward's own core is never held by these registers. -/
def Units.held_ (u : Units) (k : Nat) : Bool :=
  if k < 32 then bit (u.rd Reg.RST_HELD_LO.CORE) k else if k < 64 then bit (u.rd Reg.RST_HELD_HI.CORE) (k - 32) else false

/-- The address maps to a unit that answers (R5, R27, R368). -/
def Units.physThere (u : Units) (a : Nat) : Bool :=
  match physTarget a with
  | .none => false
  | .sram n => u.basinPresent n
  | .coreRam k => u.corePresent k && k < 64 && u.held_ k
  | .dock => decide (u.census.part.present1 / 2 ^ 20 % 256 ≠ 0)
  | _ => true

/-- The clock domain of an address (R371); 0: clockless. -/
def physDomain (a : Nat) : Nat :=
  match physTarget a with
  | .dram => 8 + bits a 9 8
  | .staging => 12 + bits a 12 12
  | .dock => 22
  | .twin => 23
  | _ => 0

/-- What an access meets on its way to its unit (R377 to R379): a basin without supply answers as an OFF domain. -/
def Units.physReach (u : Units) (a : Nat) : Reach :=
  match physTarget a with
  | .sram n => if u.basinDark n then .off else .runs
  | .coreRam k => if u.basinDark (k / 8) then .off else .runs
  | _ => u.reach (physDomain a)

/-- The block is being reset: accesses to it are answered ERROR (21_reset.md R509). -/
def Units.blockBusy (u : Units) (cls idx : Nat) : Bool :=
  u.is Reg.RST_BLOCK.BUSY && u.rd Reg.RST_BLOCK.CLASS == cls && u.rd Reg.RST_BLOCK.INDEX == idx

/-- The unit refuses n bytes at a with its error response: a block in reset, the reservoir's working store
(09_reservoir.md R213), or a queue window access that is not an aligned 32-bit one in its range (16_networks.md R408). -/
def Units.physRefuses (u : Units) (write : Bool) (a n : Nat) : Bool :=
  let window (cls : Nat) : Bool :=
    let o := a % 0x10000
    u.blockBusy cls 0 || n != 4 || a % 4 != 0 || decide (o ≥ 0x8000) || (decide (o % 0x2000 < 0x1000) == write)
  match physTarget a with
  | .sram m => u.blockBusy 0x09 m
  | .runnel r => u.blockBusy 0x07 r
  | .staging => decide (a < 0x1202000000)
  | .dock => window 0x0F
  | .twin => window 0x10
  | _ => false

/-- The response a request gets before its unit performs it: OK, ERROR, NO_UNIT or DORMANT. -/
def Units.physCode (u : Units) (write : Bool) (a n : Nat) : Nat :=
  if !u.physThere a then respNoUnit
  else if u.physReach a = .off then respDormant
  else if u.physRefuses write a n then respError
  else if write && !(u.weirRefusing a n).isEmpty then respError
  else respOk

/-- Count and log an error response (R368, R379, R381); a refused weir write sets WR_REF (R214). -/
def Units.physFail (u : Units) (code : Nat) (write : Bool) (src a n : Nat) : Units :=
  if code = respNoUnit then u.noUnit write src a
  else if code = respDormant then
    (u.refuseDom (physDomain a)).fabLog code write src (physPort src a) a
  else
    let u := u.fabLog code write src (physPort src a) a
    if write ∧ u.physThere a ∧ u.physReach a ≠ .off ∧ ¬ u.physRefuses write a n then u.weirRefuse (u.weirRefusing a n) else u

def Units.cpuOf (u : Units) (k : Nat) : Cpu := SMap.get {} u.cpu k
def Units.setCpu (u : Units) (k : Nat) (x : Cpu) : Units := { u with cpu := SMap.set {} u.cpu k x }

/-- The core's reservation is lost. -/
def Units.dropRes (u : Units) (k : Nat) : Units := (u.setCpu k { u.cpuOf k with res := none }).wr (Reg.CORE_RES.VALID k) 0

/-- A store of n bytes at a by a requester: the reservations of every other core on the granules it touches are lost
(10_ehrel_isa.md R265; the core's own reservation is lost when its store issues). -/
def Units.killRes (u : Units) (who a n : Nat) : Units :=
  u.each ((List.range 65).filter (· ≠ who)) fun u k =>
    match (u.cpuOf k).res with
    | some g => if a < (g + 1) * 16 ∧ g * 16 < a + n then u.dropRes k else u
    | none => u

/-- The code an injected fault gives (R367, R370), with the fabric's record of it. -/
def Units.respFault (u : Units) (e : RespFault) (write : Bool) (src a : Nat) : Nat × Units :=
  let port := physPort src a
  match e with
  | .none => (respOk, u)
  | .flitCe => (respOk, u.count Reg.FAB_CE.COUNT Reg.FAB_CE.OVF)
  | .uncorr => if write then (respOk, u) else (respUncorr, u.fabLog respUncorr write src port a)
  | .flitData =>
    let code := if write then respError else respUncorr
    (code, (u.flitUe port false).fabLog code write src port a)
  | .flitSide => (respError, (u.flitUe port true).fabLog respError write src port a)

/-- A read of n bytes at a from a source port: response code, value, and the state after. `rp`: how a runnel window is
being read. -/
def State.physRead (s : State) (src : Nat) (rp : RunPort) (a n : Nat) : Nat × Nat × State :=
  let code := s.u.physCode false a n
  if code ≠ respOk then (code, 0, s.onU fun u => u.physFail code false src a n)
  else
    match physTarget a with
    | .runnel r =>
      let p := if n = 4 ∧ a % 4 = 0 then rp else .badAccess false
      let x := s.u.runRead r p .clean
      (respOk, x.1 % 2 ^ (8 * n), s.onU fun _ => x.2)
    | .dock => let x := s.u.queuePop false (a % 0x10000 / 0x2000); (respOk, x.1, s.onU fun _ => x.2)
    | .twin => let x := s.u.queuePop true (a % 0x10000 / 0x2000); (respOk, x.1, s.onU fun _ => x.2)
    | _ => (respOk, s.load a n, s)

/-- A write of n bytes at a from a source port by a requester (the runnel windows ask who): response code and state. -/
def State.physWrite (s : State) (src who a n v : Nat) : Nat × State :=
  let code := s.u.physCode true a n
  if code ≠ respOk then (code, s.onU fun u => u.physFail code true src a n)
  else
    match physTarget a with
    | .runnel r =>
      if n = 4 ∧ a % 4 = 0 then (respOk, s.onU fun u => u.runPush r who v true)
      else (respOk, s.onU fun u => (u.runRead r (.badAccess true) .clean).2)
    | .dock => (respOk, s.onU fun u => u.queuePush false (a % 0x10000 / 0x2000) v)
    | .twin => (respOk, s.onU fun u => u.queuePush true (a % 0x10000 / 0x2000) v)
    | _ => (respOk, (s.store a n v).onU fun u => u.killRes who a n)

end Sys2Proof.Machine
end

