-- ==== Sys2Proof/Machine/Cpu.lean ====
section
/-! DEFINITION. A core between instructions: when it runs, how an instruction completes, its event rings and the events
its instructions raise (10_ehrel_isa.md R247, R270, R275; 11_pipeline_and_timing.md R284; 13_events.md R326 to R338). -/
namespace Sys2Proof.Machine

/-! ## Rings (R336 to R338) -/

def ringCfgBase (fast : Bool) (k : Nat) : Fld := if fast then Reg.EVT_FRING_CFG.BASE k else Reg.EVT_NRING_CFG.BASE k
def ringCfgSize (fast : Bool) (k : Nat) : Fld := if fast then Reg.EVT_FRING_CFG.SIZE k else Reg.EVT_NRING_CFG.SIZE k
def ringCfgEn (fast : Bool) (k : Nat) : Fld := if fast then Reg.EVT_FRING_CFG.EN k else Reg.EVT_NRING_CFG.EN k
def ringWrF (fast : Bool) (k : Nat) : Fld := if fast then Reg.EVT_FRING_WR.INDEX k else Reg.EVT_NRING_WR.INDEX k
def ringRdF (fast : Bool) (k : Nat) : Fld := if fast then Reg.EVT_FRING_RD.INDEX k else Reg.EVT_NRING_RD.INDEX k
def ringDropC (fast : Bool) (k : Nat) : Fld := if fast then Reg.EVT_FRING_DROP.COUNT k else Reg.EVT_NRING_DROP.COUNT k
def ringDropO (fast : Bool) (k : Nat) : Fld := if fast then Reg.EVT_FRING_DROP.OVF k else Reg.EVT_NRING_DROP.OVF k

/-- Records a ring can hold. -/
def Units.ringSize (u : Units) (k : Nat) (fast : Bool) : Nat := 64 * 2 ^ u.rd (ringCfgSize fast k)
/-- Records a ring holds. -/
def Units.ringHeld (u : Units) (k : Nat) (fast : Bool) : Nat := (u.rd (ringWrF fast k) + 65536 - u.rd (ringRdF fast k)) % 65536

def Cpu.drops (x : Cpu) (fast : Bool) : Nat := if fast then x.fDrops else x.nDrops
def Cpu.setDrops (x : Cpu) (fast : Bool) (n : Nat) : Cpu := if fast then { x with fDrops := n } else { x with nDrops := n }
def Cpu.stepsSeen (x : Cpu) (fast : Bool) : Nat := if fast then x.fSteps else x.nSteps
def Cpu.setSteps (x : Cpu) (fast : Bool) (n : Nat) : Cpu := if fast then { x with fSteps := n } else { x with nSteps := n }

/-- Word 0 of a record (R333), without TSTEP. -/
def recHead (src kind : Nat) (fast sync loss : Bool) : Nat :=
  src + kind * 2 ^ 16 + b2n fast * 2 ^ 24 + b2n sync * 2 ^ 25 + b2n loss * 2 ^ 27

/-- The enable of a class. -/
def Units.ringIe (u : Units) (k : Nat) (fast : Bool) : Bool := if fast then u.is (Reg.EVT_CTRL.FIE k) else u.is (Reg.EVT_CTRL.NIE k)

/-- WAIT ends (R271). -/
def Units.endWait (u : Units) (k : Nat) : Units :=
  if (u.cpuOf k).waiting then u.setCpu k { u.cpuOf k with waiting := false } else u

/-- Write a record into the next slot and advance WR (R337); a pending class ends WAIT. -/
def State.ringPut (s : State) (k : Nat) (fast : Bool) (w0 time ang pay : Nat) : State :=
  let u := s.u
  let x := u.cpuOf k
  let wr := u.rd (ringWrF fast k)
  let w0 := w0 + b2n (x.stepsSeen fast != u.tim.steps) * 2 ^ 26
  let base := dataRam k + u.rd (ringCfgBase fast k) / 16 * 16
  (s.storeWords (base + 16 * (wr % u.ringSize k fast)) [w0, time, ang, pay]).onU fun u =>
    let u := (u.wr (ringWrF fast k) (wr + 1)).setCpu k (x.setSteps fast u.tim.steps)
    if u.ringIe k fast then u.endWait k else u

/-- A record reaches a ring: discarded while EN = 0; dropped and counted when the ring is full or the core's basin is
stopped (20_power.md R491). -/
def State.ringAdd (s : State) (k : Nat) (fast : Bool) (w0 time ang pay : Nat) : State :=
  let u := s.u
  if !u.is (ringCfgEn fast k) then s
  else if u.ringHeld k fast ≥ u.ringSize k fast || (k < 64 && u.basinDark (k / 8)) then
    s.onU fun u =>
      (u.count (ringDropC fast k) (ringDropO fast k)).setCpu k ((u.cpuOf k).setDrops fast ((u.cpuOf k).drops fast + 1))
  else s.ringPut k fast w0 time ang pay

/-- A record of the core's own instructions or of an event controller: time now, angle by EVT_CTRL.SBASE of the core that
raises it (R334). -/
def State.ownRecord (s : State) (from_ k : Nat) (fast : Bool) (w0 pay : Nat) : State :=
  s.ringAdd k fast w0 (s.u.now % 2 ^ 32) (s.u.stampAngle (s.u.rd (Reg.EVT_CTRL.SBASE from_)) s.u.clock) (pay % 2 ^ 32)

/-! ## Pending classes (R326, R327) -/

def Units.fastPend (u : Units) (k : Nat) : Bool :=
  (u.is (Reg.EVT_CTRL.FIE k) && u.ringHeld k true != 0) || (u.cpuOf k).sync.isSome
def Units.normPend (u : Units) (k : Nat) : Bool := u.is (Reg.EVT_CTRL.NIE k) && u.ringHeld k false != 0

/-- The class the core enters at its next entry point: true fast, false normal. -/
def Units.entryDue (u : Units) (k : Nat) : Option Bool :=
  if u.fastPend k && !u.is (Reg.EVT_ACTIVE.FACT k) then some true
  else if u.normPend k && !u.is (Reg.EVT_ACTIVE.NACT k) && !u.is (Reg.EVT_ACTIVE.FACT k) then some false
  else none

/-! ## When a core runs -/

/-- The core is present, released and supplied. -/
def Units.coreLive (u : Units) (k : Nat) : Bool :=
  u.corePresent k && !u.held_ k && (if k < 64 then !u.basinDark (k / 8) && !u.gate.coresOff else !u.gate.stwOff)

/-- Inside a REP no event enters (R268). -/
def Units.inRep (u : Units) (k : Nat) : Bool := match (u.cpuOf k).rep with | some r => !r.intr | none => false

/-- The core issues its next instruction: nothing holds it, and no event enters first. -/
def Units.coreRuns (u : Units) (k : Nat) : Bool :=
  let x := u.cpuOf k
  u.coreLive k && !u.gate.holding.contains k && !x.stopped && !x.waiting && x.acc.isNone && (u.entryDue k == none || u.inRep k)

/-- As coreRuns, at the start of an instruction that is not a repeat's target and not within a micro-routine. -/
def Units.coreFresh (u : Units) (k : Nat) : Bool := u.coreRuns k && (u.cpuOf k).rep.isNone && (u.cpuOf k).micro.isNone

/-! ## Completion (R251, R270, R284) -/

/-- Dual issue is on (R284, R292). -/
def Units.dualOn (u : Units) (k : Nat) : Bool := u.is (Reg.CORE_MODE.DUAL k) && !u.is (Reg.CORE_MODE.DET k)

/-- The instruction at pc completes as B of a pair: `cls` 1 is the first set of R284, 2 the second set alone, 0 neither. -/
def Units.pairsNow (u : Units) (k cls moved : Nat) : Bool :=
  let x := u.cpuOf k
  cls != 0 && moved == 0 && u.dualOn k && x.rep.isNone && x.pc % 32 != 0 && x.pair == some (x.pc - 1)

/-- The counters of a completed instruction: tokens, instructions, pairs, and whether it may be A of a pair. -/
def Units.retire (u : Units) (k tok cls moved : Nat) : Units :=
  let x := u.cpuOf k
  let p := u.pairsNow k cls moved
  let u := u.count (Reg.CORE_INSNS.COUNT k) (Reg.CORE_INSNS.OVF k)
  let u := u.countN (Reg.CORE_TOKS.COUNT k) (Reg.CORE_TOKS.OVF k) (if p then tok - 1 else tok)
  let u := if p then u.count (Reg.CORE_PAIRS.COUNT k) (Reg.CORE_PAIRS.OVF k) else u
  let a : Bool := cls == 1 && !p && moved == 0 && u.dualOn k && x.rep.isNone && !u.fastPend k && !u.normPend k
  u.setCpu k { u.cpuOf k with pair := if a then some x.pc else none }

def Units.setPc (u : Units) (k a : Nat) : Units := u.setCpu k { u.cpuOf k with pc := a % 2 ^ 32 }
def Units.pcOf (u : Units) (k : Nat) : Nat := (u.cpuOf k).pc

/-- An instruction completes and execution goes on at npc. Within a repeat one iteration is done: CNT is decremented, and
after the last one execution goes on behind the target. -/
def Units.complete (u : Units) (k tok npc cls moved : Nat) : Units :=
  let u := (u.retire k tok cls moved).wr (Reg.CORE_STATUS.RS k) 0
  match (u.cpuOf k).rep with
  | none => u.setPc k npc
  | some r =>
    let c := u.rd (Reg.CORE_CNT.CNT k) - 1
    let u := u.wr (Reg.CORE_CNT.CNT k) c
    if c = 0 then (u.setCpu k { u.cpuOf k with rep := none }).setPc k (r.prefx + 2) else u

/-- R270: a repeat ends before its count is done: execution resumes at the prefix, with RS = 1. -/
def Units.breakRep (u : Units) (k : Nat) : Units :=
  match (u.cpuOf k).rep with
  | none => u
  | some r => (u.setCpu k { u.cpuOf k with rep := none, pc := r.prefx }).wr (Reg.CORE_STATUS.RS k) 1

/-! ## Events raised by instructions (R275, R326, R329, R332) -/

/-- R332: a fast-class event while the fast class is active stops the core. -/
def State.doubleFault (s : State) (k kind : Nat) : State :=
  let s := s.onU fun u => u.setCpu k { u.cpuOf k with stopped := true }
  if k = 64 then s.onU fun u => { u with gate := { u.gate with stwDf := true } }
  else s.ownRecord k 64 false (recHead (0xD000 + k) 0x02 false false false) (kind + s.u.rd (Reg.EVT_FCAUSE.KIND k) * 2 ^ 8)

/-- A fast-class event is raised: its record is written to the fast ring with SYNC = 1, and it causes an entry, unless an
entry already has a synchronous cause (R329). -/
def State.raiseFast (s : State) (k kind pay : Nat) (imprecise : Bool) : State :=
  if s.u.is (Reg.EVT_ACTIVE.FACT k) then s.doubleFault k kind
  else
    let s := s.ownRecord k k true (recHead k kind true true false) pay
    if (s.u.cpuOf k).sync.isSome then s
    else s.onU fun u => (u.setCpu k { u.cpuOf k with sync := some ⟨kind, pay % 2 ^ 32, imprecise⟩ }).endWait k

/-- An event of the instruction in progress. Where it resumes is the pc as it now stands; a repeat ends. -/
def State.raise (s : State) (k kind pay : Nat) : State := (s.onU fun u => u.breakRep k).raiseFast k kind pay false

def evUndef : Nat := 0x01
def evBus : Nat := 0x02
def evAlign : Nat := 0x03
def evStack : Nat := 0x04
def evArith : Nat := 0x05
def evRepCount : Nat := 0x06
def evBrk : Nat := 0x07
def evSwe : Nat := 0x08

/-- CORE_FAULT and CORE_FPC (R243). Space 0 I-space, 1 D-space, 2 IO-space. -/
def Units.latchFault (u : Units) (k space : Nat) (write imprecise : Bool) (err pc : Nat) : Units :=
  ((((u.wr (Reg.CORE_FAULT.SPACE k) space).wrb (Reg.CORE_FAULT.WRITE k) write).wrb (Reg.CORE_FAULT.IMPRECISE k) imprecise).wr
    (Reg.CORE_FAULT.ERR k) err).wr (Reg.CORE_FPC.PC k) pc

/-- R244: a misaligned access: ALIGN, resuming at the instruction. -/
def State.alignFault (s : State) (k space : Nat) (write : Bool) (a : Nat) : State :=
  (s.onU fun u => u.latchFault k space write false 0 (u.pcOf k)).raise k evAlign a

end Sys2Proof.Machine
end

