-- ==== Sys2Proof/Machine/Basin.lean ====
section
/-! DEFINITION. The basin voltage controllers (11_pipeline_and_timing.md R296 to R305) and basin idle (20_power.md R488). -/
namespace Sys2Proof.Machine

/-! ## Idle (20_power.md R488) -/

/-- The core waits with WMODE 1 or 2, or is held in reset. -/
def Units.coreIdle (u : Units) (k : Nat) : Bool :=
  u.held_ k || ((u.cpuOf k).waiting && u.rd (Reg.CORE_MODE.WMODE k) != 0)
/-- The retain condition: waiting with WMODE 2, or held in reset. -/
def Units.coreRetain (u : Units) (k : Nat) : Bool :=
  u.held_ k || ((u.cpuOf k).waiting && u.rd (Reg.CORE_MODE.WMODE k) == 2)
def basinCores (n : Nat) : List Nat := (List.range 8).map fun c => 8 * n + c
/-- A basin is IDLE while each of its released cores waits with WMODE 1 or 2. -/
def Units.basinIdle (u : Units) (n : Nat) : Bool := (basinCores n).all u.coreIdle

/-- BSN_PWR_STATUS (R497): STOPPING and STOPPED as stored, RUN and IDLE as the cores stand. -/
def Units.pwrStatus (u : Units) (n : Nat) : Nat :=
  let st := u.rd (Reg.BSN_PWR_STATUS.STATE n)
  let st := if 2 ≤ st then st else b2n (u.basinIdle n)
  let mask (f : Nat → Bool) : Nat := (List.range 8).foldl (fun a c => a + b2n (f (8 * n + c)) * 2 ^ c) 0
  st + mask (fun k => (u.cpuOf k).waiting) * 2 ^ 8 + mask u.coreRetain * 2 ^ 16

/-! ## The monitor (R296) -/

def Units.voltOf (u : Units) (n : Nat) : Volt := SMap.get {} u.volt n
def Units.setVolt (u : Units) (n : Nat) (x : Volt) : Units := { u with volt := SMap.set {} u.volt n x }

def Units.monitor (u : Units) (n now tj : Nat) : Units :=
  let u := (u.wr (Reg.BSN_TOKEN.NOW n) now).wr (Reg.BSN_TJ.TEMP n) tj
  let u := if u.rd (Reg.BSN_TOKMAX.MAX n) < now then u.wr (Reg.BSN_TOKMAX.MAX n) now else u
  u.setVolt n { u.voltOf n with read := true }

/-! ## The controller (R297 to R300) -/

/-- What an update works with: the law in force (0 fixed, 1 throughput, 2 angle-tracking, 3 fallback), its target period in
10 ps (none: unbounded), and whether lowering is barred. -/
structure VLaw where
  law : Nat
  t : Option Rat
  noLower : Bool

/-- The required period of R298, in units of 10 ps. -/
def Units.angleT (u : Units) (n : Nat) : Option Rat :=
  let e := u.rd (Reg.BSN_VCTRL.ENG n)
  let a : Int := max (toInt 32 (u.rd (Reg.ANG_ACCEL.ACCEL e))) 0
  let rpm : Rat := (u.rd (Reg.ANG_SPEED.SPEED e) : Rat) / 16 + ((a * u.rd (Reg.BSN_BUDGET.LOOKAHEAD n) : Int) : Rat) / 1000
  let d := 6 * rpm * u.rd (Reg.BSN_BUDGET.TOKENS n)
  if d = 0 then none else some (100000000000 / d)

def Units.vlaw (u : Units) (n : Nat) : VLaw :=
  match u.rd (Reg.BSN_VCTRL.MODE n) with
  | 0 => ⟨0, none, false⟩
  | 1 => ⟨1, some (max 1 (u.rd (Reg.BSN_TARGET.PERIOD n)) : Nat), false⟩
  | _ =>
    let st := u.rd (Reg.ANG_STATUS.STATE (u.rd (Reg.BSN_VCTRL.ENG n)))
    if st = stOff ∨ st = stFault then ⟨3, none, false⟩ else ⟨2, u.angleT n, st == stSeek || st == stCrank⟩

/-- One step toward a goal. -/
def stepTo (v goal : Nat) : Nat := if v < goal then v + 1 else if goal < v then v - 1 else v

/-- BSN_TREQ of an update. -/
def treqOf (l : VLaw) (period : Nat) : Nat :=
  if l.law = 1 then period
  else match l.t with | some t => min t.floor.toNat 0xFFFE | none => 0xFFFF

/-- R300: the overrun counters of an update. -/
def Units.vOverrun (u : Units) (n : Nat) (late atTop : Bool) : Units :=
  let x := u.voltOf n
  let x := { x with overs := if late && atTop then x.overs + 1 else 0, under := if late then 0 else x.under + 1 }
  let pay := u.rd (Reg.BSN_TREQ.T n) + u.rd (Reg.BSN_TOKEN.NOW n) * 2 ^ 16
  let u := u.setVolt n x
  if !u.is (Reg.BSN_VSTATUS.OVR n) then
    if 10 ≤ x.overs then
      (((u.wr (Reg.BSN_VSTATUS.OVR n) 1).wr (Reg.BSN_VSTATUS.OVR_SEEN n) 1).count (Reg.BSN_OVRCNT.COUNT n) (Reg.BSN_OVRCNT.OVF n)).emit (0x8000 + n) 0x01 pay
    else u
  else if 100 ≤ x.under then (u.wr (Reg.BSN_VSTATUS.OVR n) 0).emit (0x8000 + n) 0x02 pay
  else u

/-- R299: one update of the voltage. -/
def Units.vStep (u : Units) (n : Nat) (l : VLaw) : Units :=
  let v := u.rd (Reg.BSN_VSTATUS.VNOW n)
  let top := min (u.rd (Reg.BSN_VLIM.VMAX n)) (u.rd (Reg.BSN_VSTATUS.CEIL n))
  let vmin := min (u.rd (Reg.BSN_VLIM.VMIN n)) top
  let now := u.rd (Reg.BSN_TOKEN.NOW n)
  let x := u.voltOf n
  let late : Bool := match l.t with | some t => decide (t < (now : Rat)) | none => false
  let slack : Bool := match l.t with | some t => decide ((16 * now : Nat) < 15 * t) | none => true
  let put (v calm : Nat) : Units := (u.wr (Reg.BSN_VSTATUS.VNOW n) v).setVolt n { x with calm := calm }
  let u :=
    if u.basinIdle n ∧ l.law ≤ 1 then put (stepTo v vmin) 0
    else if l.law = 0 then put (stepTo v (max vmin (min top (u.rd (Reg.BSN_VSET.VFIX n))))) 0
    else if l.law = 3 then put (stepTo v (max vmin (min top (u.rd (Reg.BSN_VSET.VFB n))))) 0
    else if top < v then put (v - 1) 0
    else if v < vmin then put (v + 1) 0
    else if late then put (if v < top then v + 1 else v) 0
    else if slack && decide (vmin < v) && !l.noLower then (if 64 ≤ x.calm + 1 then put (v - 1) 0 else put v (x.calm + 1))
    else put v 0
  (u.vOverrun n late (v == top)).wrb (Reg.BSN_VSTATUS.AT_TOP n) (u.rd (Reg.BSN_VSTATUS.VNOW n) == top)

/-- The controller's update, every 1 us. Laws 1 and 2 make none before the monitor's first reading. -/
def Units.vUpdate (u : Units) (n : Nat) : Units :=
  let l := u.vlaw n
  if !u.basinPresent n || u.basinDark n then u
  else if (l.law = 1 ∨ l.law = 2) ∧ ¬ (u.voltOf n).read then u
  else ((u.wr (Reg.BSN_VSTATUS.ACTIVE n) l.law).wr (Reg.BSN_TREQ.T n) (treqOf l (u.rd (Reg.BSN_TARGET.PERIOD n)))).vStep n l

/-! ## Register writes (R302, R304) -/

def Units.vctrlWrite (u : Units) (n v : Nat) : Units :=
  let u := u.wr (Reg.BSN_VCTRL.ENG n) (v / 4)
  if v % 4 = 2 ∧ u.rd (Reg.BSN_BUDGET.TOKENS n) = 0 then u.wr (Reg.BSN_VSTATUS.CFG_ERR n) 1
  else u.writeField false (Reg.BSN_VCTRL.MODE n) v

def Units.vlimWrite (u : Units) (n v : Nat) : Units :=
  let t := (u.writeField false (Reg.BSN_VLIM.VMIN n) v).writeField false (Reg.BSN_VLIM.VMAX n) v
  if t.rd (Reg.BSN_VLIM.VMAX n) < t.rd (Reg.BSN_VLIM.VMIN n) then u.wr (Reg.BSN_VSTATUS.CFG_ERR n) 1 else t

/-! ## Meanings -/

def execBsnMonitorReading (n now tj : Nat) (s : State) : Host.Outcome State Fault Refusal :=
  s.run (decide (n < 8 ∧ now < 65536 ∧ tj < 256)) fun u => if u.basinPresent n && !u.basinDark n then u.monitor n now tj else u
def execBsnVctrlUpdate (n : Nat) (s : State) : Host.Outcome State Fault Refusal := s.run (decide (n < 8)) fun u => u.vUpdate n
def execBsnVctrlWrite (n v : Nat) (s : State) : Host.Outcome State Fault Refusal :=
  s.run (decide (n < 8)) fun u => if u.basinPresent n then u.vctrlWrite n v else u
def execBsnVlimWrite (n v : Nat) (s : State) : Host.Outcome State Fault Refusal :=
  s.run (decide (n < 8)) fun u => if u.basinPresent n then u.vlimWrite n v else u
def execBsnTokmaxClr (n : Nat) (s : State) : Host.Outcome State Fault Refusal :=
  s.run (decide (n < 8)) fun u => u.wr (Reg.BSN_TOKMAX.MAX n) 0

end Sys2Proof.Machine
end

