-- ==== Sys2Proof/Machine/Records.lean ====
section
/-! DEFINITION. Records, commit groups and seals as bytes (07_records.md R162 to R187). -/
namespace Sys2Proof.Machine

/-- The 32 bytes of a record header, HCRC computed over them (R163). -/
def recHeader (type flags source len time angle tsid lsess : Nat) : List Nat :=
  let h := [type % 256, flags % 256] ++ leBytes 2 source ++ leBytes 4 len ++ leBytes 8 time ++ leBytes 4 angle ++
    leBytes 2 tsid ++ [0, 0] ++ leBytes 4 lsess
  h ++ leBytes 4 (crc32c h)

/-- Zero bytes up to a multiple of 8 (R164). -/
def padTo8 (bs : List Nat) : List Nat := bs ++ List.replicate ((8 - bs.length % 8) % 8) 0

/-- A record the module or the host writes: SOURCE 0 and the no-angle value. -/
def moduleRecord (type time : Nat) (payload : List Nat) : List Nat :=
  padTo8 (recHeader type 0 0 (32 + payload.length) time noAngle 0 0 ++ payload)

/-- The types a posted buffer may hold (R168). -/
def postable (t : Nat) : Bool := (1 ≤ t && t ≤ 6) || t == 8 || (0xE0 ≤ t && t ≤ 0xFE)

/-- The header a posted record begins with is one R167, R168 and R180 accept. -/
def postedHeaderOk (r : List Nat) : Bool :=
  leNat ((r.drop 28).take 4) == crc32c (r.take 28) && postable (r.getD 0 0) && (r.getD 1 0 &&& 0xC2) == 0 &&
    leNat ((r.drop 20).take 8) == 0

/-- The records of a posted buffer, each with its padding, when they fill it exactly (R164, R180). -/
def splitRecords : Nat → List Nat → Option (List (List Nat))
  | 0, _ => none
  | fuel + 1, bs =>
    if bs.isEmpty then some []
    else
      let len := leNat ((bs.drop 4).take 4)
      let occ := (len + 7) / 8 * 8
      if 32 ≤ len ∧ len ≤ 0x01000000 ∧ occ ≤ bs.length ∧ postedHeaderOk bs ∧ ((bs.take occ).drop len).all (· == 0) then
        (splitRecords fuel (bs.drop occ)).map (bs.take occ :: ·)
      else none

/-- R180: the records of a buffer that is not refused. -/
def postedRecords (bs : List Nat) : Option (List (List Nat)) :=
  if bs.length > 0x01FFF000 then none else splitRecords (bs.length / 32 + 1) bs

/-- R167: what commit writes into a record's header: TSID, LSESS, the HOST and DETACHED flags, and HCRC. -/
def stampRecord (tsid lsess : Nat) (detached host : Bool) (r : List Nat) : List Nat :=
  let fl := r.getD 1 0 ||| ((if detached then 2 else 0) + (if host then 64 else 0))
  let h := [r.getD 0 0, fl] ++ (r.drop 2).take 18 ++ leBytes 2 tsid ++ [0, 0] ++ leBytes 4 lsess
  h ++ leBytes 4 (crc32c h) ++ r.drop 32

/-- TIME of a record. -/
def recordTime (r : List Nat) : Nat := leNat ((r.drop 8).take 8)

/-- The payload of a GAP record (R174), and the record. -/
def gapRecord (g : GapRecord) : List Nat :=
  moduleRecord 0x07 g.tEnd ([g.cause, 0, 0, 0] ++ leBytes 4 g.count ++ leBytes 8 g.tStart ++ leBytes 8 g.tEnd ++ leBytes 8 g.lastGseq)

/-- A FINGERPRINT record (R176). -/
def fingerprintRecord (time cause fp gen oldFp oldGen : Nat) : List Nat :=
  moduleRecord 0x09 time (leBytes 8 fp ++ leBytes 4 gen ++ leBytes 4 cause ++ leBytes 8 oldFp ++ leBytes 4 oldGen ++ [0, 0, 0, 0])

/-- An ANNOTATION record of the host (R175). -/
def annotationRecord (time akind : Nat) (bytes : List Nat) : List Nat :=
  moduleRecord 0x08 time (leBytes 2 akind ++ leBytes 2 bytes.length ++ bytes)

/-- A PARTNER_INDEX record (R177). -/
def partnerIndexRecord (time unit : Nat) (entries : List (List Nat)) : List Nat :=
  moduleRecord 0x0B time (leBytes 4 unit ++ leBytes 4 entries.length ++ entries.flatten)

/-- Byte i of a key or signature. -/
def keyBytes (n : Nat) (f : Nat → Nat) : List Nat := (List.range n).map fun i => f i % 256

/-- The SEAL record of a span (R186, R187). -/
def sealRecord (time sseq first last : Nat) (hLast volume : List Nat) (fp gen : Nat) : List Nat :=
  let p := leBytes 4 1 ++ leBytes 4 0 ++ leBytes 8 sseq ++ leBytes 8 first ++ leBytes 8 last ++ hLast ++ volume ++
    leBytes 8 fp ++ leBytes 4 gen ++ leBytes 4 Config.unit ++ keyBytes 32 Config.publicKey
  moduleRecord 0x0A time (p ++ keyBytes 64 (Config.sealSignature (ascii "SWK-SEAL" ++ p)))

/-- The anchor of a volume's chain (R184). -/
def chainAnchor (volume : List Nat) : List Nat := sha256 (ascii "SWK-VOL1" ++ volume)

/-- A commit group: header, records region and trailer (R178, R179, R184). -/
def buildGroup (gflags gseq fp gen lsess : Nat) (prev : List Nat) (recs : List (List Nat)) : Group :=
  let region := recs.flatten
  let ts := recs.map recordTime
  let tMin := ts.foldl min (ts.headD 0)
  let tMax := ts.foldl max 0
  let h := ascii "SWKG" ++ leBytes 2 1 ++ leBytes 2 gflags ++ leBytes 8 gseq ++ leBytes 8 tMin ++ leBytes 8 tMax ++
    leBytes 8 fp ++ leBytes 4 gen ++ leBytes 4 recs.length ++ leBytes 4 region.length ++ leBytes 4 lsess ++ leBytes 4 Config.unit
  let h := h ++ leBytes 4 (crc32c h)
  let t := ascii "SWKT" ++ leBytes 4 recs.length ++ leBytes 8 gseq
  let hash := sha256 (prev ++ h ++ region ++ t)
  let t := t ++ prev ++ hash
  { gseq := gseq, tMin := tMin, tMax := tMax, fprint := fp, fgen := gen, rcount := recs.length,
    sealed := decide (gflags % 2 = 1), hash := hash,
    bytes := h ++ region ++ t ++ leBytes 4 (crc32c t) ++ List.replicate 12 0 }

end Sys2Proof.Machine
end

