-- ==== Sys2Proof/Machine/Sinks.lean ====
section
/-! DEFINITION. The record sinks of the switch, the CAN block and the cameras (16_networks.md R391 to R395). Sink 0 is the
switch's, 1 the CAN block's, 2 the cameras'. -/
namespace Sys2Proof.Machine

def Units.sinkOf (u : Units) (x : Nat) : Sink := SMap.get {} u.sink x
def Units.setSink (u : Units) (x : Nat) (k : Sink) : Units := { u with sink := SMap.set {} u.sink x k }
def Units.sinkOn (u : Units) (x : Nat) : Bool := u.is (Reg.SINK_CFG.EN x)
def sinkSource (x : Nat) : Nat := 0x9000 + 0x10 * x

def sinkRdy (x r : Nat) : Fld := if r = 0 then Reg.SINK_RDY0.OFFSET x else Reg.SINK_RDY1.OFFSET x
/-- The weir region in use, and the other one. -/
def Units.sinkRegion (u : Units) (x cur : Nat) : Nat := if cur = 0 then u.rd (Reg.SINK_CFG.REG0 x) else u.rd (Reg.SINK_CFG.REG1 x)
def Units.sinkCur (u : Units) (x : Nat) : Nat := u.rd (Reg.SINK_STATUS.CUR x)

/-- Hand a piece to a sink that is on. -/
def Units.sinkPut (u : Units) (x : Nat) (p : Piece) : Units :=
  if u.sinkOn x ∧ ¬ u.pwr.acqOff then u.setSink x { u.sinkOf x with pieces := (u.sinkOf x).pieces ++ [p] } else u

/-- The angle word of a sink's base at a tick (R392). -/
def Units.sinkAngle (u : Units) (x t : Nat) : Nat := u.stampAngle (u.rd (Reg.SINK_CFG.BASE x)) t

/-- A piece captured at tick t. -/
def Units.pieceAt (u : Units) (x src t : Nat) (bytes : List Nat) : Piece :=
  { src := src, time := u.timeAt t, angle := u.sinkAngle x t, steps := u.tim.steps, bytes := bytes }

/-- SINK_READY (R395): at a region switch and at supply loss always, else when NOTIFY KiB are ready. -/
def Units.sinkSayReady (u : Units) (x : Nat) (always : Bool) : Units :=
  let k := u.sinkOf x
  if always ∨ u.rd (Reg.SINK_NOTIFY.KIB x) * 1024 ≤ k.ready then
    (u.setSink x { k with ready := 0 }).emit (sinkSource x) 0x10 (u.sinkCur x + satN 16 (k.ready / 1024) * 2 ^ 16)
  else u

/-- Bytes a record of n bytes occupies (R164). -/
def occupies (n : Nat) : Nat := (n + 7) / 8 * 8

/-- RDY moves to the end of a finished record. -/
def Units.sinkReady (u : Units) (x e n : Nat) : Units :=
  ((u.wr (sinkRdy x (u.sinkCur x)) e).setSink x { u.sinkOf x with ready := (u.sinkOf x).ready + n }).sinkSayReady x false

/-- Write bytes of a sink into its region; other requesters' reservations on them are lost. -/
def State.sinkWrite (s : State) (rgn off : Nat) (bs : List Nat) : State :=
  let a := s.u.rgnBase rgn + off
  (s.storeBytes a bs).onU fun u => u.killRes 65 a bs.length

/-- Close the open record: padding, then the header as the last write (R392, R393). -/
def State.sinkClose (s : State) (x : Nat) : State :=
  match (s.u.sinkOf x).opened with
  | none => s
  | some o =>
    let rgn := s.u.sinkRegion x (s.u.sinkCur x)
    let n := occupies o.len
    let s := s.sinkWrite rgn (o.off + o.len) (List.replicate (n - o.len) 0)
    let s := s.sinkWrite rgn o.off (recHeader 0x04 (if o.tstep then 4 else 0) o.src o.len o.time o.angle 0 0)
    s.onU fun u => ((u.setSink x { u.sinkOf x with opened := none }).wr (Reg.SINK_STATUS.OPEN x) 0).sinkReady x (o.off + n) n

/-- Close the records of every sink (a time step, R393). -/
def State.sinksClose (s : State) : State := (List.range 3).foldl State.sinkClose s

/-- Supply loss is declared (R395): records close and SINK_READY is emitted. -/
def State.sinksFlush (s : State) : State :=
  (List.range 3).foldl (fun s x => if s.u.sinkOn x then (s.sinkClose x).onU fun u => u.sinkSayReady x true else s) s

/-- R391: EN 0→1. -/
def Units.sinkEnable (u : Units) (x : Nat) : Units :=
  let a := u.rd (Reg.SINK_CFG.REG0 x)
  let b := u.rd (Reg.SINK_CFG.REG1 x)
  if u.sinkOn x then u
  else if a ≠ b ∧ u.rgnOn a ∧ u.rgnOn b then
    (((u.setSink x {}).wr (Reg.SINK_CFG.EN x) 1).wr (Reg.SINK_STATUS.CFG_ERR x) 0).wr (Reg.SINK_STATUS.CUR x) 0
  else u.wr (Reg.SINK_STATUS.CFG_ERR x) 1

/-- R393: EN 1→0 closes the open record; pieces still waiting are not written. -/
def State.sinkDisable (s : State) (x : Nat) : State :=
  if s.u.sinkOn x then (s.sinkClose x).onU fun u => (u.setSink x { u.sinkOf x with pieces := [] }).wr (Reg.SINK_CFG.EN x) 0 else s

/-! ## Pieces (R394) -/

/-- A camera's frame whose fragment is refused is discarded: its later fragments too (R403). -/
def Units.camDiscard (u : Units) (n frame : Nat) : Units :=
  let c : CamRx := SMap.get {} u.cam n
  let u := if c.inFrame ∧ c.frame = frame then { u with cam := SMap.set {} u.cam n { c with kept := false, data := [] } } else u
  let k := u.sinkOf 2
  let u := u.setSink 2 { k with pieces := k.pieces.filter fun p => p.src != n || p.frame != frame }
  (u.count (Reg.CAM_WDROP.COUNT n) (Reg.CAM_WDROP.OVF n)).emit (0x9020 + n) 0x04 frame

/-- Discard a piece, counted in SINK_DROP. -/
def Units.sinkDiscard (u : Units) (x : Nat) (p : Piece) : Units :=
  let u := u.count (Reg.SINK_DROP.COUNT x) (Reg.SINK_DROP.OVF x)
  if x = 2 then u.camDiscard p.src p.frame else u

/-- The record a piece would continue must close first (R393): another SOURCE, too long, or 2 s after TIME. -/
def Units.mustClose (u : Units) (x : Nat) (p : Piece) (o : OpenRec) : Bool :=
  decide (o.src ≠ p.src) || decide (max 1 (u.rd (Reg.SINK_CFG.MAXREC x)) * 65536 < o.len + p.bytes.length) ||
    decide (o.time + 2000000000 ≤ p.time)

/-- Switch to the other region, if it is enabled and its FILL is 0: whether it was ready. -/
def State.sinkSwitch (s : State) (x : Nat) : Bool × State :=
  let s := s.sinkClose x
  let cur := s.u.sinkCur x
  let next := s.u.sinkRegion x (1 - cur)
  if s.u.rgnOn next ∧ s.u.rgnFill next = 0 then
    (true, s.onU fun u =>
      let u := u.sinkSayReady x true
      ((u.wr (Reg.SINK_STATUS.CUR x) (1 - cur)).wr (sinkRdy x (1 - cur)) 0).emit (sinkSource x) 0x11 (1 - cur))
  else
    let said := (s.u.sinkOf x).full
    (false, s.onU fun u =>
      let u := (u.setSink x { u.sinkOf x with full := true }).wr (Reg.SINK_STATUS.FULL x) 1
      if said then u else u.emit (sinkSource x) 0x12 0)

/-- The first record of a source after a time step carries TSTEP (R392). -/
def Units.sinkStep (u : Units) (x : Nat) (p : Piece) : Bool × Units :=
  let k := u.sinkOf x
  (decide (SMap.get 0 k.steps p.src ≠ p.steps), u.setSink x { k with steps := SMap.set 0 k.steps p.src p.steps })

/-- Write a piece that has been granted: `off` is where the grant began. -/
def State.sinkStore (s : State) (x off n : Nat) (p : Piece) : State :=
  let rgn := s.u.sinkRegion x (s.u.sinkCur x)
  let s := s.onU fun u => u.setSink x { u.sinkOf x with full := false }
  if x = 2 then
    let ts := s.u.sinkStep x p
    let h := recHeader 0x05 (p.flags + (if ts.1 then 4 else 0)) p.src (32 + p.bytes.length) p.time p.angle 0 0
    let s := (s.onU fun _ => ts.2).sinkWrite rgn off (padTo8 (h ++ p.bytes))
    s.onU fun u => u.sinkReady x (off + n) n
  else
    match (s.u.sinkOf x).opened with
    | some o =>
      let s := s.sinkWrite rgn (o.off + o.len) p.bytes
      s.onU fun u => u.setSink x { u.sinkOf x with opened := some { o with len := o.len + p.bytes.length, granted := o.granted + n } }
    | none =>
      let ts := s.u.sinkStep x p
      let s := (s.onU fun _ => ts.2).sinkWrite rgn (off + 32) p.bytes
      let o : OpenRec := { off := off, len := 32 + p.bytes.length, granted := n, src := p.src, time := p.time, angle := p.angle, tstep := ts.1 }
      s.onU fun u => (u.setSink x { u.sinkOf x with opened := some o }).wr (Reg.SINK_STATUS.OPEN x) 1

/-- Bytes a piece asks for: with the record it joins they reach a multiple of 8. -/
def Units.sinkNeeds (u : Units) (x : Nat) (p : Piece) : Nat :=
  match (u.sinkOf x).opened with
  | some o => occupies (o.len + p.bytes.length) - o.granted
  | none => occupies (32 + p.bytes.length)

/-- Ask for a piece's grant in the region in use; a region too small is left for the other one, `k` times. -/
def State.sinkTry (s : State) (x : Nat) (p : Piece) : Nat → State
  | 0 => s.onU fun u => u.sinkDiscard x p
  | k + 1 =>
    let rgn := s.u.sinkRegion x (s.u.sinkCur x)
    let n := s.u.sinkNeeds x p
    let off := s.u.rgnFill rgn
    if ¬ s.u.rgnOn rgn ∨ s.u.rgnSize rgn < off + n then
      let r := s.sinkSwitch x
      if r.1 then r.2.sinkTry x p k else r.2.onU fun u => u.sinkDiscard x p
    else
      let g := s.u.grantNow rgn n
      let s := s.onU fun _ => g.2
      if g.1 then s.sinkStore x off n p else s.onU fun u => u.sinkDiscard x p

/-- R394: the oldest piece of a sink. During a holdup flush the blocks request no grants (09_reservoir.md R235). -/
def State.sinkPiece (s : State) (x : Nat) : State :=
  match (s.u.sinkOf x).pieces with
  | [] => s
  | p :: ps =>
    let s := s.onU fun u => u.setSink x { u.sinkOf x with pieces := ps }
    if s.u.rd Reg.RSV_STATUS.STATE = rsvFlushing then s.onU fun u => u.sinkDiscard x p
    else
      let s := match (s.u.sinkOf x).opened with
        | some o => if x ≠ 2 ∧ s.u.mustClose x p o then s.sinkClose x else s
        | none => s
      s.sinkTry x p 2

/-! ## Meanings -/

def execSinkEnable (x : Nat) (s : State) : Host.Outcome State Fault Refusal := s.run (decide (x < 3)) fun u => u.sinkEnable x
def execSinkDisable (x : Nat) (s : State) : Host.Outcome State Fault Refusal := s.runS (decide (x < 3)) fun s => s.sinkDisable x
def execSinkPiece (x : Nat) (s : State) : Host.Outcome State Fault Refusal := s.runS (decide (x < 3)) fun s => s.sinkPiece x
def execSinkAgeExpire (x : Nat) (s : State) : Host.Outcome State Fault Refusal :=
  s.runS (decide (x < 3)) fun s => if s.u.rd (Reg.SINK_CFG.AGE x) = 0 then s else s.sinkClose x

end Sys2Proof.Machine
end

