-- ==== Sys2Proof/Machine/Cam.lean ====
section
/-! DEFINITION. The camera receivers (16_networks.md R402 to R404). -/
namespace Sys2Proof.Machine

def Units.camOf (u : Units) (n : Nat) : CamRx := SMap.get {} u.cam n
def Units.setCam (u : Units) (n : Nat) (c : CamRx) : Units := { u with cam := SMap.set {} u.cam n c }
def camSource (n : Nat) : Nat := 0x9020 + n

/-- Bytes of data a fragment holds at most: MAXREC of the camera sink, 4 at most. -/
def Units.fragMax (u : Units) : Nat := min 4 (max 1 (u.rd (Reg.SINK_CFG.MAXREC 2))) * 65536 - 48

/-- Close the fragment being filled: MORE = 0 when the frame ends. -/
def Units.camClose (u : Units) (n : Nat) (last : Bool) : Units :=
  let c := u.camOf n
  let fixed := [n, 0] ++ leBytes 2 c.frag ++ leBytes 4 c.frame ++
    leBytes 4 (if last then c.stored + c.data.length else 0xFFFFFFFF) ++ leBytes 4 c.stored
  let p : Piece := { src := n, time := c.time, angle := c.angle, steps := u.tim.steps, bytes := fixed ++ c.data, frame := c.frame,
                     flags := b2n c.damage + (if last then 0 else 8) + (if c.frag = 0 then 0 else 16) }
  (u.setCam n { c with frag := c.frag + 1, stored := c.stored + c.data.length, data := [], damage := false }).sinkPut 2 p

/-- Store bytes in the open frame's fragments. -/
def Units.camStore (u : Units) (n : Nat) (bad : Bool) : Nat → List Nat → Units
  | 0, _ => u
  | k + 1, bs =>
    let c := u.camOf n
    let room := u.fragMax - c.data.length
    let u := u.setCam n { c with data := c.data ++ bs.take room, damage := c.damage || bad }
    if bs.length ≤ room then u else (u.camClose n false).camStore n bad k (bs.drop room)

/-- A damaged packet: counted, and FRAME_ERR once per frame. -/
def Units.camErr (u : Units) (n : Nat) : Units :=
  let c := u.camOf n
  let u := u.count (Reg.CAM_ERR.COUNT n) (Reg.CAM_ERR.OVF n)
  if c.errSaid ∨ ¬ c.inFrame then u else (u.setCam n { c with errSaid := true }).emit (camSource n) 0x03 c.frame

/-- The open frame ends. -/
def Units.camEnd (u : Units) (n : Nat) : Units :=
  let c := u.camOf n
  let u := if c.inFrame ∧ c.kept then u.camClose n true else u
  u.setCam n { u.camOf n with inFrame := false, kept := false, data := [] }

/-- Frame Start at tick t: a frame still open ends with DAMAGE = 1 (R403); KEEP decides whether the new one is logged
(R404). -/
def Units.camStart (u : Units) (n t : Nat) : Units :=
  let c := u.camOf n
  let u := if c.inFrame then
      (if c.errSaid then (u.setCam n { c with damage := true }) else (u.setCam n { c with damage := true }).emit (camSource n) 0x03 c.frame).camEnd n
    else u
  let c := u.camOf n
  let f := (c.frame + 1) % 2 ^ 32
  let keep := decide (f % (u.rd (Reg.CAM_CFG.KEEP n) + 1) = 0)
  let u := u.setCam n { frame := f, inFrame := true, kept := keep && u.sinkOn 2, time := u.timeAt t, angle := u.sinkAngle 2 t }
  let u := u.wr (Reg.CAM_STATUS.FRAME n) f
  if keep then u else u.count (Reg.CAM_DISC.COUNT n) (Reg.CAM_DISC.OVF n)

/-- R403: a packet on a virtual channel; `bad`: its header is uncorrectable or its payload fails its CRC. -/
def Units.camPacket (u : Units) (n vc : Nat) (p : CamPacket) (bad : Bool) (t : Nat) : Units :=
  if u.pwr.acqOff ∨ ¬ u.is (Reg.CAM_CFG.EN n) ∨ ¬ u.is (Reg.CAM_STATUS.LOCK n) ∨ vc ≠ u.rd (Reg.CAM_CFG.VC n) then u
  else
    let u := match p with | .frameStart _ => u.camStart n t | _ => u
    let u := if bad then u.camErr n else u
    let bytes := match p with
      | .frameStart h | .frameEnd h | .short h => leBytes 4 h
      | .long h pl => leBytes 4 h ++ pl ++ List.replicate ((4 - pl.length % 4) % 4) 0
    let c := u.camOf n
    let u := if c.inFrame ∧ c.kept then u.camStore n bad (bytes.length / 65488 + 2) bytes else u
    match p with | .frameEnd _ => u.camEnd n | _ => u

/-- The link locks at a gear, or unlocks (gear 0). -/
def Units.camLock (u : Units) (n gear : Nat) : Units :=
  let was := u.is (Reg.CAM_STATUS.LOCK n)
  let u := (u.wrb (Reg.CAM_STATUS.LOCK n) (decide (gear ≠ 0))).wr (Reg.CAM_STATUS.GEAR n) gear
  if gear ≠ 0 then u.emit (camSource n) 0x01 gear else if was then u.emit (camSource n) 0x02 0 else u

/-- The receiver stops acquiring, its EN unchanged: the frame in progress is lost. -/
def Units.camPause (u : Units) (n : Nat) : Units := u.setCam n { u.camOf n with inFrame := false, kept := false, data := [] }

/-- CAM_CFG.EN 1→0: the receiver is off; the frame in progress never ends. -/
def Units.camOff (u : Units) (n : Nat) : Units :=
  let c := u.camOf n
  (((u.wr (Reg.CAM_CFG.EN n) 0).setCam n { c with inFrame := false, kept := false, data := [] }).wr (Reg.CAM_STATUS.LOCK n) 0).wr
    (Reg.CAM_STATUS.GEAR n) 0

/-- R402, R414: one I2C transaction. -/
def Units.i2cGo (u : Units) (n : Nat) : Units :=
  if u.is (Reg.CAM_I2C.BUSY n) then u
  else
    let m := OutMsg.i2c n (u.rd (Reg.CAM_I2C.DEV n)) (u.rd (Reg.CAM_I2C.REG n)) (u.is (Reg.CAM_I2C.WRITE n)) (u.rd (Reg.CAM_I2C.DATA n))
    { u with out := u.out ++ [m] }.wr (Reg.CAM_I2C.BUSY n) 1

def Units.i2cDone (u : Units) (n data : Nat) (nack : Bool) : Units :=
  if ¬ u.is (Reg.CAM_I2C.BUSY n) then u
  else
    let u := (u.wr (Reg.CAM_I2C.BUSY n) 0).wrb (Reg.CAM_I2C.NACK n) nack
    if u.is (Reg.CAM_I2C.WRITE n) ∨ nack then u else u.wr (Reg.CAM_I2C.DATA n) data

/-! ## Meanings -/

def execCamPacketRx (n vc : Nat) (p : CamPacket) (bad : Bool) (t : Nat) (s : State) : Host.Outcome State Fault Refusal :=
  s.run (decide (n < 8)) fun u => if u.camPresent n then (u.advance t).camPacket n vc p bad t else u
def execCamLockChange (n gear : Nat) (s : State) : Host.Outcome State Fault Refusal :=
  s.run (decide (n < 8 ∧ gear < 6)) fun u => if u.camPresent n ∧ u.is (Reg.CAM_CFG.EN n) then u.camLock n gear else u
def execCamI2cGo (n : Nat) (s : State) : Host.Outcome State Fault Refusal :=
  s.run (decide (n < 8)) fun u => if u.camPresent n then u.i2cGo n else u
def execCamI2cDone (n data : Nat) (nack : Bool) (s : State) : Host.Outcome State Fault Refusal :=
  s.run (decide (n < 8 ∧ data < 256)) fun u => u.i2cDone n data nack

end Sys2Proof.Machine
end

