-- ==== Sys2Proof/Machine/Reservoir.lean ====
section
/-! DEFINITION. The reservoir: admission, the chain and its seals, stripes and commit, the command rings, and the flash
(07_records.md R180 to R187, 09_reservoir.md R208 to R230). -/
namespace Sys2Proof.Machine

/-! ## Constants by part (R208, R14) -/

def Part.dies : Part → Nat
  | .swk7240 => 160 | .swk7220 => 80 | .swk7210 => 40
/-- Erase blocks of a die. -/
def Part.dieBlocks : Part → Nat
  | .swk7240 => 3725 | .swk7220 => 1862 | .swk7210 => 931
/-- User capacity in bytes. -/
def Part.userBytes : Part → Nat
  | .swk7240 => 32000000000000 | .swk7220 => 8000000000000 | .swk7210 => 2000000000000
/-- Data bytes of a stripe: 31, 15 or 7 pages. -/
def Part.stripeBytes : Part → Nat
  | .swk7240 => 507904 | .swk7220 => 245760 | .swk7210 => 114688
/-- Raw KiB a stripe takes, parity included. -/
def Part.stripeRawKib : Part → Nat
  | .swk7240 => 512 | .swk7220 => 256 | .swk7210 => 128
/-- Retired dies up to which the rated rates hold, and up to which user capacity holds (R230). -/
def Part.rateSpare : Part → Nat
  | .swk7240 => 8 | .swk7220 => 4 | .swk7210 => 0
def Part.capSpare : Part → Nat
  | .swk7240 => 16 | .swk7220 => 8 | .swk7210 => 2

def setDies (u : Units) : Units :=
  let p := u.census.part
  let n := u.rsv.dead.length
  ((u.wr Reg.RSV_HEALTH.DIES (p.dies - n)).wr Reg.RSV_HEALTH.RETIRED n).wr Reg.RSV_HEALTH.SPARE (p.capSpare - n)

/-! ## Capacity and state -/

/-- User capacity that the dies support (R230): each die beyond the spares takes its share. -/
def Units.userCapacity (u : Units) : Nat :=
  let p := u.census.part
  p.userBytes - (u.rsv.dead.length - p.capSpare) * (p.userBytes / p.dies)

/-- Free user capacity. -/
def Units.freeCapacity (u : Units) : Nat := u.userCapacity - (u.rsv.vols.map Volume.used).sum

/-- The rated rate the usable dies support, and the NAND governor's hold (R230, R231, 22_connectors_electrical.md R532):
MB/s; 0 while STARTING or RECOVERING. -/
def Units.capRate (u : Units) : Nat :=
  let p := u.census.part
  let r := p.rated
  let n := u.rsv.dead.length
  let byDies := if n ≤ p.rateSpare then r else r * (p.dies - n) / (p.dies - p.rateSpare)
  if u.rsvNotReady then 0 else if u.rsv.nandHold then min byDies (r / 2) else byDies

/-- The open volume. -/
def Units.openVol (u : Units) : Option Volume := u.rsv.vols.find? Volume.isOpen
def Units.findVol (u : Units) (id : List Nat) : Option Volume := u.rsv.vols.find? fun v => v.id == id
def putVol (v w : Volume) : Volume := if w.id == v.id then v else w
def Units.setVol (u : Units) (v : Volume) : Units := { u with rsv := { u.rsv with vols := u.rsv.vols.map (putVol v) } }

/-- Publish RSV_RATE.CAP, RSV_FREE and RSV_STATUS: outside start-up and a flush, FAULT without a usable die, NO_VOLUME
without an open volume, FULL when no more than the reserved 1 GiB is free. -/
def Units.rsvSync (u : Units) : Units :=
  let p := u.census.part
  let st := u.rd Reg.RSV_STATUS.STATE
  let free := u.freeCapacity
  let st := if st ≤ 1 ∨ st = rsvFlushing then st
    else if p.dies ≤ u.rsv.dead.length then rsvFault
    else if u.openVol.isNone then rsvNoVolume
    else if free ≤ 2 ^ 30 then rsvFull else rsvReady
  let u := u.wr Reg.RSV_STATUS.STATE st
  let u := u.wr Reg.RSV_FREE.GIB (if st ≤ 1 then 0 else free / 2 ^ 30)
  let u := u.wr Reg.RSV_RATE.CAP u.capRate
  let u := u.wrb Reg.RSV_STATUS.DEGRADED (decide (p.rateSpare < u.rsv.dead.length))
  (u.wrb Reg.RSV_STATUS.REBUILD (!u.rsv.rebuilding.isEmpty)).wr Reg.RSV_POOL.MIB (if st ≤ 1 then 0 else u.rsv.poolKib / 1024)

/-- RSV_RATE.LIVE: the commit rate over the last 100 ms in MB/s. -/
def Units.liveRate (u : Units) : Nat :=
  ((u.rsv.recent.filter fun x => decide (u.clock < x.1 + 40000000)).map Prod.snd).sum / 100000

/-! ## Stripes (R209) -/

/-- A stripe leaves the erased pool when it closes. -/
def Units.takePool (u : Units) (n : Nat) : Units :=
  let u := { u with rsv := { u.rsv with poolKib := u.rsv.poolKib - n * u.census.part.stripeRawKib } }
  if u.rsvNotReady then u else u.wr Reg.RSV_POOL.MIB (u.rsv.poolKib / 1024)

/-- Pad and close the open stripe: the padding counts against the volume that wrote last. -/
def Units.padStripe (u : Units) : Units :=
  if u.rsv.fill = 0 then u
  else
    let pad := u.census.part.stripeBytes - u.rsv.fill
    let grow (v : Volume) : Volume := { v with used := v.used + pad }
    let owner := match u.rsv.adm.getLast? with | some a => u.findVol a.vol | none => u.openVol
    let u := match owner with | some v => u.setVol (grow v) | none => u
    ({ u with rsv := { u.rsv with stripe := u.rsv.stripe + 1, fill := 0 } }.takePool 1).rsvSync

/-- Lay an admitted group into stripes; a stripe it leaves partly filled is padded at once during a holdup flush. -/
def Units.layGroup (u : Units) (a : Admitted) : Units :=
  let s := u.census.part.stripeBytes
  let n := a.group.bytes.length
  let e := u.rsv.fill + n
  let a := { a with stripe := u.rsv.stripe + (e - 1) / s }
  let u := u.takePool (e / s)
  let u := { u with rsv := { u.rsv with stripe := u.rsv.stripe + e / s, fill := e % s, adm := u.rsv.adm ++ [a] } }
  let u := match u.findVol a.vol with | some v => u.setVol { v with used := v.used + n } | none => u
  if u.rd Reg.RSV_STATUS.STATE = rsvFlushing then u.padStripe else u

/-! ## Admission (07_records.md R176, R180 to R187) -/

def Units.fpNow (u : Units) : Nat := u.rd Reg.PST_FP_LO.FP + u.rd Reg.PST_FP_HI.FP * 2 ^ 32
def Units.genNow (u : Units) : Nat := u.rd Reg.PST_GEN.GEN
def Units.isFollower (u : Units) : Bool := u.rd Reg.TWN_PAIR.ROLE == 2

/-- FINGERPRINT records due in the next group: log session start, twin rejoin, and a change since the previous group. -/
def Units.fpRecords (u : Units) (v : Volume) : List (List Nat) :=
  let fp := u.fpNow
  let gen := u.genNow
  let old := v.lastFp.getD (fp, gen)
  (if v.begun then [fingerprintRecord u.now 0 fp gen fp gen] else []) ++
  (if u.rsv.rejoin then [fingerprintRecord u.now 2 fp gen old.1 old.2] else []) ++
  (if old = (fp, gen) then [] else [fingerprintRecord u.pst.pubTime 1 fp gen old.1 old.2])

/-- The leading records that fit 4 KiB. -/
def takeFit : Nat → List (List Nat) → List (List Nat)
  | _, [] => []
  | room, r :: rs => if r.length ≤ room then r :: takeFit (room - r.length) rs else []

/-- The records that are due ahead of a volume's next group, in the order SEAL, FINGERPRINT, GAP (R181); the closing seal of
a holdup flush stands alone (R185). -/
def Units.leading (u : Units) (v : Volume) (alone : Bool) : List (List Nat) × List (List Nat) × List (List Nat) :=
  let last := v.lastFp.getD (0, 0)
  (if v.due ∧ v.first < v.next then [sealRecord u.now v.sseq v.first (v.next - 1) v.hash v.id last.1 last.2] else [],
   if alone then [] else u.fpRecords v, if alone then [] else u.weir.gaps.map gapRecord)

/-- A group has been admitted whole: it is laid on flash, and its GSEQ published. -/
def Units.admitted (u : Units) (a : Admitted) : Units := u.layGroup a

/-- Admit one group of the request in front, or its due records alone when they exceed 4 KiB (R181). A group that leads
with a seal completes admission when the signature is complete. -/
def Units.admitFront (u : Units) : Units :=
  match u.rsv.queue with
  | [] => u
  | q :: rest =>
    match u.findVol q.vol with
    | none => { u with rsv := { u.rsv with queue := rest } }
    | some v =>
      let g := v.next
      let withSeal := v.due && decide (v.first < g)
      let (sealR, fps, gaps) := u.leading v q.alone
      let all := sealR ++ fps ++ gaps
      let pre := takeFit 4096 all
      let whole := decide (pre.length = all.length)
      let stamp := stampRecord (u.rd Reg.TWN_PAIR.ROLE) (u.rd Reg.RSV_LSESS.LSESS) (u.isFollower && !u.is Reg.TWN_PAIR.ATTACHED)
      let recs := pre.map (stamp false) ++ (if whole then q.recs.map (stamp q.host) else [])
      let rest := if whole then rest else q :: rest
      if recs.isEmpty then { u with rsv := { u.rsv with queue := rest, doneTok := max u.rsv.doneTok q.token } }
      else
        let flags := b2n withSeal + (if u.rd Reg.RSV_STATUS.STATE = rsvFlushing then 2 else 0) + (if u.rsv.recovery then 4 else 0)
        let grp := buildGroup flags g u.fpNow u.genNow (u.rd Reg.RSV_LSESS.LSESS) v.hash recs
        let usedGaps := pre.length - sealR.length - fps.length
        let v := { v with next := g + 1, hash := grp.hash, first := if withSeal then g else v.first,
                          sseq := if withSeal then v.sseq + 1 else v.sseq, due := decide (g % 256 = 255),
                          begun := v.begun && q.alone, lastFp := if q.alone then v.lastFp else some (u.fpNow, u.genNow) }
        let u := u.setVol v
        let u := { u with weir := { u.weir with gaps := u.weir.gaps.drop usedGaps } }
        let u := { u with rsv := { u.rsv with queue := rest, recovery := false, rejoin := u.rsv.rejoin && q.alone } }
        let u := (u.wr Reg.RSV_ADMIT_LO.GSEQ g).wr Reg.RSV_ADMIT_HI.GSEQ (g / 2 ^ 32)
        let a : Admitted := { vol := v.id, group := grp, token := if whole then q.token else 0, cmd := whole && q.cmd, sseq := v.sseq - 1 }
        if withSeal then { u with rsv := { u.rsv with signing := some a } } else u.admitted a

/-- Admit what waits, up to the next seal to be signed. -/
def Units.admitAll (u : Units) : Nat → Units
  | 0 => u
  | k + 1 => if u.rsv.signing.isSome ∨ u.rsv.queue.isEmpty then u else u.admitFront.admitAll k

/-- Ask for a group in a volume: its token, and the state after. -/
def Units.askGroup (u : Units) (vol : List Nat) (recs : List (List Nat)) (host alone cmd : Bool) : Nat × Units :=
  let t := u.rsv.lastTok + 1
  let q : AdmReq := { vol := vol, recs := recs, host := host, alone := alone, token := t, cmd := cmd }
  let u := { u with rsv := { u.rsv with lastTok := t, queue := u.rsv.queue ++ [q] } }
  (t, u.admitAll (u.rsv.queue.length + u.weir.gaps.length + 1))

/-- The seal unit has signed: SEALED, and admission goes on (R187, 14_attached_units.md R362). -/
def Units.sealSigned (u : Units) : Units :=
  match u.rsv.signing with
  | none => u
  | some a =>
    let u := ({ u with rsv := { u.rsv with signing := none } }.emit 0xC010 0x01 a.sseq).admitted a
    u.admitAll (u.rsv.queue.length + u.weir.gaps.length + 1)

/-- The admission of a group is under way. -/
def Units.admitting (u : Units) : Bool := u.rsv.signing.isSome || !u.rsv.queue.isEmpty

/-- End the span of a volume (R185): the token of the group that carries its seal, when the span holds a group. -/
def Units.endSpan (u : Units) (v : Volume) (alone cmd : Bool) : Option Nat × Units :=
  if v.first < v.next then
    let r := (u.setVol { v with due := true }).askGroup v.id [] false alone cmd
    (some r.1, r.2)
  else (none, u)

/-! ## Commit (07_records.md R182, 09_reservoir.md R217, R224, R225) -/

def Units.ringDescs (u : Units) (n : Nat) : List Desc := SMap.get [] u.rsv.ring n
def Units.setRingDescs (u : Units) (n : Nat) (l : List Desc) : Units := { u with rsv := { u.rsv with ring := SMap.set [] u.rsv.ring n l } }

/-- What a commit of token t (0: none) as group g settles in a started descriptor. -/
def Desc.settle (t g doneTok : Nat) (d : Desc) : Desc :=
  if d.op = 1 ∧ d.status.isNone ∧ d.token = t then { d with status := some 0x0001, gseq := g }
  else if d.op = 6 ∧ d.token ≤ doneTok then { d with status := some 0x0004 } else d

def Units.settle (u : Units) (t g : Nat) : Units :=
  u.each (List.range 8) fun u n => u.setRingDescs n ((u.ringDescs n).map (Desc.settle t g u.rsv.doneTok))

/-- DONE offsets move in admission order (R217). -/
def Units.moveDone (u : Units) : Nat → Units
  | 0 => u
  | k + 1 =>
    match u.rsv.dones with
    | (r, n, t) :: rest =>
      if t ≤ u.rsv.doneTok then
        ({ u with rsv := { u.rsv with dones := rest } }.wr (Reg.WEIR_RGN_DONE.OFFSET r) (u.rgnDone r + n)).moveDone k
      else u
    | [] => u

def Units.doneUp (u : Units) : Units := (u.moveDone u.rsv.dones.length).weirSync

/-- The partner-index entry of a group (R177). -/
def Group.entry (g : Group) : List Nat :=
  leBytes 8 g.gseq ++ leBytes 8 g.tMin ++ leBytes 8 g.tMax ++ leBytes 4 (g.bytes.length - 160) ++ leBytes 4 g.rcount

/-- ACCEPT messages owed to the twin leader go out once the groups they wait for have committed (19_twin_mode.md R469,
R471). -/
def Units.twinOwed (u : Units) : Units :=
  let p := u.pair.owed.partition fun t => decide (t ≤ u.rsv.doneTok)
  { u with pair := { u.pair with owed := p.2 } }.each p.1 fun u _ => u.twinSend 0x02 ([2, 0, 0, 0] ++ leBytes 2 0)

/-- One group commits. -/
def Units.commitGroup (u : Units) (a : Admitted) : Units :=
  let g := a.group
  let u : Units := match u.findVol a.vol with | some v => u.setVol { v with groups := v.groups ++ [g] } | none => u
  let u := (u.wr Reg.RSV_COMMIT_LO.GSEQ g.gseq).wr Reg.RSV_COMMIT_HI.GSEQ (g.gseq / 2 ^ 32)
  let u := { u with chain := { gseq := some g.gseq, hash := g.hash } }
  let recent := (u.rsv.recent ++ [(u.clock, g.bytes.length)]).filter fun x => decide (u.clock < x.1 + 40000000)
  let done := if a.cmd then u.rsv.done ++ [(a.token, g.gseq)] else u.rsv.done
  let u := { u with rsv := { u.rsv with recent := recent, done := done, doneTok := max u.rsv.doneTok a.token } }
  let u : Units := (u.settle a.token g.gseq).doneUp.twinOwed
  if u.rd Reg.TWN_PAIR.ROLE = 0 then u else u.twinSend 0x06 g.entry

/-- The admitted groups whose last stripe is durable commit in GSEQ order. -/
def Units.commitAll (u : Units) : Nat → Units
  | 0 => u
  | k + 1 =>
    match u.rsv.adm with
    | a :: rest => if a.stripe < u.rsv.durable then ({ u with rsv := { u.rsv with adm := rest } }.commitGroup a).commitAll k else u
    | [] => u

/-- R209: the oldest closed stripe that is not durable is programmed whole. -/
def Units.stripeDurable (u : Units) : Units :=
  if u.rsv.durable < u.rsv.stripe then
    ({ u with rsv := { u.rsv with durable := u.rsv.durable + 1 } }.commitAll u.rsv.adm.length).rsvSync
  else u

/-! ## Command rings (R218 to R224) -/

/-- The fabric port and the requester of the reservoir. -/
def rsvPort : Nat := 20
def rsvWho : Nat := 65

def Units.ringHead (u : Units) (n : Nat) : Nat := u.rd (Reg.RSV_RING_HEAD_LO.ADDR n) + u.rd (Reg.RSV_RING_HEAD_HI.ADDR n) * 2 ^ 32
def Units.setRingHead (u : Units) (n a : Nat) : Units :=
  (u.wr (Reg.RSV_RING_HEAD_LO.ADDR n) a).wr (Reg.RSV_RING_HEAD_HI.ADDR n) (a / 2 ^ 32)

/-- A ring halts with a code (R223). -/
def Units.ringHalt (u : Units) (n code : Nat) : Units :=
  ((u.wr (Reg.RSV_RING_STATUS.STATE n) ringHalted).wr (Reg.RSV_RING_STATUS.HALT n) code).rsvEvent 0x02 (n + code * 16)

/-- A FENCE it has started holds the ring. -/
def Units.fenced (u : Units) (n : Nat) : Bool := (u.ringDescs n).any fun d => d.op == 6 && d.status.isNone

/-- The ring fetches: it is ACTIVE, no FENCE holds it, and the reservoir has recovered (21_reset.md R504). -/
def Units.ringFetches (u : Units) (n : Nat) : Bool :=
  u.ringState n == ringActive && !u.fenced n && !u.rsvNotReady

/-- Write one field of a descriptor back: whether every write so far was OK. -/
def State.backField (x : Bool × State) (a n v : Nat) : Bool × State :=
  if x.1 then
    let r := x.2.physWrite rsvPort rsvWho a n v
    (r.1 == respOk, r.2)
  else x

/-- R224: write back the descriptors of a ring that are complete, in the order it started them. -/
def State.ringBacks (s : State) (n : Nat) : Nat → State
  | 0 => s
  | k + 1 =>
    match s.u.ringDescs n with
    | [] => s
    | d :: rest =>
      match d.status with
      | none => s
      | some st =>
        let s := s.onU fun u => u.setRingDescs n rest
        let fl := s.load (d.addr + 1) 1
        let x := State.backField (true, s) (d.addr + 2) 2 st
        let x := if st = 0x0001 then State.backField x (d.addr + 0x18) 8 d.gseq else x
        let x := State.backField x (d.addr + 0x30) 8 s.u.now
        let x := State.backField x (d.addr + 1) 1 (fl &&& 0xFE)
        let s := x.2.onU fun u =>
          if x.1 then
            let u := u.count (Reg.RSV_RING_DONE.COUNT n) (Reg.RSV_RING_DONE.OVF n)
            if d.evt then u.rsvEvent 0x01 (n + st % 4096 * 16 + d.tag % 65536 * 65536) else u
          else if u.ringState n = ringOff then u
          else (u.setRingHead n d.addr).ringHalt n 6
        s.ringBacks n k

def State.ringBack (s : State) (n : Nat) : State := s.ringBacks n (s.u.ringDescs n).length
/-- The write-backs of every ring. -/
def State.ringBackAll (s : State) : State := (List.range 8).foldl State.ringBack s

/-- The response to a fetch at a ring's HEAD. -/
def State.fetchCode (s : State) (n : Nat) : Nat := s.u.physCode false (s.u.ringHead n) 64

/-- A field of the descriptor at a ring's HEAD. -/
def State.descField (s : State) (n o len : Nat) : Nat := s.load (s.u.ringHead n + o) len

/-- The descriptor at HEAD is not one the ring can start: reserved OP or DFLAGS (4), or a bad link (5); 0: it is good. -/
def State.descBad (s : State) (n : Nat) : Nat :=
  let op := s.descField n 0 1
  if op = 0 ∨ op > 6 ∨ s.descField n 1 1 / 4 ≠ 0 then 4
  else if op = 4 ∧ (s.descField n 0x28 8 % 64 ≠ 0 ∨ s.descField n 0x28 8 / 2 ^ 40 ≠ 0) then 5 else 0

/-- Ring n fetches a good descriptor of an operation now. -/
def State.fetchesOp (s : State) (n op : Nat) : Bool :=
  s.u.ringFetches n && decide (0 < s.u.rd (Reg.RSV_RING_STATUS.ALLOW n)) && s.fetchCode n == respOk &&
    s.descField n 1 1 % 2 == 1 && s.descBad n == 0 && s.descField n 0 1 == op

/-- One fetch of a descriptor with VALID = 1: the allowance falls, and HEAD moves on. -/
def Units.startDesc (u : Units) (n next : Nat) : Units :=
  (u.wr (Reg.RSV_RING_STATUS.ALLOW n) (u.rd (Reg.RSV_RING_STATUS.ALLOW n) - 1)).setRingHead n next

/-- The descriptor at HEAD as a started one. -/
def State.descOf (s : State) (n : Nat) : Desc :=
  { addr := s.u.ringHead n, op := s.descField n 0 1, evt := s.descField n 1 1 / 2 % 2 == 1, tag := s.descField n 4 4 }

/-- Start a descriptor: HEAD moves by 64, it joins the ring's started ones, and completions are written back. -/
def State.startAs (s : State) (n : Nat) (d : Desc) (f : Units → Units) : State :=
  (s.onU fun u => f ((u.startDesc n (d.addr + 64)).setRingDescs n (u.ringDescs n ++ [d]))).ringBack n

/-- The region a POST or RELEASE of LEN bytes at ADDR names (status 0x0102 otherwise). -/
def Units.postRegion (u : Units) (a n : Nat) : Option Nat :=
  if n = 0 then none
  else regions.find? fun r => u.rgnOn r && u.rgnBase r + u.rgnPost r == a && decide (a + n ≤ u.rgnBase r + u.rgnFill r)

/-- POST moves over n bytes of a region; DONE follows when token t has committed. -/
def Units.postMove (u : Units) (r n t : Nat) : Units :=
  ({ u with rsv := { u.rsv with dones := u.rsv.dones ++ [(r, n, t)] } }.wr (Reg.WEIR_RGN_POST.OFFSET r) (u.rgnPost r + n)).doneUp

/-- A POST refused with a status. -/
def Units.postRefused (u : Units) (r n : Nat) : Units := (u.count Reg.RSV_REFUSED.COUNT Reg.RSV_REFUSED.OVF).postMove r n u.rsv.lastTok

/-- The open volume, once the reservoir has recovered. -/
def Units.logVol (u : Units) : Option Volume := if u.rsvNotReady then none else u.openVol

/-- R225: a POST; `unc`: the buffer read returned uncorrectable data. -/
def State.descPost (s : State) (n : Nat) (unc : Bool) : State :=
  if ¬ s.fetchesOp n 1 ∨ s.u.admitting then s
  else
    let d := s.descOf n
    let a := s.descField n 8 8
    let len := s.descField n 0x10 4
    match s.u.postRegion a len with
    | none => s.startAs n { d with status := some 0x0102 } fun u => u.count Reg.RSV_REFUSED.COUNT Reg.RSV_REFUSED.OVF
    | some r =>
      let refuse (st : Nat) : State := s.startAs n { d with status := some st } fun u => u.postRefused r len
      match s.u.logVol with
      | none => refuse 0x0103
      | some v =>
        match postedRecords (s.loadBytes a len) with
        | none => refuse 0x0101
        | some recs =>
          let (sealR, fps, gaps) := s.u.leading v false
          if s.u.freeCapacity - 2 ^ 30 < len + 160 + (takeFit 4096 (sealR ++ fps ++ gaps)).flatten.length then refuse 0x0104
          else if unc then refuse 0x0105
          else
            s.startAs n { d with token := s.u.rsv.lastTok + 1 } fun u =>
              (u.askGroup v.id recs false false false).2.postMove r len (s.u.rsv.lastTok + 1)

/-- R217: a RELEASE. -/
def State.descRelease (s : State) (n : Nat) : State :=
  if ¬ s.fetchesOp n 2 then s
  else
    let d := s.descOf n
    let len := s.descField n 0x10 4
    match s.u.postRegion (s.descField n 8 8) len with
    | none => s.startAs n { d with status := some 0x0102 } id
    | some r => s.startAs n { d with status := some 0x0002 } fun u => u.postMove r len u.rsv.lastTok

/-- R227: a READ starts, or is refused with 0x0201. -/
def State.descRead (s : State) (n : Nat) : State :=
  if ¬ s.fetchesOp n 3 then s
  else
    let d := { s.descOf n with dst := s.descField n 8 8, len := s.descField n 0x10 4, gseq := s.descField n 0x18 8, off := s.descField n 0x20 4 }
    let ok : Bool := match s.u.logVol with
      | some v => (match v.groups[d.gseq]? with | some g => decide (d.off + d.len ≤ g.bytes.length) | none => false)
      | none => false
    if ok then s.startAs n d id else s.startAs n { d with status := some 0x0201 } id

/-- The bytes a READ copies; the bytes of unrecoverable ranges of the group are 0x00. -/
def Units.readBytes (u : Units) (d : Desc) (lost : List (Nat × Nat)) : List Nat :=
  match u.logVol with
  | some v =>
    let bs := ((v.groups[d.gseq]?.map Group.bytes).getD [] |>.drop d.off).take d.len
    bs.zipIdx.map fun x => if lost.any fun r => decide (r.1 ≤ d.off + x.2) && decide (d.off + x.2 < r.1 + r.2) then 0 else x.1
  | none => []

/-- Copy bytes to an address in aligned words of 4 and single bytes: whether every write was OK. -/
def State.copyOut (s : State) : Nat → Nat → List Nat → Bool × State
  | 0, _, _ => (true, s)
  | k + 1, a, bs =>
    if bs.isEmpty then (true, s)
    else
      let n := if a % 4 = 0 ∧ 4 ≤ bs.length then 4 else 1
      let r := s.physWrite rsvPort rsvWho a n (leNat (bs.take n))
      if r.1 = respOk then r.2.copyOut k (a + n) (bs.drop n) else (false, r.2)

/-- Replace the first waiting READ of a list by its completed form. -/
def settleRead (st : Nat) : List Desc → List Desc
  | [] => []
  | d :: ds => if d.op = 3 ∧ d.status.isNone then { d with status := some st } :: ds else d :: settleRead st ds

/-- R224, R227: the oldest READ of the ring completes; `ce`: data pages corrected; `lost`: unrecoverable ranges of the
group, as offset and length. -/
def State.descReadDone (s : State) (n ce : Nat) (lost : List (Nat × Nat)) : State :=
  match (s.u.ringDescs n).find? fun d => d.op == 3 && d.status.isNone with
  | none => s
  | some d =>
    let hit := lost.filter fun r => decide (r.1 < d.off + d.len) && decide (d.off < r.1 + r.2)
    let s := s.onU fun u => (u.countN Reg.RSV_CE.COUNT Reg.RSV_CE.OVF ce).countN Reg.RSV_UE.COUNT Reg.RSV_UE.OVF hit.length
    let inRegion := regions.any fun r => s.u.rgnTouches r d.dst d.len
    let r := if inRegion then (false, s) else s.copyOut d.len d.dst (s.u.readBytes d hit)
    let st := if ¬ r.1 then 0x0203 else if hit.isEmpty then 0x0003 else 0x0202
    (r.2.onU fun u => u.setRingDescs n (settleRead st (u.ringDescs n))).ringBack n

def State.descLink (s : State) (n : Nat) : State :=
  if s.fetchesOp n 4 then s.onU fun u => u.startDesc n (s.descField n 0x28 8) else s
def State.descNop (s : State) (n : Nat) : State :=
  if s.fetchesOp n 5 then s.startAs n { s.descOf n with status := some 0x0004 } id else s

/-- R220: a FENCE waits for every group admitted before it, on any ring. -/
def State.descFence (s : State) (n : Nat) : State :=
  if s.fetchesOp n 6 then
    let t := s.u.rsv.lastTok
    s.startAs n { s.descOf n with token := t, status := if t ≤ s.u.rsv.doneTok then some 0x0004 else none } id
  else s

/-- R221, R222: a fetch finds VALID = 0. -/
def State.idleFetch (s : State) (n : Nat) : State :=
  if s.u.ringFetches n ∧ 0 < s.u.rd (Reg.RSV_RING_STATUS.ALLOW n) ∧ s.fetchCode n = respOk ∧ s.descField n 1 1 % 2 = 0 then
    s.onU fun u =>
      if u.is (Reg.RSV_RING_STATUS.RECHECK n) then u.wr (Reg.RSV_RING_STATUS.RECHECK n) 0 else u.wr (Reg.RSV_RING_STATUS.STATE n) ringIdle
  else s

/-- R223: a fetch that halts the ring; `timeout`: the descriptor address did not respond within 8 µs. -/
def State.fetchFault (s : State) (n : Nat) (timeout : Bool) : State :=
  if ¬ s.u.ringFetches n then s
  else
    let a := s.u.ringHead n
    let code := s.fetchCode n
    if s.u.rd (Reg.RSV_RING_STATUS.ALLOW n) = 0 then s.onU fun u => u.ringHalt n 1
    else if timeout then s.onU fun u => (u.fabTimeout false rsvPort (physPort rsvPort a) a []).ringHalt n 2
    else if code ≠ respOk then s.onU fun u => (u.physFail code false rsvPort a 64).ringHalt n 3
    else if s.descField n 1 1 % 2 = 1 ∧ s.descBad n ≠ 0 then
      s.onU fun u => (u.wr (Reg.RSV_RING_STATUS.ALLOW n) (u.rd (Reg.RSV_RING_STATUS.ALLOW n) - 1)).ringHalt n (s.descBad n)
    else s

/-- R223: RESUME. -/
def Units.ringResume (u : Units) (n : Nat) : Units :=
  if u.ringState n = ringHalted then
    ((u.wr (Reg.RSV_RING_STATUS.HALT n) 0).wr (Reg.RSV_RING_STATUS.ALLOW n) 4096).wr (Reg.RSV_RING_STATUS.STATE n) ringActive
  else u

/-- R223: ABORT. -/
def Units.ringAbort (u : Units) (n : Nat) : Units :=
  if u.ringState n = ringActive ∨ u.ringState n = ringIdle then u.ringHalt n 7 else u

/-- RSV_RING_CFG.EN (R238): 0→1 makes the ring IDLE, 1→0 turns it OFF. -/
def Units.ringEnable (u : Units) (n : Nat) (on : Bool) : Units :=
  let u := u.wrb (Reg.RSV_RING_CFG.EN n) on
  if on ∧ u.ringState n = ringOff then u.wr (Reg.RSV_RING_STATUS.STATE n) ringIdle
  else if ¬ on then (u.wr (Reg.RSV_RING_STATUS.STATE n) ringOff).wr (Reg.RSV_RING_STATUS.HALT n) 0 else u

/-! ## Flash: erases and dies (R228 to R230) -/

def Units.eraseAllow (u : Units) (die : Nat) : Nat := SMap.get 16 u.rsv.allow die
def Units.dieUsable (u : Units) (die : Nat) : Bool := decide (die < u.census.part.dies) && !u.rsv.dead.contains die

/-- A background erase of a block is due: it begins if the die has an allowance, and is deferred during a dip; one that
waits for the cap counts once. -/
def Units.eraseStart (u : Units) (die block : Nat) : Units :=
  let b := (die, block)
  if ¬ u.dieUsable die ∨ u.is Reg.RSV_STATUS.ERASE_DEFER ∨ u.rsv.erasing.contains b ∨
      u.census.part.depthMax * 2048 ≤ u.rsv.poolKib + u.rsv.erasing.length * 65536 then u
  else if u.eraseAllow die = 0 then
    if u.rsv.waiting.contains b then u
    else { u with rsv := { u.rsv with waiting := u.rsv.waiting ++ [b] } }.count Reg.RSV_ERASE_CAPPED.COUNT Reg.RSV_ERASE_CAPPED.OVF
  else { u with rsv := { u.rsv with allow := SMap.set 16 u.rsv.allow die (u.eraseAllow die - 1), erasing := u.rsv.erasing ++ [b],
                                    waiting := u.rsv.waiting.filter (· ≠ b) } }

/-- Total erases of a die. -/
def Units.dieWear (u : Units) (die : Nat) : Nat := ((u.rsv.wear.filter fun x => x.1 / 65536 == die).map Prod.snd).sum

/-- RSV_HEALTH.LIFE: the share of 3,000 cycles left on the most-worn die, by the mean over its blocks. -/
def Units.flashLife (u : Units) : Nat :=
  let p := u.census.part
  let w := ((List.range p.dies).filter u.dieUsable).foldl (fun m d => max m (u.dieWear d)) 0
  100 - w * 100 / (3000 * p.dieBlocks)

def Units.eraseDone (u : Units) (die block : Nat) : Units :=
  let b := (die, block)
  if u.rsv.erasing.contains b then
    let k := die * 65536 + block
    let u := { u with rsv := { u.rsv with erasing := u.rsv.erasing.erase b, poolKib := u.rsv.poolKib + 65536,
                                          wear := SMap.set 0 u.rsv.wear k (SMap.get 0 u.rsv.wear k + 1) } }
    (u.wr Reg.RSV_HEALTH.LIFE u.flashLife).rsvSync
  else u

def Units.eraseRefill (u : Units) (die : Nat) : Units :=
  { u with rsv := { u.rsv with allow := SMap.set 16 u.rsv.allow die (min 16 (u.eraseAllow die + 1)) } }

/-- R230: a die is retired, and its contents are rebuilt. -/
def Units.retireDie (u : Units) (die : Nat) : Units :=
  if ¬ u.dieUsable die then u
  else
    let keep := u.rsv.erasing.filter fun b => b.1 != die
    let u := setDies { u with rsv := { u.rsv with dead := u.rsv.dead ++ [die], rebuilding := u.rsv.rebuilding ++ [die], erasing := keep } }
    (u.rsvEvent 0x07 (die + u.rsv.dead.length * 256)).rsvSync

/-- R230: a block whose program or erase fails is retired; the die with 2 % of its blocks retired is retired. -/
def Units.flashFail (u : Units) (die block : Nat) (erase : Bool) : Units :=
  if ¬ u.dieUsable die then u
  else
    let u := if erase then u.count Reg.RSV_EFAIL.COUNT Reg.RSV_EFAIL.OVF else u.count Reg.RSV_PFAIL.COUNT Reg.RSV_PFAIL.OVF
    let n := SMap.get 0 u.rsv.bad die + 1
    let u := { u with rsv := { u.rsv with bad := SMap.set 0 u.rsv.bad die n, erasing := u.rsv.erasing.erase (die, block) } }
    if u.census.part.dieBlocks ≤ n * 50 then u.retireDie die else u

def Units.rebuildDone (u : Units) (die : Nat) : Units :=
  { u with rsv := { u.rsv with rebuilding := u.rsv.rebuilding.filter (· ≠ die) } }.rsvSync

/-! ## Start-up recovery (07_records.md R183, R174) -/

/-- A volume's chain state as its committed groups leave it. -/
def Volume.rolledBack (v : Volume) : Volume :=
  let n := v.groups.length
  let last := v.groups.getLast?
  { v with next := n, hash := (last.map Group.hash).getD (chainAnchor v.id), lastFp := last.map fun g => (g.fprint, g.fgen),
           first := (v.groups.filter Group.sealed).foldl (fun _ g => g.gseq) 0, sseq := (v.groups.filter Group.sealed).length,
           due := decide (n % 256 = 0) && decide (0 < n), begun := false }

/-- R183: of the groups that were admitted and not committed, the first `kept` are complete on flash; the next `torn` are
found and discarded. The reservoir leaves RECOVERING. -/
def Units.recovered (u : Units) (kept torn : Nat) : Units :=
  if u.rd Reg.RSV_STATUS.STATE ≠ rsvRecovering then u
  else
    let n := min kept u.rsv.adm.length
    let lost := min torn (u.rsv.adm.length - n)
    let u := u.padStripe
    let u := { u with rsv := { u.rsv with durable := u.rsv.stripe, queue := [], signing := none } }
    let u := u.each (u.rsv.adm.take n) fun u a =>
      match u.findVol a.vol with | some v => u.setVol { v with groups := v.groups ++ [a.group] } | none => u
    let u := u.each (u.rsv.adm.drop n) fun u a =>
      match u.findVol a.vol with | some v => u.setVol { v with used := v.used - a.group.bytes.length } | none => u
    let u := { u with rsv := { u.rsv with adm := [], vols := u.rsv.vols.map Volume.rolledBack, doneTok := u.rsv.lastTok, dones := [], recovery := true } }
    let v := u.openVol
    let last := v.bind fun v => v.groups.getLast?
    let lastG := match last with | some g => g.gseq | none => 2 ^ 64 - 1
    let tMax := match last with | some g => g.tMax | none => 0
    let mk (cause count t0 : Nat) : GapRecord := { cause := cause, count := count, tStart := t0, tEnd := u.rsv.startAt, lastGseq := lastG }
    let g4 := if lost = 0 then [] else [mk 4 (satN 32 lost) tMax]
    let g23 := if u.rsv.gapCause = 0 then [] else [mk u.rsv.gapCause 0 (if u.rsv.gapCause = 2 then u.rsv.flushAt else tMax)]
    let u := { u with weir := { u.weir with gaps := g4 ++ g23 ++ u.weir.gaps }, rsv := { u.rsv with gapCause := 0 },
                      chain := { gseq := last.map Group.gseq, hash := match last with | some g => g.hash | none => (v.map fun (x : Volume) => chainAnchor x.id).getD [] } }
    let u := (u.wr Reg.RSV_COMMIT_LO.GSEQ lastG).wr Reg.RSV_COMMIT_HI.GSEQ (lastG / 2 ^ 32)
    let u := (u.wr Reg.RSV_ADMIT_LO.GSEQ lastG).wr Reg.RSV_ADMIT_HI.GSEQ (lastG / 2 ^ 32)
    ((setDies u).wr Reg.RSV_STATUS.STATE rsvReady).rsvSync

/-! ## Partner index (19_twin_mode.md R470) -/

/-- Write pending entries, at most 64 to a record, as groups of their own. -/
def Units.indexFlush (u : Units) : Nat → Units
  | 0 => u
  | k + 1 =>
    match u.rsv.index, u.logVol with
    | e :: es, some v =>
      let l := (e :: es).take 64
      let u := { u with rsv := { u.rsv with index := (e :: es).drop 64 } }
      let unit := u.rd Reg.TWN_PARTNER_UNIT.UNIT
      (u.askGroup v.id [partnerIndexRecord u.now unit l] false false false).2.indexFlush k
    | _, _ => u

def Units.indexAdmit (u : Units) : Units := u.indexFlush ((u.rsv.index.length + 63) / 64)

/-! ## Meanings -/

def execRingResume (n : Nat) (s : State) : Host.Outcome State Fault Refusal := s.run (decide (n < 8)) fun u => u.ringResume n
def execRingAbort (n : Nat) (s : State) : Host.Outcome State Fault Refusal := s.run (decide (n < 8)) fun u => u.ringAbort n
def execRingFetchFault (n : Nat) (timeout : Bool) (s : State) : Host.Outcome State Fault Refusal :=
  s.runS (decide (n < 8)) fun s => s.fetchFault n timeout
def execRingIdleFetch (n : Nat) (s : State) : Host.Outcome State Fault Refusal := s.runS (decide (n < 8)) fun s => s.idleFetch n
def execDescPost (n : Nat) (unc : Bool) (s : State) : Host.Outcome State Fault Refusal := s.runS (decide (n < 8)) fun s => s.descPost n unc
def execDescRelease (n : Nat) (s : State) : Host.Outcome State Fault Refusal := s.runS (decide (n < 8)) fun s => s.descRelease n
def execDescRead (n : Nat) (s : State) : Host.Outcome State Fault Refusal := s.runS (decide (n < 8)) fun s => s.descRead n
def execDescReadDone (n ce : Nat) (lost : List (Nat × Nat)) (s : State) : Host.Outcome State Fault Refusal :=
  s.runS (decide (n < 8)) fun s => s.descReadDone n ce lost
def execDescLink (n : Nat) (s : State) : Host.Outcome State Fault Refusal := s.runS (decide (n < 8)) fun s => s.descLink n
def execDescNop (n : Nat) (s : State) : Host.Outcome State Fault Refusal := s.runS (decide (n < 8)) fun s => s.descNop n
def execDescFence (n : Nat) (s : State) : Host.Outcome State Fault Refusal := s.runS (decide (n < 8)) fun s => s.descFence n
def execSealSignatureDone (s : State) : Host.Outcome State Fault Refusal := s.run true Units.sealSigned
def execStripePadTimeout (s : State) : Host.Outcome State Fault Refusal := s.run true Units.padStripe
def execGroupCommit (s : State) : Host.Outcome State Fault Refusal := s.runS true fun s => (s.onU Units.stripeDurable).ringBackAll
def execEraseStart (die block : Nat) (s : State) : Host.Outcome State Fault Refusal :=
  s.run (decide (die < 160 ∧ block < 3725)) fun u => u.eraseStart die block
def execEraseDone (die block : Nat) (s : State) : Host.Outcome State Fault Refusal :=
  s.run (decide (die < 160 ∧ block < 3725)) fun u => u.eraseDone die block
def execEraseAllowanceRefill (die : Nat) (s : State) : Host.Outcome State Fault Refusal := s.run (decide (die < 160)) fun u => u.eraseRefill die
def execFlashOpFail (die block : Nat) (erase : Bool) (s : State) : Host.Outcome State Fault Refusal :=
  s.run (decide (die < 160 ∧ block < 3725)) fun u => u.flashFail die block erase
def execDieTimeout (die : Nat) (s : State) : Host.Outcome State Fault Refusal := s.run (decide (die < 160)) fun u => u.retireDie die
def execRebuildDone (die : Nat) (s : State) : Host.Outcome State Fault Refusal := s.run (decide (die < 160)) fun u => u.rebuildDone die
def execReservoirRecoveryDone (kept torn : Nat) (s : State) : Host.Outcome State Fault Refusal := s.run true fun u => u.recovered kept torn
def execPartnerIndexAdmit (s : State) : Host.Outcome State Fault Refusal := s.run true Units.indexAdmit

end Sys2Proof.Machine
end

