-- ==== Sys2Proof/Machine/Wcs.lean ====
section
/-! DEFINITION. The writable control stores: loading and the checks of COMMIT (12_microcode.md R306, R310 to R316, R320
to R325). -/
namespace Sys2Proof.Machine

def Units.wcsOf (u : Units) (n : Nat) : Wcs := SMap.get {} u.wcs n
def Units.setWcs (u : Units) (n : Nat) (x : Wcs) : Units := { u with wcs := SMap.set {} u.wcs n x }

/-- A microword with its attributes as R322 writes them; one not written is 0. -/
def Wcs.word (x : Wcs) (a : Nat) : Nat := SMap.get 0 x.micro a
def Wcs.isEntry (x : Wcs) (a : Nat) : Bool := bit (x.word a) 18
def Wcs.fmt (x : Wcs) (a : Nat) : Bool := bit (x.word a) 19
def Wcs.kOf (x : Wcs) (a : Nat) : Nat := bits (x.word a) 22 20
def Wcs.nanoOf (x : Wcs) (i : Nat) : Option Nat := SMap.get none x.nano i

def wcsEmpty : Nat := 0
def wcsLoading : Nat := 1
def wcsReady : Nat := 2
def wcsOpening : Nat := 3

/-! ## Words (R310, R313, R315) -/

def mNano (w : Nat) : Nat := bits w 5 0
def mIp (w : Nat) : Bool := bit w 9
def mEnd (w : Nat) : Bool := bit w 10
def mLit (w : Nat) : Nat := bits w 14 11
def mBranch (w : Nat) : Bool := bit w 17
def mTarget (w : Nat) : Nat := bits w 7 0
def mOp (w : Nat) : Nat := bits w 12 11
def mCond (w : Nat) : Nat := bits w 16 13
def dNext (w : Nat) : Nat := bits w 13 6
def dCond (w : Nat) : Nat := bits w 17 14

def nA (v : Nat) : Nat := bits v 3 0
def nB (v : Nat) : Nat := bits v 7 4
def nAlu (v : Nat) : Nat := bits v 13 8
def nDest (v : Nat) : Nat := bits v 17 14
def nPop (v : Nat) : Nat := bits v 19 18
def nMem (v : Nat) : Nat := bits v 23 20
def nInc (v : Nat) : Nat := bits v 25 24
def nFlagw (v : Nat) : Bool := bit v 26
def nUc (v : Nat) : Nat := bits v 28 27

/-! ## Checks of single words: codes 0x1, 0x2 and the conflicts of 0x8 (R321) -/

/-- Code 0x1: a reserved field of a microword in its format is not 0. -/
def mReserved (fmt : Bool) (w : Nat) : Bool :=
  if fmt then false
  else if mBranch w then bits w 10 8 != 0 else bits w 8 6 != 0 || bits w 16 15 != 0

/-- Code 0x2: a reserved code of a microword, or K above 4. -/
def mBadCode (fmt : Bool) (k w : Nat) : Bool :=
  decide (4 < k) || (if fmt then decide (8 < dCond w) else mBranch w && decide (0xA < mCond w))

def nReserved (v : Nat) : Bool := decide (v / 2 ^ 29 ≠ 0)
def nBadCode (v : Nat) : Bool :=
  decide (11 < nA v) || decide (11 < nB v) || !(nAlu v < 3 || (decide (0x10 ≤ nAlu v) && decide (nAlu v < 0x30))) ||
    decide (12 < nDest v) || decide (8 < nMem v) || decide (1 < nUc v)

/-- R316: nanowords refused at commit. -/
def nConflict (v : Nat) : Bool :=
  ((nMem v == 1 || nMem v == 2 || nMem v == 3 || nMem v == 7) && nDest v == 11) || (nDest v == 10 && nInc v != 0) ||
    (nDest v != 0 && nAlu v == 0)

/-! ## Paths -/

/-- A point on a path: a microword address and what MRET holds (256: no CALL yet). The number is 257 times the address plus
MRET. -/
def pAt (p : Nat) : Nat := p / 257
def pRet (p : Nat) : Nat := p % 257
def pMk (a m : Nat) : Nat := 257 * a + m

/-- The successors of a point, before the address range is checked. -/
def Wcs.succs (x : Wcs) (fmt : Bool) (p : Nat) : List Nat :=
  let a := pAt p
  let w := x.word a
  let m := pRet p
  if fmt then
    match dCond w with
    | 0 | 8 => [pMk (dNext w) m]
    | 1 => []
    | _ => [pMk (dNext w / 2 * 2 + 1) m, pMk (dNext w / 2 * 2) m]
  else if !mBranch w then (if mEnd w then [] else [pMk (a + 1) m])
  else
    let fall := if mCond w = 0 then [] else [pMk (a + 1) m]
    match mOp w with
    | 0 => pMk (mTarget w) m :: fall
    | 1 => pMk (mTarget w) (a + 1) :: fall
    | 2 => pMk m m :: fall
    | _ => [pMk (mTarget w) m, pMk (a + 1) m]

/-- An interruption point follows the microword (R317). -/
def Wcs.ipAfter (x : Wcs) (fmt : Bool) (p : Nat) : Bool :=
  let w := x.word (pAt p)
  if fmt then dCond w == 8 else !mBranch w && mIp w

/-- The failure a point itself shows: 0x3, 0x4, 0x5 or 0x8; 0 for none. -/
def Wcs.pointFail (x : Wcs) (fmt : Bool) (p : Nat) : Nat :=
  let a := pAt p
  let w := x.word a
  if a > 255 then 3
  else if x.fmt a != fmt then 4
  else
    let nano : Nat :=
      if !fmt && mBranch w then 0
      else match x.nanoOf (mNano w) with | none => 5 | some v => if nConflict v then 8 else 0
    if nano ≠ 0 then nano
    else if fmt then (if dCond w = 1 ∧ dNext w ≠ 0 then 8 else 0)
    else if mBranch w ∧ mOp w = 2 ∧ (pRet p = 256 ∨ mTarget w ≠ 0) then 8
    else if mBranch w ∧ mOp w = 3 ∧ mCond w ≠ 0 then 8
    else 0

def addNew : List Nat → List Nat → List Nat
  | seen, [] => seen
  | seen, p :: ps => if seen.contains p then addNew seen ps else addNew (seen ++ [p]) ps

/-- Every point reachable from a list of points, following paths while they stay in the store. -/
def Wcs.reach (x : Wcs) (fmt : Bool) : Nat → List Nat → List Nat
  | 0, seen => seen
  | n + 1, seen =>
    let next := addNew seen (seen.flatMap fun p => if x.pointFail fmt p = 0 then x.succs fmt p else [])
    if next.length = seen.length then seen else x.reach fmt n next

/-- The points n microwords further without an interruption point between. -/
def Wcs.span (x : Wcs) (fmt : Bool) : Nat → List Nat → List Nat
  | 0, ps => ps
  | n + 1, ps => x.span fmt n (addNew [] (ps.flatMap fun p => if x.ipAfter fmt p then [] else x.succs fmt p))

def leastAddr (ps : List Nat) : Nat := (ps.map pAt).foldl min 255

/-- The checks of the paths from one entry: the code and the microword, 0 for none. A span has room for 38 microwords from
the entry (dispatch takes 2 tokens) and for 40 from an interruption point (R320). -/
def Wcs.entryFail (x : Wcs) (e : Nat) : Nat × Nat :=
  let fmt := x.fmt e
  let start := [pMk e 256]
  let all := x.reach fmt 65792 start
  match all.find? fun p => decide (x.pointFail fmt p ≠ 0) with
  | some p => (x.pointFail fmt p, if pAt p > 255 then 255 else pAt p)
  | none =>
    let after := addNew [] (all.flatMap fun p => if x.ipAfter fmt p then x.succs fmt p else [])
    let loop := x.span fmt all.length (start ++ after)
    if loop ≠ [] then (6, leastAddr loop)
    else
      let long := x.span fmt 38 start ++ x.span fmt 40 after
      if long ≠ [] then (7, leastAddr long) else (0, 0)

/-- The first failure of COMMIT: single words first, then the entries in ascending order; 0 for none. -/
def Wcs.check (x : Wcs) : Nat × Nat :=
  let micro (bad : Nat → Bool) : Option Nat := (List.range 256).find? bad
  let nano (bad : Nat → Bool) : Option Nat :=
    (List.range 64).find? fun i => match x.nanoOf i with | some v => bad v | none => false
  let w (a : Nat) : Nat := x.word a % 2 ^ 18
  match micro (fun a => mReserved (x.fmt a) (w a)), nano nReserved with
  | some a, _ => (1, a)
  | none, some i => (1, i)
  | none, none =>
    match micro (fun a => mBadCode (x.fmt a) (x.kOf a) (w a)), nano nBadCode with
    | some a, _ => (2, a)
    | none, some i => (2, i)
    | none, none =>
      let entries := (List.range 256).filter x.isEntry
      if entries = [] then (9, 0)
      else
        match (entries.map x.entryFail).find? fun r => decide (r.1 ≠ 0) with
        | some r => r
        | none => (0, 0)

/-! ## Loading (R322, R323) -/

/-- No core of the basin is executing a customer routine. -/
def Units.wcsIdle (u : Units) (n : Nat) : Bool := (List.range 8).all fun c => match (u.cpuOf (8 * n + c)).micro with | some m => decide (m.entry < 0xF800) | none => true

/-- A store that leaves READY changes the fingerprint (18_persistent_config.md R447). -/
def Units.wcsLeave (u : Units) (n : Nat) : Units := if u.rd (Reg.BSN_WCS_STATUS.STATE n) = wcsReady then u.fpChanged else u

/-- The store becomes empty and open for loading. -/
def Units.wcsLoad (u : Units) (n : Nat) : Units :=
  ((((u.wcsLeave n).setWcs n {}).wr (Reg.BSN_WCS_STATUS.STATE n) wcsLoading |>.wr (Reg.BSN_WCS_STATUS.CFG_CODE n) 0).wr
    (Reg.BSN_WCS_STATUS.FAULT_IDX n) 0).wr (Reg.BSN_WCS_STATUS.ENTRIES n) 0

/-- The store empties (ABORT, R324). -/
def Units.wcsClear (u : Units) (n : Nat) : Units :=
  (((u.wcsLeave n).setWcs n {}).wr (Reg.BSN_WCS_STATUS.STATE n) wcsEmpty).wr (Reg.BSN_WCS_STATUS.ENTRIES n) 0

def Units.wcsState (u : Units) (n : Nat) : Nat := u.rd (Reg.BSN_WCS_STATUS.STATE n)

def Units.wcsOpen (u : Units) (n : Nat) : Units :=
  if u.wcsState n = wcsOpening then u
  else if u.wcsIdle n then u.wcsLoad n
  else (u.wcsLeave n).wr (Reg.BSN_WCS_STATUS.STATE n) wcsOpening

def Units.wcsReached (u : Units) (n : Nat) : Units := if u.wcsState n = wcsOpening ∧ u.wcsIdle n then u.wcsLoad n else u

/-- INDEX after a WRITE or READ with AUTOINC (WRITE alone). -/
def Units.wcsNext (u : Units) (n : Nat) : Units :=
  if u.is (Reg.BSN_WCS_ADDR.AUTOINC n) then u.wr (Reg.BSN_WCS_ADDR.INDEX n) (u.rd (Reg.BSN_WCS_ADDR.INDEX n) + 1) else u

def Units.wcsWrite (u : Units) (n : Nat) : Units :=
  let x := u.wcsOf n
  let i := u.rd (Reg.BSN_WCS_ADDR.INDEX n)
  let d0 := u.rd (Reg.BSN_WCS_DATA0.WORD n)
  if u.wcsState n ≠ wcsLoading then u
  else if u.is (Reg.BSN_WCS_ADDR.SPACE n) then
    if 64 ≤ i then u
    else
      let v := d0 + u.rd (Reg.BSN_WCS_DATA1.WORD n) * 2 ^ 32 + u.rd (Reg.BSN_WCS_DATA2.WORD n) * 2 ^ 64
      (u.setWcs n { x with nano := SMap.set none x.nano i (some v) }).wcsNext n
  else (u.setWcs n { x with micro := SMap.set 0 x.micro i (d0 % 2 ^ 23) }).wcsNext n

def Units.wcsRead (u : Units) (n : Nat) : Units :=
  let x := u.wcsOf n
  let i := u.rd (Reg.BSN_WCS_ADDR.INDEX n)
  if u.wcsState n ≠ wcsLoading then u
  else if u.is (Reg.BSN_WCS_ADDR.SPACE n) then
    if 64 ≤ i then u
    else
      let v := (x.nanoOf i).getD 0
      ((u.wr (Reg.BSN_WCS_DATA0.WORD n) v).wr (Reg.BSN_WCS_DATA1.WORD n) (v / 2 ^ 32)).wr (Reg.BSN_WCS_DATA2.WORD n) (v / 2 ^ 64)
  else u.wr (Reg.BSN_WCS_DATA0.WORD n) (x.word i)

def Units.wcsCommit (u : Units) (n : Nat) : Units :=
  if u.wcsState n ≠ wcsLoading then u else u.setWcs n { u.wcsOf n with checking := true }

/-- The check ends: READY, or LOADING with the first failure. -/
def Units.wcsChecked (u : Units) (n : Nat) : Units :=
  let x := u.wcsOf n
  if u.wcsState n ≠ wcsLoading ∨ ¬ x.checking then u
  else
    let r := x.check
    let u := ((u.setWcs n { x with checking := false }).wr (Reg.BSN_WCS_STATUS.CFG_CODE n) r.1).wr (Reg.BSN_WCS_STATUS.FAULT_IDX n) r.2
    if r.1 ≠ 0 then u
    else (u.fpChanged.wr (Reg.BSN_WCS_STATUS.STATE n) wcsReady).wr (Reg.BSN_WCS_STATUS.ENTRIES n) ((List.range 256).filter x.isEntry).length

def Units.wcsAbort (u : Units) (n : Nat) : Units := if u.wcsState n = wcsLoading then u.wcsClear n else u

/-- A steward write to BSN_WCS_CTRL: each bit acts on its own, from the lowest up. -/
def Units.wcsCtrl (u : Units) (n v : Nat) : Units :=
  let u := if bit v 0 then u.wcsOpen n else u
  let u := if bit v 1 then u.wcsWrite n else u
  let u := if bit v 2 then u.wcsCommit n else u
  let u := if bit v 3 then u.wcsAbort n else u
  if bit v 4 then u.wcsRead n else u

/-! ## Meanings -/

def execBsnWcsOpen (n : Nat) (s : State) : Host.Outcome State Fault Refusal := s.run (decide (n < 8)) fun u => if u.basinPresent n then u.wcsOpen n else u
def execWcsLoadingReached (n : Nat) (s : State) : Host.Outcome State Fault Refusal := s.run (decide (n < 8)) fun u => u.wcsReached n
def execBsnWcsWrite (n : Nat) (s : State) : Host.Outcome State Fault Refusal := s.run (decide (n < 8)) fun u => if u.basinPresent n then u.wcsWrite n else u
def execBsnWcsRead (n : Nat) (s : State) : Host.Outcome State Fault Refusal := s.run (decide (n < 8)) fun u => if u.basinPresent n then u.wcsRead n else u
def execBsnWcsCommit (n : Nat) (s : State) : Host.Outcome State Fault Refusal := s.run (decide (n < 8)) fun u => if u.basinPresent n then u.wcsCommit n else u
def execWcsCommitDone (n : Nat) (s : State) : Host.Outcome State Fault Refusal := s.run (decide (n < 8)) fun u => u.wcsChecked n
def execBsnWcsAbort (n : Nat) (s : State) : Host.Outcome State Fault Refusal := s.run (decide (n < 8)) fun u => if u.basinPresent n then u.wcsAbort n else u

end Sys2Proof.Machine
end

