-- ==== Sys2Proof/Machine/Pst.lean ====
section
/-! DEFINITION. The persistent register file, its wear, and the configuration fingerprint (18_persistent_config.md R441 to
R450). -/
namespace Sys2Proof.Machine

/-- Words of the file at manufacture (R441). -/
def pstShipped (i : Nat) : Nat :=
  if i < 16 then leNat ((List.range 4).map fun b => Config.keyAtManufacture (i / 8) (4 * (i % 8) + b) % 256)
  else if i = 0x34 then 120
  else if i = 0x35 then Config.rollbackAtManufacture % 2 ^ 32
  else 0

def Units.pstWord (u : Units) (i : Nat) : Nat := (SMap.get none u.pst.words i).getD (pstShipped i)
/-- Writes performed on a word. -/
def Units.pstWear (u : Units) (i : Nat) : Nat := SMap.get 0 u.pst.wear i
def Units.pstWorn (u : Units) (i : Nat) : Bool := decide (1000000 ≤ u.pstWear i)
/-- The wear register of a word (R444). -/
def Units.pstWearReg (u : Units) (i : Nat) : Nat :=
  u.pstWear i % 2 ^ 20 + (if 900000 ≤ u.pstWear i then 2 ^ 30 else 0) + (if u.pstWorn i then 2 ^ 31 else 0)
/-- What a read of the data window gives: words 0x000 to 0x00F read as 0, and cores read 0 (R442). -/
def Units.pstRead (u : Units) (stw : Bool) (i : Nat) : Nat := if stw ∧ 16 ≤ i then u.pstWord i else 0

def Units.pstEvent (u : Units) (kind pay : Nat) : Units := u.emit 0xB002 kind pay

/-- A completed write of a CAN permit's words: the channel's guardian loads it at the next bus idle (16_networks.md R401). -/
def Units.permitWritten (u : Units) (n : Nat) : Units :=
  { u with can := SMap.set {} u.can n { (SMap.get {} u.can n : CanChan) with reload := true } }

/-- R442, R444: a write of a word: whether it was performed. -/
def Units.pstWrite (u : Units) (i v : Nat) : Bool × Units :=
  if u.pstWorn i then
    (false, ((u.wr Reg.PST_STATUS.WORN_WR 1).count Reg.PST_WORNWR.COUNT Reg.PST_WORNWR.OVF).pstEvent 0x04 i)
  else
    let n := u.pstWear i + 1
    let u := { u with pst := { u.pst with words := SMap.set none u.pst.words i (some (v % 2 ^ 32)), wear := SMap.set 0 u.pst.wear i n } }
    let u := if n = 900000 then (u.wr Reg.PST_STATUS.ANY_WARN 1).pstEvent 0x02 i else u
    let u := if n = 1000000 then (u.wr Reg.PST_STATUS.ANY_WORN 1).pstEvent 0x03 i else u
    let u := if 0x10 ≤ i ∧ i < 0x34 then u.permitWritten ((i - 0x10) / 3) else u
    (true, u.fpChanged)

/-- Steward firmware writes a word only when the value differs (R443): how many words were written. -/
def Units.pstUpdate (x : Nat × Units) (iv : Nat × Nat) : Nat × Units :=
  if x.2.pstWord iv.1 = iv.2 then x else (x.1 + 1, (x.2.pstWrite iv.1 iv.2).2)

/-- Write a run of words from FIRST on. -/
def Units.pstUpdates (u : Units) (first : Nat) (vs : List Nat) : Nat × Units :=
  (vs.zipIdx.map fun x => (first + x.2, x.1)).foldl Units.pstUpdate (0, u)

/-- The first word of a run that is worn and would change. -/
def Units.pstWornIn (u : Units) (first : Nat) (vs : List Nat) : Option Nat :=
  ((vs.zipIdx.filter fun x => u.pstWorn (first + x.2) && decide (u.pstWord (first + x.2) ≠ x.1)).head?).map fun x => first + x.2

/-! ## The fingerprint (R446 to R448) -/

/-- Bytes of the cores' part: each core's word, and for a released core its memories as at its release. -/
def Units.fpCore (u : Units) (k : Nat) : List Nat :=
  match SMap.get none u.pst.released k with
  | some bs => leBytes 4 (k + 256) ++ bs
  | none => leBytes 4 k

def Units.fpBasin (u : Units) (n : Nat) : List Nat :=
  if u.wcsState n = wcsReady then
    leBytes 4 (n + 256) ++ (List.range 256).flatMap (fun a => leBytes 4 ((u.wcsOf n).word a)) ++
      (List.range 64).flatMap (fun i => leBytes 12 (((u.wcsOf n).nanoOf i).getD 0))
  else leBytes 4 n

/-- The byte sequence of R446. -/
def Units.fpBytes (u : Units) : List Nat :=
  ((List.range 4096).flatMap fun i => leBytes 4 (if i < 16 ∨ i = 0x36 then 0 else u.pstWord i)) ++
    (List.range 64).flatMap u.fpCore ++ (List.range 8).flatMap u.fpBasin

def Units.fingerprint (u : Units) : Nat := crc64 u.fpBytes

/-- Publish a fingerprint with publication number p: PST_FP and PST_GEN together, FP_CHANGE, and GEN_WRAP when GEN passes
its end. -/
def Units.fpSet (u : Units) (fp p : Nat) : Units :=
  let old := u.genNow
  let gen := (u.pstWord 0x36 * 65536 + p) % 2 ^ 32
  let u := { u with pst := { u.pst with p := p, pubTime := u.now } }
  let u := ((u.wr Reg.PST_FP_LO.FP fp).wr Reg.PST_FP_HI.FP (fp / 2 ^ 32)).wr Reg.PST_GEN.GEN gen
  let u := (u.wr Reg.PST_STATUS.STALE 0).pstEvent 0x01 gen
  if gen < old then u.pstEvent 0x07 0 else u

/-- R447: the steward publishes, or skips a value equal to the last one. -/
def Units.fpPublish (u : Units) : Units :=
  if ¬ u.is Reg.PST_STATUS.STALE then u
  else
    let fp := u.fingerprint
    if fp = u.fpNow then u.wr Reg.PST_STATUS.STALE 0
    else if u.pst.p + 1 < 65536 then u.fpSet fp (u.pst.p + 1)
    else if u.pstWorn 0x36 then u.fpSet fp 65535
    else (u.pstWrite 0x36 (u.pstWord 0x36 + 1)).2.fpSet fp 0

/-- R448: at each start of steward firmware, word 0x036 is incremented and a fingerprint published with p = 0; a start count
that passes a multiple of 65,536 wraps GEN. -/
def Units.fpStart (u : Units) : Units :=
  let any (p : Nat → Bool) : Bool := u.pst.wear.any fun x => p x.2
  let u := (u.wrb Reg.PST_STATUS.ANY_WARN (any fun n => decide (900000 ≤ n))).wrb Reg.PST_STATUS.ANY_WORN (any fun n => decide (1000000 ≤ n))
  if u.pstWorn 0x36 then u.fpSet u.fingerprint 0
  else
    let u := (u.pstWrite 0x36 (u.pstWord 0x36 + 1)).2
    let u := u.fpSet u.fingerprint 0
    if u.pstWord 0x36 % 65536 = 0 then u.pstEvent 0x07 0 else u

/-- The two memories of a core, as at its release. -/
def State.coreImage (s : State) (k : Nat) : List Nat := s.loadBytes (instrRam k) 65536 ++ s.loadBytes (dataRam k) 131072

/-- R450: a comparison with the partner's fingerprint: MISMATCH and the event follow a change of its result. -/
def Units.fpCompare (u : Units) (fp gen : Nat) (stale : Bool) : Units :=
  let u := ((u.wr Reg.PST_PEER_FP_LO.FP fp).wr Reg.PST_PEER_FP_HI.FP (fp / 2 ^ 32)).wr Reg.PST_PEER_GEN.GEN gen
  if stale ∨ u.is Reg.PST_STATUS.STALE then u
  else
    let same := decide (fp = u.fpNow)
    let before := u.pst.lastCmp
    let u := { u with pst := { u.pst with lastCmp := some same } }
    if before = some same then u
    else (u.wrb Reg.PST_STATUS.MISMATCH (!same)).pstEvent (if same then 0x06 else 0x05) gen

/-! ## Meanings -/

def execPstWordWrite (i v : Nat) (s : State) : Host.Outcome State Fault Refusal := s.run (decide (i < 4096)) fun u => (u.pstWrite i v).2
def execFpPublish (s : State) : Host.Outcome State Fault Refusal := s.run true Units.fpPublish

end Sys2Proof.Machine
end

