-- ==== Sys2Proof/Machine/Can.lean ====
section
/-! DEFINITION. The CAN channels and their guardians (16_networks.md R397 to R401). -/
namespace Sys2Proof.Machine

def Units.canOf (u : Units) (n : Nat) : CanChan := SMap.get {} u.can n
def Units.setCan (u : Units) (n : Nat) (c : CanChan) : Units := { u with can := SMap.set {} u.can n c }
def canSource (n : Nat) : Nat := 0x9010 + n

/-- The bytes of a CAN frame's data in a BUS_FRAME entry (R171): the identifier word, then the data. -/
def canBody (id : Nat) (data : List Nat) : List Nat := leBytes 4 id ++ data

/-- A BUS_FRAME entry (R171). -/
def busEntry (time angle eflags : Nat) (data : List Nat) : List Nat :=
  leBytes 4 time ++ leBytes 4 angle ++ leBytes 2 data.length ++ leBytes 2 eflags ++ data ++
    List.replicate ((4 - data.length % 4) % 4) 0

def canFlags (f : CanFrame) : Nat :=
  b2n f.own + b2n f.err * 2 + b2n f.ide * 256 + b2n f.fdf * 512 + b2n f.brs * 1024 + b2n f.esi * 2048 + b2n f.rtr * 4096

/-- R399: the frame matches the receive filter. -/
def Units.canMatch (u : Units) (n : Nat) (f : CanFrame) : Bool :=
  decide ((Nat.xor f.id (u.rd (Reg.CAN_RXFLT.ID n))) &&& u.rd (Reg.CAN_RXMASK.ID n) = 0) &&
    (!u.is (Reg.CAN_RXMASK.IDE n) || f.ide == u.is (Reg.CAN_RXFLT.IDE n))

/-- The receive FIFO takes a frame's entry, or drops the frame: RX_OVF at most once per millisecond. -/
def Units.canQueue (u : Units) (n : Nat) (e : List Nat) : Units :=
  let c := u.canOf n
  if c.rx.length < 64 then (u.setCan n { c with rx := c.rx ++ [bytesToWords e] }).wr (Reg.CAN_RXCNT.COUNT n) (c.rx.length + 1)
  else
    let u := u.wr (Reg.CAN_STATUS.RXOVF n) 1
    let quiet : Bool := match c.lastOvf with | some t => decide (u.clock < t + 400000) | none => false
    if quiet then u.setCan n { c with drops := c.drops + 1 }
    else (u.setCan n { c with drops := 0, lastOvf := some u.clock }).emit (canSource n) 0x06 (satN 16 (c.drops + 1))

/-- R398: a frame on the bus, stamped at tick t. -/
def Units.canSeen (u : Units) (n : Nat) (f : CanFrame) (t : Nat) : Units :=
  if u.pwr.frontOff ∨ ¬ u.is (Reg.CAN_CFG.EN n) ∨ (f.fdf ∧ ¬ u.is (Reg.CAN_CFG.FD n)) then u
  else
    let u := u.count (Reg.CAN_RXFRM.COUNT n) (Reg.CAN_RXFRM.OVF n)
    let u := if f.err then u.count (Reg.CAN_RXERR.COUNT n) (Reg.CAN_RXERR.OVF n) else u
    let e := busEntry (u.timeAt t) (u.sinkAngle 1 t) (canFlags f) (canBody f.id f.data)
    let u := u.sinkPut 1 (u.pieceAt 1 n t e)
    if u.canMatch n f then u.canQueue n e else u

/-- R399: a read of CAN_RXPOP pops the next word. -/
def Units.canPop (u : Units) (n : Nat) : Nat × Units :=
  let c := u.canOf n
  match c.rx with
  | [] => (0, u)
  | [] :: es => (0, (u.setCan n { c with rx := es }).wr (Reg.CAN_RXCNT.COUNT n) es.length)
  | [w] :: es => (w, (u.setCan n { c with rx := es }).wr (Reg.CAN_RXCNT.COUNT n) es.length)
  | (w :: ws) :: es => (w, u.setCan n { c with rx := ws :: es })

/-- R399: a word of a frame to transmit; a push beyond 8 frames is dropped. -/
def Units.canPush (u : Units) (n w : Nat) : Units :=
  let c := u.canOf n
  if 8 ≤ c.tx.length then u.wr (Reg.CAN_STATUS.TXERR n) 1
  else u.setCan n { c with push := c.push ++ [w % 2 ^ 32] }

/-- R399: GO queues the pushed frame. Words that make no whole frame of at most 64 bytes queue none. -/
def Units.canGo (u : Units) (n tag : Nat) : Units :=
  let c := u.canOf n
  let h := c.push.headD 0
  let len := h % 65536
  let u := u.setCan n { c with push := [] }
  if c.push.length = 2 + (len + 3) / 4 ∧ len ≤ 64 then
    let f : CanTx := { eflags := h / 65536, id := c.push.getD 1 0, data := (wordsToBytes (c.push.drop 2)).take len, tag := tag % 65536 }
    u.setCan n { c with push := [], tx := c.tx ++ [f] }
  else u.wr (Reg.CAN_STATUS.TXERR n) 1

/-- R400: why the guardian refuses a frame: 0 mode, 1 IDE, 2 window, 3 rate. -/
def Units.guardReason (u : Units) (n : Nat) (f : CanTx) : Option Nat :=
  let ide := bit f.eflags 8
  let form := u.rd (Reg.CAN_PERMIT0.IDE n)
  let id := if ide then f.id % 2 ^ 29 else f.id % 2 ^ 11
  if u.rd (Reg.CAN_PERMIT0.MODE n) ≠ 2 then some 0
  else if form = 3 ∨ (form = 0 ∧ ide) ∨ (form = 1 ∧ ¬ ide) then some 1
  else if id < u.rd (Reg.CAN_PERMIT1.ID_LO n) ∨ u.rd (Reg.CAN_PERMIT2.ID_HI n) < id then some 2
  else if (u.canOf n).tokens = 0 ∨ u.rd (Reg.CAN_PERMIT0.RATE n) = 0 then some 3
  else none

/-- The guardian refuses the front frame: it leaves the transmit buffer; GUARD_REJECT at most once per 10 ms. -/
def Units.guardReject (u : Units) (n reason : Nat) : Units :=
  let c := u.canOf n
  let c := { c with tx := c.tx.drop 1, started := false }
  let u := (u.count (Reg.CAN_GUARDREJ.COUNT n) (Reg.CAN_GUARDREJ.OVF n)).wr (Reg.CAN_STATUS.GUARD_REJ n) 1
  let quiet : Bool := match c.lastReject with | some t => decide (u.clock < t + 4000000) | none => false
  if quiet then u.setCan n { c with rejects := c.rejects + 1 }
  else (u.setCan n { c with rejects := 0, lastReject := some u.clock }).emit (canSource n) 0x04 (reason + satN 16 (c.rejects + 1) * 2 ^ 16)

/-- R400: the front frame would start on the bus, for the first time or again. -/
def Units.canStart (u : Units) (n : Nat) : Units :=
  let c := u.canOf n
  match c.tx with
  | [] => u
  | f :: _ =>
    if u.pwr.frontOff ∨ ¬ u.is (Reg.CAN_CFG.EN n) ∨ 1 < u.rd (Reg.CAN_STATUS.STATE n) then u
    else
      match u.guardReason n f with
      | some r => u.guardReject n r
      | none => u.setCan n { c with tokens := c.tokens - 1, started := true }

/-- The front frame has been sent whole. -/
def Units.canSent (u : Units) (n : Nat) : Units :=
  let c := u.canOf n
  match c.tx with
  | f :: fs =>
    if c.started then
      let u := u.setCan n { c with tx := fs, started := false }
      { u with out := u.out ++ [OutMsg.canFrame n f.id (bit f.eflags 8) f.data] }.emit (canSource n) 0x05 (f.tag * 2 ^ 16)
    else u
  | [] => u

/-- R400: the bucket gains a token. -/
def Units.canRefill (u : Units) (n : Nat) : Units :=
  let c := u.canOf n
  u.setCan n { c with tokens := min (u.rd (Reg.CAN_PERMIT0.BURST n)) (c.tokens + 1) }

/-- R401: the guardian's copy is loaded from the persistent words; the bucket is full. -/
def Units.permitLoad (u : Units) (n : Nat) : Units :=
  let w0 := u.pstWord (0x10 + 3 * n)
  let u := (((u.wr (Reg.CAN_PERMIT0.MODE n) (bits w0 1 0)).wr (Reg.CAN_PERMIT0.IDE n) (bits w0 3 2)).wr
    (Reg.CAN_PERMIT0.BURST n) (bits w0 11 4)).wr (Reg.CAN_PERMIT0.RATE n) (bits w0 27 12)
  let u := (u.wr (Reg.CAN_PERMIT1.ID_LO n) (u.pstWord (0x11 + 3 * n))).wr (Reg.CAN_PERMIT2.ID_HI n) (u.pstWord (0x12 + 3 * n))
  u.setCan n { u.canOf n with tokens := bits w0 11 4, reload := false }

/-- A bus fault code is met or clears (R413, R416). -/
def Units.canFault (u : Units) (n code : Nat) : Units :=
  if u.rd (Reg.CAN_STATUS.FAULT n) = code then u else (u.wr (Reg.CAN_STATUS.FAULT n) code).emit (canSource n) 0x07 code

/-- A change of error state and counts, as ISO 11898-1 has them. -/
def Units.canState (u : Units) (n st tec rec : Nat) : Units :=
  if ¬ u.is (Reg.CAN_CFG.EN n) then u
  else
    let old := u.rd (Reg.CAN_STATUS.STATE n)
    let u := ((u.wr (Reg.CAN_STATUS.STATE n) st).wr (Reg.CAN_STATUS.TEC n) tec).wr (Reg.CAN_STATUS.REC n) rec
    if old = st then u
    else if st = 2 then u.emit (canSource n) 0x02 0
    else if old = 2 then u.emit (canSource n) 0x03 0
    else if st = 1 then u.emit (canSource n) 0x01 0 else u

/-- CAN_CFG.EN: the controller goes on error-active, or off. -/
def Units.canEnable (u : Units) (n : Nat) (on : Bool) : Units :=
  let was := u.is (Reg.CAN_CFG.EN n)
  let u := u.wrb (Reg.CAN_CFG.EN n) on
  if was = on then u
  else
    let u := u.setCan n { u.canOf n with started := false }
    ((u.wr (Reg.CAN_STATUS.STATE n) (if on then 0 else 3)).wr (Reg.CAN_STATUS.TEC n) 0).wr (Reg.CAN_STATUS.REC n) 0

/-! ## Meanings -/

def execCanRxpop (n : Nat) (s : State) : Host.Outcome State Fault Refusal :=
  s.run (decide (n < 12)) fun u => let r := u.canPop n; { r.2 with rdata := r.1 }
def execCanTxpush (n w : Nat) (s : State) : Host.Outcome State Fault Refusal := s.run (decide (n < 12)) fun u => u.canPush n w
def execCanTxGo (n tag : Nat) (s : State) : Host.Outcome State Fault Refusal := s.run (decide (n < 12)) fun u => u.canGo n tag
def execCanFrameStart (n : Nat) (s : State) : Host.Outcome State Fault Refusal := s.run (decide (n < 12)) fun u => u.canStart n
def execCanTxDone (n : Nat) (s : State) : Host.Outcome State Fault Refusal := s.run (decide (n < 12)) fun u => u.canSent n
def execCanTokenRefill (n : Nat) (s : State) : Host.Outcome State Fault Refusal := s.run (decide (n < 12)) fun u => u.canRefill n
def execCanDominantTimeout (n : Nat) (s : State) : Host.Outcome State Fault Refusal := s.run (decide (n < 12)) fun u => u.canFault n 1
def execCanPermitLoad (n : Nat) (s : State) : Host.Outcome State Fault Refusal :=
  s.run (decide (n < 12)) fun u => if (u.canOf n).reload then u.permitLoad n else u
def execCanErrorState (n st tec rec : Nat) (s : State) : Host.Outcome State Fault Refusal :=
  s.run (decide (n < 12 ∧ st < 3 ∧ tec < 256 ∧ rec < 256)) fun u => u.canState n st tec rec
def execCanLineFault (n code : Nat) (s : State) : Host.Outcome State Fault Refusal := s.run (decide (n < 12 ∧ code < 4)) fun u => u.canFault n code

end Sys2Proof.Machine
end

