-- ==== Sys2Proof/Machine/Mailbox.lean ====
section
/-! DEFINITION. Mailbox frames on their way in and out (17_steward_and_sessions.md R417 to R420, R422). -/
namespace Sys2Proof.Machine

/-- R419: the checks every frame passes before it enters the arrival queue. -/
def mailboxOk (b : List Nat) : Bool :=
  let len := leNat ((b.drop 0x12).take 2)
  decide (24 ≤ b.length) && decide (len ≤ 1200) && b.length == 24 + len && b.take 4 == ascii "SWKM" && b.getD 4 0 == 1 &&
    leNat (b.drop (0x14 + len)) == crc32c (b.take (0x14 + len)) && (b.getD 5 0 == 0 || b.getD 5 0 == 2) &&
    decide (b.getD 6 0 < 16) && b.getD 7 0 == 0

/-- The fields of a frame (R418). -/
def mailboxFrame (transport src lane : Nat) (b : List Nat) : MbFrame :=
  { transport := transport, src := src, lane := lane, partner := bit (b.getD 5 0) 1, mbox := b.getD 6 0,
    tag := leNat ((b.drop 8).take 4), seq := leNat ((b.drop 0x0C).take 4), cmd := leNat ((b.drop 0x10).take 2),
    payload := (b.drop 0x14).take (leNat ((b.drop 0x12).take 2)), raw := b }

/-- R419, R422: a frame arrives: it is discarded, or joins the arrival queue of 32. While steward firmware does not run,
a frame is lost. -/
def Units.mailboxRx (u : Units) (transport src lane : Nat) (b : List Nat) : Units :=
  if ¬ u.stw.running then u
  else if ¬ mailboxOk b then u.count Reg.SES_BADFRAME.COUNT Reg.SES_BADFRAME.OVF
  else if 32 ≤ u.stw.arrivals.length then u.count Reg.SES_DROP.COUNT Reg.SES_DROP.OVF
  else { u with stw := { u.stw with arrivals := u.stw.arrivals ++ [mailboxFrame transport src lane b] } }

/-- The bytes of a response to a frame (R418, R420). -/
def responseBytes (f : MbFrame) (status detail : Nat) (data : List Nat) : List Nat :=
  let p := leBytes 2 status ++ leBytes 2 detail ++ data
  let b := ascii "SWKM" ++ [1, 1, f.mbox, 0] ++ leBytes 4 f.tag ++ leBytes 4 f.seq ++ leBytes 2 f.cmd ++
    leBytes 2 p.length ++ p
  b ++ leBytes 4 (crc32c b)

/-- Send bytes back where a frame came from: its transport and source, or its leader over the twin link. -/
def Units.mailboxReply (u : Units) (f : MbFrame) (b : List Nat) : Units :=
  if f.transport = 2 then u.twinSend 0x03 b else u.send (.mailbox f.transport f.src b)

end Sys2Proof.Machine
end

