-- ==== Sys2Proof/Machine/Dock.lean ====
section
/-! DEFINITION. The dock: presence, lanes, datagrams received, and download streams (16_networks.md R405 to R408,
17_steward_and_sessions.md R433). -/
namespace Sys2Proof.Machine

def dockEvent (u : Units) (kind pay : Nat) : Units := u.emit 0x9030 kind pay

/-- A lane's laser emits (R406). -/
def Units.laserOn (u : Units) (l : Nat) : Bool :=
  !u.pwr.frontOff && u.lanePresent l && u.is Reg.DOCK_STATUS.PRESENT && u.is Reg.DOCK_CFG.LASER_EN && bit (u.rd Reg.DOCK_CFG.LANES) l

def Units.dockUp (u : Units) (l : Nat) : Bool := bit (u.rd Reg.DOCK_STATUS.LANEUP) l

/-! ## Download streams (R407) -/

def Units.streamSync (u : Units) : Units := u.wrb Reg.DOCK_STATUS.STREAM (u.downs.any fun d => d.path == 0)

/-- Add ranges to the end of a lane's list. -/
def DownLane.give (l : Nat) (r : Nat × Nat) (d : DownLane) : DownLane := if d.lane = l then { d with todo := d.todo ++ [r] } else d

/-- Cut [a, b) at the chunk boundaries of 1 MiB. -/
def chunksOf : Nat → Nat → Nat → List (Nat × Nat)
  | 0, _, _ => []
  | k + 1, a, b =>
    if b ≤ a then []
    else
      let e := min b ((a / 1048576 + 1) * 1048576)
      (a, e) :: chunksOf k e b

/-- Deal ranges to lanes, one to each in turn from the given place on. -/
def dealTo (lanes : List Nat) : Nat → List (Nat × Nat) → List DownLane → List DownLane
  | _, [], d => d
  | i, r :: rs, d => dealTo lanes (i + 1) rs (d.map (DownLane.give (lanes.getD (i % lanes.length) 0) r))

/-- Put a range into a list of ranges in ascending order. -/
def insertRange (r : Nat × Nat) : List (Nat × Nat) → List (Nat × Nat)
  | [] => [r]
  | x :: xs => if r.1 ≤ x.1 then r :: x :: xs else x :: insertRange r xs

/-- A lane of a stream goes down: its unsent chunks are dealt to the lanes still up, in ascending order. -/
def Download.loseLane (up : List Nat) (l : Nat) (d : Download) : Download :=
  let rest := d.lanes.filter fun x => x.lane != l
  let unsent := (d.lanes.filter fun x => x.lane == l).flatMap DownLane.todo
  let sorted := unsent.foldr insertRange []
  let here := (rest.map DownLane.lane).filter up.contains
  if d.path = 0 then { d with lanes := if here.isEmpty then [] else dealTo here 0 sorted rest } else d

/-- Streams with nothing left to send end with STREAM_DONE; a dock stream without a lane just ends (22_connectors_electrical.md
R526). -/
def Units.endStreams (u : Units) : Units :=
  let ended := u.downs.filter fun d => !d.lanes.isEmpty && d.lanes.all fun x => x.todo.isEmpty
  let u := { u with downs := u.downs.filter fun d => d.lanes.any fun x => !x.todo.isEmpty }
  (u.each ended fun u d => dockEvent u 0x05 d.num).streamSync

/-- Bytes of a range of a volume's committed groups, laid end to end. -/
def Units.volumeBytes (u : Units) (id : List Nat) (off n : Nat) : List Nat :=
  match u.findVol id with
  | some v => ((v.groups.flatMap Group.bytes).drop off).take n
  | none => []

/-- Replace the ranges of a lane. -/
def DownLane.setTodo (l : Nat) (t : List (Nat × Nat)) (d : DownLane) : DownLane := if d.lane = l then { d with todo := t } else d
def Download.setTodo (num l : Nat) (t : List (Nat × Nat)) (d : Download) : Download :=
  if d.num = num then { d with lanes := d.lanes.map (DownLane.setTodo l t) } else d

/-- R407: a lane of a stream sends its next datagram. -/
def Units.downSend (u : Units) (num l : Nat) : Units :=
  match u.downs.find? fun d => d.num == num with
  | none => u
  | some d =>
    match d.lanes.find? fun x => x.lane == l with
    | none => u
    | some x =>
      match x.todo with
      | [] => u
      | (a, b) :: rest =>
        if d.path = 0 ∧ (bit u.paused l ∨ ¬ u.dockUp l) then u
        else
          let n := min 8192 (b - a)
          let todo := if a + n < b then (a + n, b) :: rest else rest
          let data := u.volumeBytes d.vol (d.off + a) n
          let h := ascii "SWKD" ++ leBytes 2 d.num ++ [l, b2n todo.isEmpty] ++ leBytes 8 a ++ leBytes 4 data.length
          let u := u.send (.datagram d.path l (x.host / 65536) d.dport (h ++ leBytes 4 (crc32c (h ++ data)) ++ data))
          ({ u with downs := u.downs.map (Download.setTodo num l todo) }).endStreams

/-- Streams stop with no LAST datagram (R427, DOWNLOAD_STOP). -/
def Units.stopStreams (u : Units) (p : Download → Bool) : Units :=
  ({ u with downs := u.downs.filter fun d => !p d }).streamSync

/-! ## Lanes and presence (R405, R406) -/

def Units.dockLaneDown (u : Units) (l : Nat) : Units :=
  if ¬ u.dockUp l then u
  else
    let up := u.rd Reg.DOCK_STATUS.LANEUP - 2 ^ l
    let u := dockEvent (u.wr Reg.DOCK_STATUS.LANEUP up) 0x04 l
    let u := { u with downs := u.downs.map (Download.loseLane ((List.range 8).filter (bit up)) l) }
    u.endStreams

def Units.dockLaneUp (u : Units) (l : Nat) : Units :=
  if u.laserOn l ∧ ¬ u.dockUp l then dockEvent (u.wr Reg.DOCK_STATUS.LANEUP (u.rd Reg.DOCK_STATUS.LANEUP + 2 ^ l)) 0x03 l else u

/-- The lasers follow presence and configuration; a lane whose laser is off is down. -/
def Units.laserSync (u : Units) : Units :=
  let u := u.wrb Reg.DOCK_STATUS.LASER ((List.range 8).any u.laserOn)
  u.each ((List.range 8).filter fun l => !u.laserOn l) Units.dockLaneDown

def Units.dockPresent (u : Units) : Units :=
  if u.is Reg.DOCK_STATUS.PRESENT then u else (dockEvent (u.wr Reg.DOCK_STATUS.PRESENT 1) 0x01 0).laserSync
def Units.dockAbsent (u : Units) : Units :=
  if u.is Reg.DOCK_STATUS.PRESENT then (dockEvent (u.wr Reg.DOCK_STATUS.PRESENT 0) 0x02 0).laserSync else u

/-! ## Datagrams and PAUSE (R405, R408) -/

def mailboxPort : Nat := 21335

/-- A datagram received on a lane: a mailbox frame for the steward, or a frame of the queue whose PORT it names. -/
def Units.dockRx (u : Units) (l host src port : Nat) (b : List Nat) : Units :=
  if ¬ u.dockUp l then u
  else if port = mailboxPort then u.mailboxRx 1 (host * 65536 + src) l b
  else
    match (List.range 4).find? fun q => u.is (Reg.DOCK_QCFG.EN q) && u.rd (Reg.DOCK_QCFG.PORT q) == port with
    | none => u
    | some q =>
      if b.length = 0 ∨ 8192 < b.length then u
      else
        let u := u.setXq false q { u.xq false q with host := some (l, host) }
        u.queueRx false q l src b

/-- Frames a queue held for a paused lane are sent. -/
def Units.dockRelease (u : Units) (q : Nat) : Units :=
  let x := u.xq false q
  match x.host with
  | some (l, _) => if bit u.paused l then u else (u.setXq false q { x with held := [] }).each x.held fun u f => u.dockSend q f
  | none => u

/-- R405: a PAUSE frame: transmission on the lane halts, or goes on with a pause time of 0. -/
def Units.dockPause (u : Units) (l quanta : Nat) : Units :=
  let p := u.paused
  let u := { u with paused := if quanta ≠ 0 then p ||| 2 ^ l else if bit p l then p - 2 ^ l else p }
  if quanta = 0 then u.each (List.range 4) Units.dockRelease else u

/-! ## Meanings -/

def execDockLaneUp (l : Nat) (s : State) : Host.Outcome State Fault Refusal := s.run (decide (l < 8)) fun u => u.dockLaneUp l
def execDockLaneDown (l : Nat) (s : State) : Host.Outcome State Fault Refusal := s.run (decide (l < 8)) fun u => u.dockLaneDown l
def execDockAbsent (s : State) : Host.Outcome State Fault Refusal := s.run true Units.dockAbsent
def execDownloadDatagram (num l : Nat) (s : State) : Host.Outcome State Fault Refusal := s.run (decide (l < 8)) fun u => u.downSend num l
def execDockDatagramRx (l host src port : Nat) (b : List Nat) (s : State) : Host.Outcome State Fault Refusal :=
  s.run (decide (l < 8 ∧ src < 65536 ∧ port < 65536)) fun u => u.dockRx l host src port b
def execDockPauseFrame (l quanta : Nat) (s : State) : Host.Outcome State Fault Refusal :=
  s.run (decide (l < 8 ∧ quanta < 65536)) fun u => u.dockPause l quanta

end Sys2Proof.Machine
end

