-- ==== Sys2Proof/Machine/Guard.lean ====
section
/-! DEFINITION. The diagnosis scan and the open-wire test of every contact (05_harness_guard.md R129 to R133; the ignition
pin of 20_power.md R480; the twin angle-sync wire of 19_twin_mode.md R467). -/
namespace Sys2Proof.Machine

/-- The input is named by an enabled engine (R131). -/
def Units.engineUses (u : Units) (i : Nat) : Bool :=
  (List.range 4).any fun n => u.is (Reg.ANG_CTRL.EN n) && (u.angSources n).contains i

/-- The resolver interface is named by an enabled engine in resolver mode (R131). -/
def Units.resolverUsed (u : Units) (i : Nat) : Bool :=
  (List.range 4).any fun n => u.is (Reg.ANG_CTRL.EN n) && u.angMode n == 1 && u.rd (Reg.ANG_RES_CFG.SEL n) == i

/-- Diagnosis runs on this contact (R131; R480: the ignition pin in Run and Idle; R467: the sync wire while paired). -/
def Units.diagnosed (u : Units) (cls n : Nat) : Bool :=
  match cls with
  | 0 => u.is (Reg.AIN_CH.EN n) | 1 => u.is (Reg.FIN_CFG.EN n) | 2 => u.is (Reg.DIN_CFG.EN n) || u.engineUses n
  | 5 => u.resolverUsed n | 6 => u.is Reg.TIM_PPS_CFG.EN | 7 => u.rd Reg.PWR_STATUS.STATE ≤ 1
  | _ => u.rd Reg.TWN_PAIR.ROLE != 0

/-- The contact is tested by the open-wire test (R132). -/
def Units.openTested (u : Units) (cls n : Nat) : Bool := cls == 0 || (cls == 1 && u.rd (Reg.FIN_CFG.FE n) == 0) || cls == 5

/-- The test current runs on the contact: DIAG set, except that the resolver test has no DIAG control (R132). -/
def Units.openTestOn (u : Units) (cls n : Nat) : Bool :=
  u.openTested cls n && (cls == 5 || u.is (faultDiag cls n)) && u.diagnosed cls n

/-- The codes a scan can find on a contact (R130): bit k for code k. -/
def Units.scanCodes (u : Units) (cls n : Nat) : List Nat :=
  match cls with
  | 0 => [3, 5]
  | 1 => if u.rd (Reg.FIN_CFG.FE n) = 1 then [1, 2, 3, 4] else [3, 5]
  | 2 => if u.rd (Reg.DIN_CFG.COND n) = 1 then [1, 2, 3] else [5]
  | 5 => [1, 2, 3, 6]
  | 8 => [1, 2, 3, 5]
  | _ => [5]

/-- A scan's result for one code (R131): reported after two consecutive scans find it, cleared after ten find it absent. -/
def scanCode (c : Contact) (met k : Nat) : Contact :=
  let h := if bit met k then min 2 (c.hits.getD k 0 + 1) else 0
  let m := if bit met k then 0 else min 10 (c.misses.getD k 0 + 1)
  let c := { c with hits := c.hits.set k h, misses := c.misses.set k m }
  if 2 ≤ h then { c with rep := c.rep ||| 2 ^ k }
  else if 10 ≤ m ∧ bit c.rep k then { c with rep := c.rep - 2 ^ k }
  else c

/-- A scan of one contact. A contact whose enable is 0 reports 0x0. -/
def Units.scanContact (u : Units) (cls n found : Nat) : Units :=
  let c := u.contactOf cls n
  if u.diagnosed cls n then
    let open_ := if u.openTestOn cls n && c.openWire then 2 else 0
    let met := ((u.scanCodes cls n).foldl (fun a k => if bit found k then a ||| 2 ^ k else a) 0) ||| open_
    let c := [1, 2, 3, 4, 5, 6, 7].foldl (fun c k => scanCode c met k) c
    let rep := if u.openTested cls n && !u.openTestOn cls n && bit c.rep 1 then c.rep - 2 else c.rep
    (u.setContact cls n c).setReported cls n rep met
  else if c = {} then u
  else (u.setReported cls n 0 0).setContact cls n {}

/-- Every contact the scan visits. -/
def scanList : List (Nat × Nat) :=
  (List.range 96).map (Prod.mk 0) ++ (List.range 16).map (Prod.mk 1) ++ (List.range 48).map (Prod.mk 2) ++
    (List.range 4).map (Prod.mk 5) ++ [(6, 0), (7, 0), (8, 0)]

/-- The engine holds sync from a crank, Hall, encoder or resolver source. -/
def Units.holdsSync (u : Units) (n : Nat) : Bool :=
  let st := u.angState n
  st == stCrank || st == stFull || (st == stStopped && (u.eng n).held != 0)

/-- R131, R133: the 10 ms scan, and the loss of sync of engines whose source it finds faulted. -/
def Units.diagScan (u : Units) (found : List Finding) : Units :=
  let codes (cls n : Nat) : Nat := (found.filter fun f => f.cls == cls && f.idx == n).foldl (fun a f => a ||| f.codes) 0
  let u := u.each scanList fun u c => u.scanContact c.1 c.2 (codes c.1 c.2)
  u.each (List.range 4) fun u n => if u.holdsSync n && u.sourceFaulted n then u.syncLost n 6 else u

/-- R132: the 20 us window of one input: the movement of each leg in mV. -/
def Units.openWireTest (u : Units) (cls n pos neg : Nat) : Units :=
  if u.openTestOn cls n then
    u.setContact cls n { u.contactOf cls n with openWire := decide (pos > 800) || decide (neg > 800) }
  else u

def execDiagScan (found : List Finding) (s : State) : Host.Outcome State Fault Refusal := s.run true fun u => u.diagScan found
def execOpenWireTest (cls n pos neg : Nat) (s : State) : Host.Outcome State Fault Refusal :=
  s.run (decide ((cls = 0 ∧ n < 96) ∨ (cls = 1 ∧ n < 16) ∨ (cls = 5 ∧ n < 4))) fun u => u.openWireTest cls n pos neg

end Sys2Proof.Machine
end

