-- ==== Sys2Proof/Machine/Logs.lean ====
section
/-! DEFINITION. Volumes and log sessions as the steward acts on them, for the host or for a twin partner
(17_steward_and_sessions.md R433, 19_twin_mode.md R457, R469, R471). -/
namespace Sys2Proof.Machine

def Units.lsess (u : Units) : Nat := u.rd Reg.RSV_LSESS.LSESS

/-- Create a volume and open it for commit: its VOLUME_ID, unless one is open. -/
def Units.volCreate (u : Units) : Option (List Nat) × Units :=
  if u.rsvNotReady ∨ u.openVol.isSome then (none, u)
  else
    let d := u.draw
    let id := leBytes 16 (Config.freeWord d.1)
    let u := d.2
    let v : Volume := { id := id, isOpen := true, hash := chainAnchor id }
    let u := { u with rsv := { u.rsv with vols := u.rsv.vols ++ [v] }, chain := { gseq := none, hash := v.hash } }
    let ones := 0xFFFFFFFF
    let u := (((u.wr Reg.RSV_ADMIT_LO.GSEQ ones).wr Reg.RSV_ADMIT_HI.GSEQ ones).wr Reg.RSV_COMMIT_LO.GSEQ ones).wr Reg.RSV_COMMIT_HI.GSEQ ones
    (some id, u.rsvSync)

/-- Close the open volume, unless a log session is open. -/
def Units.volClose (u : Units) : Bool × Units :=
  match u.logVol with
  | some v => if u.lsess ≠ 0 then (false, u) else (true, ({ u.setVol { v with isOpen := false } with chain := {} }).rsvSync)
  | none => (false, u)

/-- Delete a closed volume: its blocks join the erase queue. -/
def Units.volDelete (u : Units) (id : List Nat) : Units :=
  { u with rsv := { u.rsv with vols := u.rsv.vols.filter fun v => v.id != id || v.isOpen } }.rsvSync

/-- Open log session n on the open volume: the next group leads with a FINGERPRINT record of cause 0. -/
def Units.logOpen (u : Units) (v : Volume) (n : Nat) : Units :=
  (u.setVol { v with sessions := n, begun := true }).wr Reg.RSV_LSESS.LSESS n

/-- LOG_START: the next LSESS of the volume, or none where it is refused. -/
def Units.logStart (u : Units) : Option Nat × Units :=
  match u.logVol with
  | some v => if u.lsess ≠ 0 then (none, u) else (some (v.sessions + 1), u.logOpen v (v.sessions + 1))
  | none => (none, u)

/-- End the log session: the partner index, RSV_LSESS 0, the end of the span: the token of the group that carries the
seal. -/
def Units.logEnd (u : Units) (cmd : Bool) : Option Nat × Units :=
  let u := u.indexAdmit.wr Reg.RSV_LSESS.LSESS 0
  match u.logVol with
  | some v => u.endSpan v false cmd
  | none => (none, u)

/-- End the span in progress (SEAL_NOW). -/
def Units.sealNow (u : Units) (cmd : Bool) : Option Nat × Units :=
  match u.logVol with
  | some v => u.endSpan v false cmd
  | none => (none, u)

/-- This module's part of a command that acts on both modules of a pair (19_twin_mode.md R469), by CMD: its refusal, or the
token it waits for and what it answers. An empty span has no seal, and what LOG_STOP and SEAL_NOW then report is not
stated: free values. -/
def Units.ownPart (u : Units) (cmd : Nat) : Option (Option Nat × List Nat) × Units :=
  match cmd with
  | 0x0040 => let r := u.logStart; (r.1.map fun n => (none, [n]), r.2)
  | 0x0041 =>
    if u.lsess = 0 then (none, u)
    else
      let d := u.draw
      let r := d.2.logEnd true
      (some (r.1, [u.lsess, Config.freeWord d.1 % 2 ^ 64]), r.2)
  | 0x0042 =>
    if u.logVol.isNone then (none, u)
    else
      let d := u.draw
      let e := d.2.draw
      let r := e.2.sealNow true
      (some (r.1, [Config.freeWord d.1 % 2 ^ 64, Config.freeWord e.1 % 2 ^ 64]), r.2)
  | 0x0051 => let r := u.volCreate; (r.1.map fun id => (none, id), r.2)
  | _ => let r := u.volClose; (if r.1 then some (none, []) else none, r.2)

end Sys2Proof.Machine
end

