-- ==== Sys2Proof/Machine/Net.lean ====
section
/-! DEFINITION. The Ethernet switch, its ports and the module endpoint (16_networks.md R384 to R390, R396). -/
namespace Sys2Proof.Machine

def netEvent (u : Units) (kind pay : Nat) : Units := u.emit 0x9000 kind pay

/-- The port is there, on, and its link is up; port 13 always is. -/
def Units.portUp (u : Units) (p : Nat) : Bool := p == 13 || (!u.pwr.frontOff && u.portPresent p && u.is (Reg.NET_PCFG.EN p) && u.is (Reg.NET_PSTATUS.LINK p))

/-! ## Links (R384, R389, R390) -/

def Units.linkUp (u : Units) (p rate : Nat) (master : Bool) : Units :=
  if ¬ u.pwr.frontOff ∧ u.is (Reg.NET_PCFG.EN p) ∧ ¬ u.is (Reg.NET_PDIAG.BUSY p) then
    netEvent ((((u.wr (Reg.NET_PSTATUS.LINK p) 1).wr (Reg.NET_PSTATUS.RATE p) rate).wrb (Reg.NET_PSTATUS.MASTER p) master).wr
      (Reg.NET_PSTATUS.TC10 p) 0) 0x01 (p + rate * 2 ^ 8)
  else u

def Units.linkDown (u : Units) (p : Nat) : Units :=
  if u.is (Reg.NET_PSTATUS.LINK p) then
    netEvent ((((u.wr (Reg.NET_PSTATUS.LINK p) 0).wr (Reg.NET_PSTATUS.RATE p) 0).wr (Reg.NET_PSTATUS.MASTER p) 0).wr
      (Reg.NET_PSTATUS.SQI p) 0) 0x02 p
  else u

/-- R389: a port sleeps. -/
def Units.tc10Sleep (u : Units) (p : Nat) : Units :=
  if u.is (Reg.NET_PCFG.EN p) ∧ u.is (Reg.NET_PCFG.TC10 p) ∧ u.rd (Reg.NET_PSTATUS.TC10 p) ≠ 1 then
    netEvent ((u.linkDown p).wr (Reg.NET_PSTATUS.TC10 p) 1) 0x03 p
  else u

/-- Ports that a wake of port p is forwarded to. -/
def Units.wakeForward (u : Units) (p : Nat) : List Nat :=
  if u.is (Reg.NET_PCFG.WAKEFWD p) then
    [8, 9, 10, 11].filter fun q => q != p && u.is (Reg.NET_PCFG.WAKEFWD q) && u.rd (Reg.NET_PSTATUS.TC10 q) == 1
  else []

/-- R389: a sleeping port wakes, and forwards the wake. -/
def Units.tc10Wake (u : Units) (p : Nat) (wur : Bool) : Units :=
  if u.rd (Reg.NET_PSTATUS.TC10 p) = 1 then
    let u := netEvent (u.wr (Reg.NET_PSTATUS.TC10 p) 2) 0x04 (p + b2n wur * 2 ^ 8)
    u.each (u.wakeForward p) fun u q => u.send (OutMsg.wur q)
  else u

/-- R390: RUN. -/
def Units.pdiagRun (u : Units) (p : Nat) : Units :=
  if u.is (Reg.NET_PDIAG.BUSY p) then u else (u.linkDown p).wr (Reg.NET_PDIAG.BUSY p) 1

def Units.pdiagDone (u : Units) (p result dist : Nat) : Units :=
  if u.is (Reg.NET_PDIAG.BUSY p) then
    let d := if result = 1 then 0 else dist
    netEvent (((u.wr (Reg.NET_PDIAG.BUSY p) 0).wr (Reg.NET_PDIAG.RESULT p) result).wr (Reg.NET_PDIAG.DIST p) d) 0x05
      (p + result * 2 ^ 4 + d * 2 ^ 16)
  else u

/-- R390: a reading of the signal quality index; SQI_LOW once until it returns to 4. -/
def Units.sqiRead (u : Units) (p sqi : Nat) : Units :=
  if ¬ u.is (Reg.NET_PSTATUS.LINK p) then u
  else
    let u := u.wr (Reg.NET_PSTATUS.SQI p) sqi
    let said := u.switch.sqiSaid
    if sqi < 3 ∧ ¬ said.contains p then
      netEvent { u with switch := { u.switch with sqiSaid := p :: said } } 0x06 (p + sqi * 2 ^ 8)
    else if 4 ≤ sqi then { u with switch := { u.switch with sqiSaid := said.filter (· ≠ p) } } else u

/-- NET_PCFG.EN. -/
def Units.portEnable (u : Units) (p : Nat) (on : Bool) : Units :=
  if on then u.wr (Reg.NET_PCFG.EN p) 1 else ((u.linkDown p).wr (Reg.NET_PCFG.EN p) 0).wr (Reg.NET_PSTATUS.TC10 p) 0

/-! ## Bridging (R385, R396) -/

/-- The number big-endian bytes spell. -/
def beNat (bs : List Nat) : Nat := bs.foldl (fun a b => a * 256 + b % 256) 0

def frameDst (f : List Nat) : Nat := beNat (f.take 6)
def frameSrc (f : List Nat) : Nat := beNat ((f.drop 6).take 6)
def frameTagged (f : List Nat) : Bool := beNat ((f.drop 12).take 2) == 0x8100
/-- A group address: bit 40 of the 48-bit number. -/
def macGroup (m : Nat) : Bool := bit m 40
/-- The addresses no bridge forwards: 01-80-C2-00-00-00 to 0F. -/
def macReserved (m : Nat) : Bool := m / 16 == 0x0180C200000

/-- VLAN and traffic class of a frame received on a port. -/
def Units.frameVlan (u : Units) (p : Nat) (f : List Nat) : Nat :=
  let vid := beNat ((f.drop 14).take 2) % 4096
  if frameTagged f ∧ vid ≠ 0 then vid else Config.portVlan u.switch.tables p % 4096
def Units.frameClass (u : Units) (f : List Nat) : Nat :=
  Config.pcpClass u.switch.tables (if frameTagged f then beNat ((f.drop 14).take 2) / 2 ^ 13 else 0) % 8

/-- Learn a source address (4,096 entries). -/
def Units.learn (u : Units) (mac vid p : Nat) : Units :=
  if macGroup mac then u
  else
    let rest := u.switch.macs.filter fun e => e.mac != mac || e.vid != vid
    if rest.length < 4096 then { u with switch := { u.switch with macs := ⟨mac, vid, p, u.clock⟩ :: rest } } else u

/-- The ports a frame leaves by: its learned port, or every other port of its VLAN. -/
def Units.egress (u : Units) (p vid : Nat) (f : List Nat) : List Nat :=
  let dst := frameDst f
  let members := (List.range 14).filter fun q => q != p && bit (Config.vlanPorts u.switch.tables vid) q && u.portUp q
  if macReserved dst then [13].filter (· ≠ p)
  else if macGroup dst then members
  else
    match u.switch.macs.find? fun e => e.mac == dst && e.vid == vid with
    | some e => members.filter (· = e.port)
    | none => members

def Units.portQueue (u : Units) (p c : Nat) : List (List Nat) := SMap.get [] u.switch.queues (8 * p + c)
def Units.setPortQueue (u : Units) (p c : Nat) (l : List (List Nat)) : Units :=
  { u with switch := { u.switch with queues := SMap.set [] u.switch.queues (8 * p + c) l } }
/-- Bytes the shared buffer holds. -/
def Units.buffered (u : Units) : Nat := u.switch.queues.foldl (fun a e => a + (e.2.map List.length).sum) 0

/-- R396, R171: the mirror's entry for a frame on a port. -/
def Units.mirror (u : Units) (p t : Nat) (f : List Nat) (tx err : Bool) : Units :=
  let snap := u.rd (Reg.NET_PMIR.SNAP p) * 64
  let cut := decide (snap ≠ 0) && decide (snap < f.length)
  let src := if p < 8 then 0x100 + p else if p < 12 then 0x200 + (p - 8) else 0x300
  let data := if cut then f.take snap else f
  u.sinkPut 0 (u.pieceAt 0 src t (busEntry (u.timeAt t) (u.sinkAngle 0 t) (b2n tx + b2n err * 2 + b2n cut * 4) data))

/-- R385: a frame, destination address to FCS, received on a port at tick t; `err`: its FCS is wrong. -/
def Units.switchRx (u : Units) (p : Nat) (f : List Nat) (err : Bool) (t : Nat) : Units :=
  if ¬ u.portUp p ∨ p = 13 then u
  else
    let u := u.count (Reg.NET_PRX.COUNT p) (Reg.NET_PRX.OVF p)
    let u := if u.is (Reg.NET_PMIR.RX p) then u.mirror p t f false err else u
    let drop (u : Units) : Units := u.count (Reg.NET_PDROP.COUNT p) (Reg.NET_PDROP.OVF p)
    if err then u.count (Reg.NET_PRXERR.COUNT p) (Reg.NET_PRXERR.OVF p)
    else if 9216 < f.length then drop u
    else
      let vid := u.frameVlan p f
      let u := u.learn (frameSrc f) vid p
      let out := u.egress p vid f
      if 4194304 < u.buffered + f.length * out.length then drop u
      else u.each out fun u q => u.setPortQueue q (u.frameClass f) (u.portQueue q (u.frameClass f) ++ [f])

/-- The gates of a port that are open; all of them without a gate control list. -/
def Units.gateMask (u : Units) (p : Nat) : Nat :=
  let g : GateList := SMap.get {} u.switch.gates p
  match g.entries[g.idx]? with | some e => e.1 | none => 255

/-- R385: the frame of the highest traffic class whose gate is open leaves its port at tick t. -/
def Units.switchTx (u : Units) (p t : Nat) : Units :=
  match [7, 6, 5, 4, 3, 2, 1, 0].find? fun c => bit (u.gateMask p) c && !(u.portQueue p c).isEmpty with
  | none => u
  | some c =>
    match u.portQueue p c with
    | [] => u
    | f :: fs =>
      if ¬ u.portUp p then u
      else
        let u := (u.setPortQueue p c fs).send (.ethFrame p f)
        if u.is (Reg.NET_PMIR.TX p) then u.mirror p t f true false else u

/-- R388: the next entry of the gate control list; after the last, a new cycle. -/
def Units.gateNext (u : Units) (p : Nat) : Units :=
  let g : GateList := SMap.get {} u.switch.gates p
  if g.entries.isEmpty then u
  else { u with switch := { u.switch with gates := SMap.set {} u.switch.gates p { g with idx := (g.idx + 1) % g.entries.length } } }

/-- R388: the gate control list of the tables takes effect. -/
def Units.gateActivate (u : Units) (p : Nat) : Units :=
  { u with switch := { u.switch with gates := SMap.set {} u.switch.gates p { entries := (Config.gateEntries u.switch.tables p).take 128, idx := 0 } } }

/-- R385: entries not refreshed for 300 s are removed. -/
def Units.macAge (u : Units) : Units :=
  { u with switch := { u.switch with macs := u.switch.macs.filter fun e => decide (u.clock < e.seen + 120000000000) } }

/-! ## The endpoint (R386) -/

/-- The endpoint's IPv6 addresses: link-local, and those of the persistent words 0x040 to 0x04F that are not all zero. -/
def Units.endpointAddrs (u : Units) : List Nat :=
  let a (i : Nat) : Nat := beNat ((List.range 4).flatMap fun w => leBytes 4 (u.pstWord (0x40 + 4 * i + w)))
  Config.linkLocal :: ([a 0, a 1, a 2, a 3].filter (· ≠ 0))

/-- The frame the endpoint takes next leaves port 13's queues. -/
def Units.endpointTake (u : Units) : Units :=
  match [7, 6, 5, 4, 3, 2, 1, 0].find? fun c => !(u.portQueue 13 c).isEmpty with
  | some c => u.setPortQueue 13 c ((u.portQueue 13 c).drop 1)
  | none => u

def Units.endpoint (u : Units) (f : EndpointFrame) : Units :=
  let u := u.endpointTake
  let drop (u : Units) : Units := u.count (Reg.NET_PDROP.COUNT 13) (Reg.NET_PDROP.OVF 13)
  match f with
  | .solicit a => if u.endpointAddrs.contains a then u.send (.neighbour a) else drop u
  | .echo src a b => if u.endpointAddrs.contains a then u.send (.echoReply src a b) else drop u
  | .gptp => u
  | .mailbox src b => u.mailboxRx 0 src 0 b
  | .other => drop u

/-! ## Meanings -/

def execSwitchFrameRx (p : Nat) (f : List Nat) (err : Bool) (t : Nat) (s : State) : Host.Outcome State Fault Refusal :=
  s.run (decide (p < 13)) fun u => (u.advance t).switchRx p f err t
def execSwitchFrameTx (p t : Nat) (s : State) : Host.Outcome State Fault Refusal := s.run (decide (p < 13)) fun u => (u.advance t).switchTx p t
def execGateIntervalEnd (p : Nat) (s : State) : Host.Outcome State Fault Refusal := s.run (decide (p < 13)) fun u => u.gateNext p
def execGclActivate (p : Nat) (s : State) : Host.Outcome State Fault Refusal := s.run (decide (p < 13)) fun u => u.gateActivate p
def execMacAgeing (s : State) : Host.Outcome State Fault Refusal := s.run true Units.macAge
def execNetLinkUp (p rate : Nat) (master : Bool) (s : State) : Host.Outcome State Fault Refusal :=
  s.run (decide (p < 13 ∧ 1 ≤ rate ∧ rate ≤ 4)) fun u => if u.portPresent p then u.linkUp p rate master else u
def execNetLinkDown (p : Nat) (s : State) : Host.Outcome State Fault Refusal := s.run (decide (p < 13)) fun u => u.linkDown p
def execTc10Sleep (p : Nat) (s : State) : Host.Outcome State Fault Refusal :=
  s.run (decide (8 ≤ p ∧ p < 12)) fun u => if u.portPresent p then u.tc10Sleep p else u
def execNetPdiagRun (p : Nat) (s : State) : Host.Outcome State Fault Refusal :=
  s.run (decide (p < 13)) fun u => if u.portPresent p then u.pdiagRun p else u
def execNetPdiagDone (p result dist : Nat) (s : State) : Host.Outcome State Fault Refusal :=
  s.run (decide (p < 13 ∧ 1 ≤ result ∧ result ≤ 4 ∧ dist < 1024)) fun u => u.pdiagDone p result dist
def execSqiLow (p sqi : Nat) (s : State) : Host.Outcome State Fault Refusal := s.run (decide (p < 13 ∧ sqi < 8)) fun u => u.sqiRead p sqi
def execEndpointDatagram (f : EndpointFrame) (s : State) : Host.Outcome State Fault Refusal := s.run true fun u => u.endpoint f

end Sys2Proof.Machine
end

