-- ==== Sys2Proof/Machine/Dspace.lean ====
section
/-! DEFINITION. The D-space and I-space of a core: the address maps and apertures, the caches, the store buffer, and
fetches (01_architecture.md R23 to R25; 10_ehrel_isa.md R244 to R248; 11_pipeline_and_timing.md R281 to R290). -/
namespace Sys2Proof.Machine

/-- The fabric port a core's accesses enter by (R16). -/
def corePort (k : Nat) : Nat := if k < 64 then k / 8 else 27

/-- Where a D-space address lies (R23, R24): the core's data RAM, a physical address with its aperture's ATTR (0 outside
the apertures), or nowhere. -/
inductive DAddr where
  | ram (a : Nat)
  | phys (a attr : Nat)
  | none
  deriving DecidableEq, Repr

def Units.dmap (u : Units) (k a : Nat) : DAddr :=
  if a < 0x20000 then .ram (dataRam k + a)
  else if 0x1000000 ≤ a ∧ a < 0x1400000 then (if k < 64 then .phys (sramBase (k / 8) + (a - 0x1000000)) 0 else .none)
  else if 0x2000000 ≤ a ∧ a < 0x4000000 then .phys (0x1000000000 + (a - 0x2000000)) 0
  else if 0x80000000 ≤ a then
    let p := (a - 0x80000000) / 0x10000000
    if u.is (Reg.CORE_APa.EN k p) then .phys (u.rd (Reg.CORE_APa.BASE k p) * 2 ^ 28 + a % 2 ^ 28) (u.rd (Reg.CORE_APa.ATTR k p)) else .none
  else .none

def Units.dcOn (u : Units) (k : Nat) : Bool := u.is (Reg.CORE_MODE.DCE k) && !u.is (Reg.CORE_MODE.DET k)
def Units.icOn (u : Units) (k : Nat) : Bool := u.is (Reg.CORE_MODE.ICE k) && !u.is (Reg.CORE_MODE.DET k)

/-! ## Caches (R287) -/

def lineOf (a : Nat) : Nat := a / 64 * 64
def sameSet (a b : Nat) : Bool := a / 64 % 64 == b / 64 % 64
def findLine (l : List CacheLine) (a : Nat) : Option CacheLine := l.find? fun c => c.line == lineOf a
def dropLine (l : List CacheLine) (a : Nat) : List CacheLine := l.filter fun c => c.line != lineOf a
/-- The line a fill of a's set replaces: the least recently used of four. Lists are most recent first. -/
def victim (l : List CacheLine) (a : Nat) : Option CacheLine :=
  let s := l.filter fun c => sameSet c.line a
  if s.length < 4 then none else s.getLast?
def takeBytes (bs : List Nat) (o n : Nat) : Nat := leNat ((bs.drop o).take n)
def putBytes (bs : List Nat) (o n v : Nat) : List Nat := bs.take o ++ leBytes n v ++ bs.drop (o + n)

def Units.setDc (u : Units) (k : Nat) (l : List CacheLine) : Units := u.setCpu k { u.cpuOf k with dc := l }
def Units.setIc (u : Units) (k : Nat) (l : List CacheLine) : Units := u.setCpu k { u.cpuOf k with ic := l }

/-- Write a line back to memory. -/
def State.writeBack (s : State) (k : Nat) (c : CacheLine) : Nat × State := s.physWrite (corePort k) k c.line 64 (leNat c.bytes)

/-- Write back and invalidate the data-cache line holding physical address a. -/
def State.flushLine (s : State) (k a : Nat) : State :=
  match findLine (s.u.cpuOf k).dc a with
  | none => s
  | some c =>
    let s := s.onU fun u => u.setDc k (dropLine (u.cpuOf k).dc a)
    if c.dirty then (s.writeBack k c).2 else s

/-- R293: write back every dirty line and invalidate every line. -/
def State.flushDc (s : State) (k : Nat) : State := (s.u.cpuOf k).dc.foldl (fun s c => s.flushLine k c.line) s

/-- Read the line holding a from memory, with the fault e on the response. -/
def State.readLine (s : State) (k a : Nat) (e : RespFault) : Nat × List Nat × State :=
  let (code, v, s) := s.physRead (corePort k) .soft (lineOf a) 64
  if code ≠ respOk then (code, [], s)
  else
    let r := s.u.respFault e false (corePort k) a
    (r.1, leBytes 64 v, s.onU fun _ => r.2)

/-- A line fill of the data cache: the replaced line is written back if dirty. -/
def State.fillDc (s : State) (k a : Nat) (e : RespFault) : Nat × State :=
  let (code, bs, s) := s.readLine k a e
  if code ≠ respOk then (code, s)
  else
    let s := match victim (s.u.cpuOf k).dc a with | some c => s.flushLine k c.line | none => s
    (respOk, s.onU fun u =>
      (u.setDc k (⟨lineOf a, bs, false⟩ :: (u.cpuOf k).dc)).count (Reg.CORE_DCMISS.COUNT k) (Reg.CORE_DCMISS.OVF k))

/-- A line fill of the instruction cache. -/
def State.fillIc (s : State) (k a : Nat) (e : RespFault) : Nat × State :=
  let (code, bs, s) := s.readLine k a e
  if code ≠ respOk then (code, s)
  else
    (respOk, s.onU fun u =>
      let l := (u.cpuOf k).ic
      let l := match victim l a with | some c => dropLine l c.line | none => l
      (u.setIc k (⟨lineOf a, bs, false⟩ :: l)).count (Reg.CORE_ICMISS.COUNT k) (Reg.CORE_ICMISS.OVF k))

/-- A hit: the value, and the line becomes the most recent. -/
def Units.hitDc (u : Units) (k a n : Nat) : Option (Nat × Units) :=
  match findLine (u.cpuOf k).dc a with
  | none => none
  | some c => some (takeBytes c.bytes (a % 64) n, u.setDc k (c :: dropLine (u.cpuOf k).dc a))

def Units.storeHit (u : Units) (k a n v : Nat) (dirty : Bool) : Option Units :=
  match findLine (u.cpuOf k).dc a with
  | none => none
  | some c => some (u.setDc k ({ c with bytes := putBytes c.bytes (a % 64) n v, dirty := c.dirty || dirty } :: dropLine (u.cpuOf k).dc a))

/-! ## The store buffer (R281 to R283) -/

/-- The core's own reservation on the granule of a is lost (R265). -/
def Units.killOwn (u : Units) (k a : Nat) : Units :=
  if (u.cpuOf k).res = some (a / 16) then u.dropRes k else u

/-- A write of a core to a physical address, with the fault e on its flit: response code. -/
def State.coreWrite (s : State) (k a n v : Nat) (e : RespFault) : Nat × State :=
  if s.u.physCode true a n ≠ respOk then s.physWrite (corePort k) k a n v
  else
    let r := s.u.respFault e true (corePort k) a
    let s := s.onU fun _ => r.2
    if r.1 ≠ respOk then (r.1, s) else s.physWrite (corePort k) k a n v

/-- A store reaches its target: data RAM, the data cache or the fabric (R281, R286). -/
def State.storeTo (s : State) (k : Nat) (w : StoreEnt) (e : RespFault) : Nat × State :=
  if w.addr < 0x20000 then (respOk, s.store w.phys w.size w.val)
  else if w.attr = 1 ∧ s.u.dcOn k then
    let (code, s) := if (findLine (s.u.cpuOf k).dc w.phys).isSome then (respOk, s) else s.fillDc k w.phys e
    if code ≠ respOk then (code, s) else (respOk, s.onU fun u => (u.storeHit k w.phys w.size w.val true).getD u)
  else
    let s := if w.attr = 2 ∧ s.u.dcOn k then s.onU fun u => (u.storeHit k w.phys w.size w.val false).getD u else s
    s.coreWrite k w.phys w.size w.val e

/-- An access to a: it must wait for its domain to wake (R378). -/
def Units.mustWait (u : Units) (a : Nat) : Bool := u.physThere a && u.physReach a == .waits

/-- The oldest entry drains, unless its target must first be woken; a failed store raises an imprecise BUS_FAULT (R248).
The Boolean says whether an entry left the buffer. -/
def State.drainHead (s : State) (k : Nat) (e : RespFault) : Bool × State :=
  match (s.u.cpuOf k).sbuf with
  | [] => (false, s)
  | w :: ws =>
    if s.u.mustWait w.phys then (false, s.onU fun u => u.wakeDom (physDomain w.phys))
    else
      let s := s.onU fun u => u.setCpu k { u.cpuOf k with sbuf := ws }
      let (code, s) := s.storeTo k w e
      if code = respOk then (true, s)
      else (true, (s.onU fun u => u.latchFault k 1 true true code w.pc).raiseFast k evBus w.addr true)

/-- Drain up to n entries. -/
def State.drainN (s : State) (k : Nat) : Nat → State
  | 0 => s
  | n + 1 => let r := s.drainHead k .none; if r.1 then r.2.drainN k n else r.2

/-- Drain the buffer (R267, R283, R307). -/
def State.drainAll (s : State) (k : Nat) : State := s.drainN k 4
def Units.drained (u : Units) (k : Nat) : Bool := (u.cpuOf k).sbuf.isEmpty

def overlaps (w : StoreEnt) (a n : Nat) : Bool := decide (w.phys < a + n) && decide (a < w.phys + w.size)
/-- R282: the youngest entry with the same address and size, and no overlap a younger entry causes. -/
def Units.forward (u : Units) (k a n : Nat) : Option Nat :=
  match ((u.cpuOf k).sbuf.reverse.filter fun w => overlaps w a n) with
  | w :: _ => if w.phys = a ∧ w.size = n then some w.val else none
  | [] => none
def Units.overlapped (u : Units) (k a n : Nat) : Bool := (u.cpuOf k).sbuf.any fun w => overlaps w a n

/-- Drain until no entry shares a byte with the access. -/
def State.drainOver (s : State) (k a n : Nat) : Nat → State
  | 0 => s
  | f + 1 =>
    if s.u.overlapped k a n then let r := s.drainHead k .none; if r.1 then r.2.drainOver k a n f else r.2 else s

/-! ## I-space (R25, R244, R246) -/

/-- What is met at an I-space word address: the instruction RAM, an aperture, or nothing. -/
def Units.imap (u : Units) (k w : Nat) : DAddr :=
  if w < 0x8000 then .ram (instrRam k + 2 * w)
  else if 0x40000000 ≤ w ∧ w < 0x80000000 then u.dmap k (0x80000000 + 2 * (w - 0x40000000))
  else .none

/-- The access count and log of an address that maps to nothing (R368). -/
def Units.dNone (u : Units) (k : Nat) (write : Bool) (a : Nat) : Units := u.noUnit write (corePort k) a

/-- Read the instruction word at word address w (R286): through the instruction cache where the aperture's ATTR is 1 or 2
and the cache is on. -/
def State.fetch (s : State) (k w : Nat) (e : RespFault) : Nat × Nat × State :=
  match s.u.imap k w with
  | .ram a => (respOk, s.load a 2, s)
  | .none => (respNoUnit, 0, s.onU fun u => u.dNone k false (2 * w))
  | .phys a attr =>
    if attr ≠ 0 ∧ s.u.icOn k then
      let (code, s) := if (findLine (s.u.cpuOf k).ic a).isSome then (respOk, s) else s.fillIc k a e
      match findLine (s.u.cpuOf k).ic a with
      | some c => (code, takeBytes c.bytes (a % 64) 2, s.onU fun u => u.setIc k (c :: dropLine (u.cpuOf k).ic a))
      | none => (code, 0, s)
    else
      let (code, v, s) := s.physRead (corePort k) .soft a 2
      if code ≠ respOk then (code, 0, s)
      else
        let r := s.u.respFault e false (corePort k) a
        (r.1, (if r.1 = respOk then v else 0), s.onU fun _ => r.2)

/-- The aperture word at w lies in a domain that must first be woken. -/
def Units.fetchWaits (u : Units) (k w : Nat) : Option Nat :=
  match u.imap k w with
  | .phys a _ => if u.mustWait a then some (physDomain a) else none
  | _ => none

end Sys2Proof.Machine
end

