-- ==== Sys2Proof/Machine/Operands.lean ====
section
/-! DEFINITION. The operand forms of the instruction set: the operand and return stacks of the two banks with their spill
areas (10_ehrel_isa.md R241, R242), and the shapes instructions share. -/
namespace Sys2Proof.Machine

/-! ## Stacks. Stack 0 normal operand, 1 normal return, 2 fast operand, 3 fast return. -/

def stkBase (t k : Nat) : Fld :=
  match t with | 0 => Reg.CORE_NDS_CFG.BASE k | 1 => Reg.CORE_NRS_CFG.BASE k | 2 => Reg.CORE_FDS_CFG.BASE k | _ => Reg.CORE_FRS_CFG.BASE k
def stkWords (t k : Nat) : Fld :=
  match t with | 0 => Reg.CORE_NDS_CFG.WORDS k | 1 => Reg.CORE_NRS_CFG.WORDS k | 2 => Reg.CORE_FDS_CFG.WORDS k | _ => Reg.CORE_FRS_CFG.WORDS k
def stkUsed (t k : Nat) : Fld :=
  match t with | 0 => Reg.CORE_NDS_USED.WORDS k | 1 => Reg.CORE_NRS_USED.WORDS k | 2 => Reg.CORE_FDS_USED.WORDS k | _ => Reg.CORE_FRS_USED.WORDS k

/-- Register entries of a stack. -/
def stkCap (t : Nat) : Nat := if t % 2 = 0 then 16 else 8

def Cpu.stk (x : Cpu) (t : Nat) : List Nat := match t with | 0 => x.ns | 1 => x.nr | 2 => x.fs | _ => x.fr
def Cpu.setStk (x : Cpu) (t : Nat) (l : List Nat) : Cpu :=
  match t with | 0 => { x with ns := l } | 1 => { x with nr := l } | 2 => { x with fs := l } | _ => { x with fr := l }

/-- The register-held entries, top first. -/
def Units.stk (u : Units) (k t : Nat) : List Nat := (u.cpuOf k).stk t
def Units.setStk (u : Units) (k t : Nat) (l : List Nat) : Units := u.setCpu k ((u.cpuOf k).setStk t l)

/-- The operand stack and the return stack of the bank in use. -/
def Units.dsT (u : Units) (k : Nat) : Nat := if u.is (Reg.CORE_STATUS.BANK k) then 2 else 0
def Units.rsT (u : Units) (k : Nat) : Nat := u.dsT k + 1

/-- Entries a stack holds, registers and spill area together. -/
def Units.stkDepth (u : Units) (k t : Nat) : Nat := (u.stk k t).length + u.rd (stkUsed t k)

/-- The address of entry i of a spill area. -/
def Units.spillAddr (u : Units) (k t i : Nat) : Nat := dataRam k + u.rd (stkBase t k) / 4 * 4 + 4 * i

/-- Move n entries back from the spill area (R241). -/
def State.refill (s : State) (k t : Nat) : Nat → State
  | 0 => s
  | n + 1 =>
    let m := s.u.rd (stkUsed t k) - 1
    let v := s.load (s.u.spillAddr k t m) 4
    (s.onU fun u => (u.setStk k t (u.stk k t ++ [v])).wr (stkUsed t k) m).refill k t n

/-- Move the n lowest register entries to the spill area. -/
def State.spill (s : State) (k t : Nat) : Nat → State
  | 0 => s
  | n + 1 =>
    let m := s.u.rd (stkUsed t k)
    let l := s.u.stk k t
    ((s.store (s.u.spillAddr k t m) 4 (l.getLast?.getD 0)).onU fun u =>
      (u.setStk k t l.dropLast).wr (stkUsed t k) (m + 1)).spill k t n

/-- What an instruction that needs `need` entries, pops `pops` and pushes `pushes` moves on a stack: entries back, entries
out; or the STACK code of R275 (bit 1: overflow). -/
def Units.stkPlan (u : Units) (k t need pops pushes : Nat) : Except Nat (Nat × Nat) :=
  let l := (u.stk k t).length
  let used := u.rd (stkUsed t k)
  if l + used < need then .error 0
  else
    let back := min used (min need (stkCap t) - l)
    let out := if pushes = 0 then 0 else l + back + pushes - pops - stkCap t
    if used - back + out > u.rd (stkWords t k) ∧ out > 0 then .error 2 else .ok (back, out)

/-- The moves of one stack. -/
def State.stkMove (s : State) (k t : Nat) (m : Nat × Nat) : State := (s.refill k t m.1).spill k t m.2

/-- R241, R242: prepare both stacks of the bank in use, or the STACK payload. -/
def State.prep (s : State) (k need pops pushes rneed rpops rpushes : Nat) : Except Nat (Nat × State) :=
  match s.u.stkPlan k (s.u.dsT k) need pops pushes with
  | .error e => .error e
  | .ok m =>
    match s.u.stkPlan k (s.u.rsT k) rneed rpops rpushes with
    | .error e => .error (e + 1)
    | .ok r => .ok (m.1 + m.2 + r.1 + r.2, (s.stkMove k (s.u.dsT k) m).stkMove k (s.u.rsT k) r)

/-- Replace the top n operand entries; the list is top first. -/
def Units.put (u : Units) (k n : Nat) (l : List Nat) : Units := u.setStk k (u.dsT k) (l ++ (u.stk k (u.dsT k)).drop n)
def Units.rput (u : Units) (k n : Nat) (l : List Nat) : Units := u.setStk k (u.rsT k) (l ++ (u.stk k (u.rsT k)).drop n)
/-- The top n operand entries, top first. -/
def Units.tops (u : Units) (k n : Nat) : List Nat := (u.stk k (u.dsT k)).take n
def Units.rtops (u : Units) (k n : Nat) : List Nat := (u.stk k (u.rsT k)).take n

/-- An instruction with a stack effect: STACK without any effect, or its body with the entries moved in the prepared
state. -/
def State.op (s : State) (k pops pushes rpops rpushes : Nat) (f : Nat → State → State) : State :=
  match s.prep k pops pops pushes rpops rpops rpushes with
  | .error e => s.raise k evStack e
  | .ok r => f r.1 r.2

/-- The instruction may issue as a repeat's target or on its own. -/
def State.issue (s : State) (k : Nat) (f : State → State) : State :=
  if s.u.coreRuns k && (s.u.cpuOf k).micro.isNone then f s else s

/-- The instruction may issue only outside a repeat (R269). -/
def State.issueAlone (s : State) (k : Nat) (f : State → State) : State := if s.u.coreFresh k then f s else s

/-- An instruction that works on the operand stack alone: the results of its operands (both top first) and the rest of its
effect. `set`: 1 for the first set of R284. -/
def State.stackOp (s : State) (k tok set pops pushes : Nat) (f : Units → List Nat → List Nat × Units) : State :=
  s.issue k fun s => s.op k pops pushes 0 0 fun m s => s.onU fun u =>
    let r := f u (u.tops k pops)
    (r.2.put k pops r.1).complete k (tok + m) (r.2.pcOf k + 1) set m

/-- A stack operation without any other effect. -/
def State.pureOp (s : State) (k tok set pops pushes : Nat) (f : List Nat → List Nat) : State :=
  s.stackOp k tok set pops pushes fun u l => (f l, u)

/-- The flags an operation writes (R252, R254). -/
def Units.setFlags (u : Units) (k : Nat) (o : AluOut) : Units :=
  let u := match o.c with | some c => u.wrb (Reg.CORE_STATUS.C k) c | none => u
  match o.v with | some v => u.wrb (Reg.CORE_STATUS.V k) v | none => u

/-- As stackOp, for an operation that is no target of a prefix. -/
def State.sysOp (s : State) (k tok set pops pushes : Nat) (f : Units → List Nat → List Nat × Units) : State :=
  s.issueAlone k fun s => s.stackOp k tok set pops pushes f

/-- A signed 12-bit immediate as a word. -/
def imm12 (v : Nat) : Nat := wd (toInt 12 v)

/-- A one-token operation of codes 0x10 to 0x2F with n operands (R252). -/
def State.aluOp (s : State) (k code n : Nat) : State :=
  s.stackOp k 1 1 n 1 fun u l =>
    let a := if n = 1 then l.getD 0 0 else l.getD 1 0
    let o := alu code a (l.getD 0 0) (u.is (Reg.CORE_STATUS.C k))
    ([o.r], u.setFlags k o)

/-- A division (R256, R257): the results from the outcome, top first; with AFT set a zero divisor raises ARITH after the
instruction has completed. -/
def State.divOp (s : State) (k word : Nat) (signed : Bool) (pushes : Nat) (res : DivOut → List Nat) : State :=
  s.issue k fun s => s.op k 2 pushes 0 0 fun m s =>
    let l := s.u.tops k 2
    let o := if signed then divS (l.getD 1 0) (l.getD 0 0) else divU (l.getD 1 0) (l.getD 0 0)
    let s := s.onU fun u =>
      let u := u.wrb (Reg.CORE_STATUS.V k) o.v
      let u := if o.zero then u.wr (Reg.CORE_STATUS.AF k) 1 else u
      (u.put k 2 (res o)).complete k (34 + m) (u.pcOf k + 1) 0 m
    if o.zero ∧ s.u.is (Reg.CORE_STATUS.AFT k) then s.raise k evArith word else s

/-- An instruction with effects on the return stack: results of both stacks and the next pc. -/
def State.retOp (s : State) (k tok pops pushes rpops rpushes : Nat)
    (f : Units → List Nat → List Nat → List Nat × List Nat) : State :=
  s.issue k fun s => s.op k pops pushes rpops rpushes fun m s => s.onU fun u =>
    let r := f u (u.tops k pops) (u.rtops k rpops)
    ((u.put k pops r.1).rput k rpops r.2).complete k (tok + m) (u.pcOf k + 1) 0 m

/-- A jump: to the address f gives from the operands and the return operands, with what it leaves on the return stack. -/
def State.jumpOp (s : State) (k set pops rpops rpushes : Nat) (f : Units → List Nat → List Nat → Nat × List Nat) : State :=
  s.issueAlone k fun s => s.op k pops 0 rpops rpushes fun m s => s.onU fun u =>
    let r := f u (u.tops k pops) (u.rtops k rpops)
    ((u.put k pops []).rput k rpops r.2).complete k (2 + m) r.1 set m

/-- A word is a REP or REPI prefix. -/
def isPrefix (w : Nat) : Bool := w == 0x9000 || w == 0x9001

/-- Words the instruction at a occupies: two when a prefix stands there, one otherwise, a word that cannot be fetched
included (R261). -/
def State.wordsAt (s : State) (k a : Nat) : Nat × State :=
  let r := s.fetch k (a % 2 ^ 32) .none
  (if r.1 = respOk ∧ isPrefix r.2.1 then 2 else 1, r.2.2)

/-- A skip (R261): the operands it names, kept with K, and its condition. -/
def State.skipOp (s : State) (k n : Nat) (keep : Bool) (c : Units → List Nat → Bool) : State :=
  s.issueAlone k fun s => s.op k n (if keep then n else 0) 0 0 fun m s =>
    let u := s.u
    let l := u.tops k n
    let npc := u.pcOf k + 1
    let (w, s) := if c u l then s.wordsAt k npc else (0, s)
    s.onU fun u => (u.put k n (if keep then l else [])).complete k (1 + w + m) (npc + w) 2 m

end Sys2Proof.Machine
end

