-- ==== Sys2Proof/Machine/RegFile.lean ====
section
/-! DEFINITION. Plain reads and writes of registers by their fields (00_scope.md R9 to R12); what a unit does besides is
added where the unit is defined. -/
namespace Sys2Proof.Machine

/-- A register of the common counter layout (R12): COUNT in bits 30:0 and OVF in bit 31. -/
def isCounter : List Fld → Bool
  | [c, o] => c.lo == 0 && c.w == 31 && o.lo == 31 && o.acc == .w1c
  | _ => false

/-- A plain read of the register at canonical address a. -/
def Units.regRead (u : Units) (stw : Bool) (a : Nat) : Nat := u.readFields stw (fieldsAt a)

/-- A plain write of the register at canonical address a. -/
def Units.regWrite (u : Units) (stw : Bool) (a v : Nat) : Units :=
  let fs := fieldsAt a
  if isCounter fs then
    match fs with
    | [c, o] => u.clearCounter c o v
    | _ => u
  else u.writeFields stw fs v

end Sys2Proof.Machine
end

