-- ==== Sys2Proof/Machine/Events.lean ====
section
/-! DEFINITION. The event controllers (13_events.md R326 to R344): routing and delivery, entry, RETE, EVT_SEND, the rings'
registers, and the core-local register range (01_architecture.md R20). -/
namespace Sys2Proof.Machine

/-! ## Routing and delivery (R339, R341) -/

def Units.fltMatch (u : Units) (k src kind n : Nat) : Bool :=
  u.is (Reg.EVT_FLTn_B.EN k n) && (src &&& u.rd (Reg.EVT_FLTn_A.MASK k n)) == (u.rd (Reg.EVT_FLTn_A.SRC k n) &&& u.rd (Reg.EVT_FLTn_A.MASK k n)) &&
    decide (u.rd (Reg.EVT_FLTn_B.KLO k n) ≤ kind) && decide (kind ≤ u.rd (Reg.EVT_FLTn_B.KHI k n))

/-- The lowest-numbered matching filter. -/
def Units.route (u : Units) (k src kind : Nat) : Option Nat := (List.range 32).find? fun n => u.fltMatch k src kind n

/-- The core receives records: present and not held in reset. -/
def Units.hears (u : Units) (k : Nat) : Bool := u.corePresent k && !u.held_ k

/-- A record reaches the event controller of core k. An angle engine's records keep the emitting engine's angle (R77,
R334); the others take the filter's BASE. -/
def State.deliver (s : State) (r : EvRec) (loss : Bool) (k : Nat) : State :=
  if !s.u.hears k then s
  else
    match s.u.route k r.src r.kind with
    | none => s
    | some n =>
      let fast := s.u.is (Reg.EVT_FLTn_B.CLASS k n)
      let b := if r.src / 0x1000 = 1 then r.src % 0x1000 else s.u.rd (Reg.EVT_FLTn_B.BASE k n)
      s.ringAdd k fast (recHead r.src r.kind fast false loss) r.time ((r.ang[b]?).getD noAngle) r.pay

/-- The oldest undelivered record of a source reaches every core's event controller. -/
def State.deliverNext (s : State) (src : Nat) : State :=
  let q := s.u.evQueue src
  match q.q with
  | [] => s
  | r :: rs =>
    let s := s.onU fun u => u.setEvQueue src { q := rs, lost := false }
    (List.range 65).foldl (fun s k => s.deliver r q.lost k) s

/-! ## Entry and return (R327 to R331) -/

/-- The status word (R243). -/
def Units.statusOf (u : Units) (k : Nat) : Nat :=
  u.rd (Reg.CORE_STATUS.C k) + 2 * u.rd (Reg.CORE_STATUS.V k) + 4 * u.rd (Reg.CORE_STATUS.AF k) +
    8 * u.rd (Reg.CORE_STATUS.AFT k) + 16 * u.rd (Reg.CORE_STATUS.RS k) + 32 * u.rd (Reg.CORE_STATUS.BANK k)

/-- Set every bit of the status word. -/
def Units.setStatus (u : Units) (k v : Nat) : Units :=
  (((((u.wr (Reg.CORE_STATUS.C k) v).wr (Reg.CORE_STATUS.V k) (v / 2)).wr (Reg.CORE_STATUS.AF k) (v / 4)).wr
    (Reg.CORE_STATUS.AFT k) (v / 8)).wr (Reg.CORE_STATUS.RS k) (v / 16)).wr (Reg.CORE_STATUS.BANK k) (v / 32)

def savePc (fast : Bool) (k : Nat) : Fld := if fast then Reg.EVT_FSAVE_PC.PC k else Reg.EVT_NSAVE_PC.PC k
def saveSt (fast : Bool) (k : Nat) : Fld := if fast then Reg.EVT_FSAVE_ST.STATUS k else Reg.EVT_NSAVE_ST.STATUS k
def saveCnt (fast : Bool) (k : Nat) : Fld := if fast then Reg.EVT_FSAVE_CNT.CNT k else Reg.EVT_NSAVE_CNT.CNT k
def actF (fast : Bool) (k : Nat) : Fld := if fast then Reg.EVT_ACTIVE.FACT k else Reg.EVT_ACTIVE.NACT k

/-- R328: the saves and the vector of a class; the pc as it stands is the resume address. -/
def Units.enterClass (u : Units) (k : Nat) (fast : Bool) : Units :=
  let u := u.breakRep k
  let u := ((u.wr (savePc fast k) (u.pcOf k)).wr (saveSt fast k) (u.statusOf k)).wr (saveCnt fast k) (u.rd (Reg.CORE_CNT.CNT k))
  let u := if fast then (u.wr (Reg.CORE_STATUS.BANK k) 1).wr (Reg.CORE_STATUS.AFT k) 0 else u
  let u := ((u.wr (Reg.CORE_STATUS.RS k) 0).wr (Reg.CORE_CNT.CNT k) 0).dropRes k
  let u := u.wr (actF fast k) 1
  (u.setCpu k { u.cpuOf k with micro := none, pair := none }).setPc k
    (u.rd (if fast then Reg.EVT_FVEC.PC k else Reg.EVT_NVEC.PC k))

/-- R331: what a fast entry reports as its cause. -/
def Units.takeCause (u : Units) (k : Nat) : Units :=
  let x := u.cpuOf k
  let u := u.setCpu k { x with sync := none }
  match x.sync with
  | some e => (u.wr (Reg.EVT_FCAUSE.KIND k) e.kind).wr (Reg.EVT_FCAUSEP.PAYLOAD k) e.pay
  | none => (u.wr (Reg.EVT_FCAUSE.KIND k) 0).wr (Reg.EVT_FCAUSEP.PAYLOAD k) 0

/-- The core stands at an entry point (R327). -/
def Units.atEntry (u : Units) (k : Nat) : Bool :=
  let x := u.cpuOf k
  u.coreLive k && !u.gate.holding.contains k && !x.stopped && !x.waiting && x.acc.isNone && !u.inRep k

/-- R327, R328: the core enters the class that is due. A fast entry waits until the store buffer has drained. -/
def State.entry (s : State) (k : Nat) : State :=
  if !s.u.atEntry k then s
  else
    match s.u.entryDue k with
    | none => s
    | some false => s.onU fun u => u.enterClass k false
    | some true =>
      let s := s.drainAll k
      if s.u.drained k then s.onU fun u => (u.enterClass k true).takeCause k else s

/-- R330: RETE. -/
def State.rete (s : State) (k : Nat) : State :=
  s.issueAlone k fun s =>
    let u := s.u
    let fast := u.is (Reg.EVT_ACTIVE.FACT k)
    if !fast && !u.is (Reg.EVT_ACTIVE.NACT k) then s.raise k evUndef 0x9012
    else
      s.onU fun u =>
        let u := u.retire k 3 0 0
        (((u.setStatus k (u.rd (saveSt fast k))).wr (Reg.CORE_CNT.CNT k) (u.rd (saveCnt fast k))).wr (actF fast k) 0).setPc k
          (u.rd (savePc fast k))

/-! ## Ring registers (R336 to R338) -/

/-- A write to EVT_xRING_RD. -/
def State.ringRd (s : State) (k : Nat) (fast : Bool) (v : Nat) : State :=
  let u := s.u
  let rd := u.rd (ringRdF fast k)
  if (v % 65536 + 65536 - rd) % 65536 > u.ringHeld k fast then s.onU fun u => u.wr (Reg.EVT_STATUS.RD_ERR k) 1
  else
    let s := s.onU fun u => u.wr (ringRdF fast k) v
    let n := (s.u.cpuOf k).drops fast
    if n ≠ 0 ∧ s.u.is (ringCfgEn fast k) ∧ s.u.ringHeld k fast < s.u.ringSize k fast then
      (s.onU fun u => u.setCpu k ((u.cpuOf k).setDrops fast 0)).ownRecord k k fast (recHead (0xD000 + k) 0x01 fast false false) (satN 16 n)
    else s

/-- A write to EVT_xRING_CFG: BASE and SIZE change only while EN = 0; EN 0→1 validates the ring. -/
def Units.ringCfg (u : Units) (k : Nat) (fast : Bool) (w : Nat) : Units :=
  if u.is (ringCfgEn fast k) then u.wr (ringCfgEn fast k) (w / 2 ^ 31)
  else
    let u := (u.wr (ringCfgBase fast k) (w % 2 ^ 17 / 16 * 16)).writeField false (ringCfgSize fast k) w
    if !bit w 31 then u
    else if u.rd (ringCfgBase fast k) + 16 * u.ringSize k fast > 0x20000 then u.wr (Reg.EVT_STATUS.CFG_ERR k) 1
    else
      let u := ((u.wr (ringCfgEn fast k) 1).wr (ringWrF fast k) 0).wr (ringRdF fast k) 0
      u.setCpu k ((u.cpuOf k).setDrops fast 0)

/-- R340: a write to EVT_SEND by core k. -/
def State.evtSend (s : State) (k w : Nat) : State :=
  let t := bits w 6 0
  if t > 64 || !s.u.hears t then s.onU fun u => u.wr (Reg.EVT_STATUS.SEND_ERR k) 1
  else
    let fast := bit w 7
    s.ringAdd t fast (recHead (0xF000 + k) (bits w 15 8) fast false false) (s.u.now % 2 ^ 32)
      (s.u.stampAngle (bits w 18 16) s.u.clock) (s.u.rd (Reg.EVT_SENDP.PAYLOAD k))

/-! ## Core-local registers (10_ehrel_isa.md R243; 11_pipeline_and_timing.md R293, R303) -/

/-- Canonical address of a core-local register. -/
def coreReg (k off : Nat) : Nat := 0x100000000 + 0x1000 * k + off

/-- R293: a write to CORE_MODE. -/
def State.modeWrite (s : State) (k v : Nat) : State :=
  let dc := s.u.dcOn k
  let ic := s.u.icOn k
  let t := s.onU fun u => u.regWrite false (coreReg k 0x080) v
  let t := if dc && !t.u.dcOn k then t.flushDc k else t
  if ic && !t.u.icOn k then t.onU fun u => u.setIc k [] else t

/-- R243: a write to a spill configuration. -/
def Units.spillCfg (u : Units) (k t w : Nat) : Units :=
  let base := w % 2 ^ 17 / 4 * 4
  let words := bits w 31 20
  if u.rd (stkUsed t k) ≠ 0 ∨ base + 4 * words > 0x20000 then u
  else (u.wr (stkBase t k) base).wr (stkWords t k) words

/-- A read of core k's own register at an offset: the identity and the pending bits are computed. -/
def Units.coreRead (u : Units) (k off : Nat) : Nat :=
  if off = 0x000 then (if k < 64 then k else 64)
  else if off = 0x104 then
    u.rd (Reg.EVT_ACTIVE.NACT k) + 2 * u.rd (Reg.EVT_ACTIVE.FACT k) + 4 * b2n (u.normPend k) + 8 * b2n (u.fastPend k)
  else u.regRead (k == 64) (coreReg k off)

/-- A write of core k to its own register at an offset. -/
def State.coreWriteReg (s : State) (k off v : Nat) : State :=
  match off with
  | 0x040 => s.onU fun u => u.spillCfg k 0 v
  | 0x048 => s.onU fun u => u.spillCfg k 1 v
  | 0x050 => s.onU fun u => u.spillCfg k 2 v
  | 0x058 => s.onU fun u => u.spillCfg k 3 v
  | 0x080 => s.modeWrite k v
  | 0x130 => s.onU fun u => u.ringCfg k false v
  | 0x140 => s.onU fun u => u.ringCfg k true v
  | 0x138 => s.ringRd k false v
  | 0x148 => s.ringRd k true v
  | 0x150 => s.evtSend k v
  | _ => s.onU fun u => u.regWrite (k == 64) (coreReg k off) v

/-! ## Meanings -/

/-- The source names a block of identifier classes 0x1 to 0xC (R335). -/
def isSource (src : Nat) : Bool := decide (0x1000 ≤ src) && decide (src < 0xD000)

def execEventRecordArrive (src : Nat) (s : State) : Host.Outcome State Fault Refusal := s.runS (isSource src) fun s => s.deliverNext src
def execEventEntry (k : Nat) (s : State) : Host.Outcome State Fault Refusal := s.runS (decide (k < 65)) fun s => s.entry k
def execEvtRingRdWrite (k : Nat) (fast : Bool) (v : Nat) (s : State) : Host.Outcome State Fault Refusal :=
  s.runS (decide (k < 65 ∧ v < 65536)) fun s => if s.u.coreLive k then s.ringRd k fast v else s
def execEvtRingEnable (k : Nat) (fast : Bool) (w : Nat) (s : State) : Host.Outcome State Fault Refusal :=
  s.runS (decide (k < 65)) fun s => if s.u.coreLive k then s.onU fun u => u.ringCfg k fast (w ||| 2 ^ 31) else s
def execEvtSend (k w : Nat) (s : State) : Host.Outcome State Fault Refusal :=
  s.runS (decide (k < 65)) fun s => if s.u.coreLive k then s.evtSend k w else s
def execRete (k : Nat) (s : State) : Host.Outcome State Fault Refusal := s.runS (decide (k < 65)) fun s => s.rete k
def execCoreModeWrite (k v : Nat) (s : State) : Host.Outcome State Fault Refusal :=
  s.runS (decide (k < 65)) fun s => if s.u.coreLive k then s.modeWrite k v else s
def execCoreApWrite (k a v : Nat) (s : State) : Host.Outcome State Fault Refusal :=
  s.runS (decide (k < 65 ∧ a < 8)) fun s => if s.u.coreLive k then s.onU fun u => u.regWrite false (coreReg k (0x0A0 + 4 * a)) v else s
def execCoreSpillCfgWrite (k t w : Nat) (s : State) : Host.Outcome State Fault Refusal :=
  s.runS (decide (k < 65 ∧ t < 4)) fun s => if s.u.coreLive k then s.onU fun u => u.spillCfg k t w else s

end Sys2Proof.Machine
end

