-- ==== Sys2Proof/Machine/IsaMem.lean ====
section
/-! DEFINITION. Loads, stores, LR and SC, frame access, instruction-space access, IO access, prefixes and system
operations (10_ehrel_isa.md R244 to R248, R259, R263 to R271; 11_pipeline_and_timing.md R281 to R290). An access that
leaves the core stands in its pending access until its response (CORE_ACCESS_RESPONSE). -/
namespace Sys2Proof.Machine

def Units.setAcc (u : Units) (k : Nat) (p : Option Pending) : Units := u.setCpu k { u.cpuOf k with acc := p }
/-- Tokens of the entries an instruction moved before it went to wait for its access. -/
def Units.moveToks (u : Units) (k m : Nat) : Units := if m = 0 then u else u.countN (Reg.CORE_TOKS.COUNT k) (Reg.CORE_TOKS.OVF k) m

/-! ## Completion of accesses -/

/-- A completed instruction whose access failed raises BUS_FAULT, resuming at the following instruction (R247). -/
def State.busFault (s : State) (k space : Nat) (write : Bool) (code pc a : Nat) : State :=
  (s.onU fun u => u.latchFault k space write false code pc).raise k evBus a

/-- A load ends: the value is pushed, 0 on an error. -/
def State.loadEnd (s : State) (k a n : Nat) (signed inc lr : Bool) (m code v : Nat) : State :=
  let pc := s.u.pcOf k
  let v := if code ≠ respOk then 0 else if signed then sext (8 * n) v else v
  let s := s.onU fun u =>
    let u := (u.put k 0 (if inc then [w32 (a + n), v] else [v])).complete k ((if lr then 3 else 2) + m) (pc + 1) (if lr then 0 else 2) m
    if !lr then u
    else if code ≠ respOk then u.dropRes k
    else
      match u.dmap k a with
      | .ram p | .phys p _ =>
        ((u.setCpu k { u.cpuOf k with res := some (p / 16) }).wr (Reg.CORE_RES.VALID k) 1).wr (Reg.CORE_RES.GRANULE k) (a / 16)
      | .none => u
  if code = respOk then s else s.busFault k 1 false code pc a

/-- A read-like access that pushes one value ends. -/
def State.readEnd (s : State) (k space tok m code v a : Nat) : State :=
  let pc := s.u.pcOf k
  let s := s.onU fun u => (u.put k 0 [if code = respOk then v else 0]).complete k (tok + m) (pc + 1) 0 m
  if code = respOk then s else s.busFault k space false code pc a

/-- A write-like access ends. -/
def State.writeEnd (s : State) (k space tok m code a : Nat) : State :=
  let pc := s.u.pcOf k
  let s := s.onU fun u => u.complete k (tok + m) (pc + 1) 0 m
  if code = respOk then s else s.busFault k space true code pc a

/-! ## Loads -/

/-- A load issues. `s0`: before its entries moved; `m`: entries moved; `pops`: the address it pops. -/
def State.loadGo (s0 : State) (k a n : Nat) (signed inc lr : Bool) (pops m : Nat) (s : State) : State :=
  let fin (s : State) (code v : Nat) : State := (s.onU fun u => u.put k pops []).loadEnd k a n signed inc lr m code v
  let wait (s : State) : State := s.onU fun u => ((u.put k pops []).setAcc k (some (.load a n signed inc lr))).moveToks k m
  match s.u.dmap k a with
  | .none => fin (s.onU fun u => u.dNone k false a) respNoUnit 0
  | .ram p =>
    match (if lr then none else s.u.forward k p n) with
    | some v => fin s respOk v
    | none =>
      let s := s.drainOver k p n 4
      if s.u.overlapped k p n then s0.drainOver k p n 4 else fin s respOk (s.load p n)
  | .phys p attr =>
    match (if lr then none else s.u.forward k p n) with
    | some v => fin s respOk v
    | none =>
      let s := s.drainOver k p n 4
      if s.u.overlapped k p n then s0.drainOver k p n 4
      else if lr then wait (s.flushLine k p)
      else if attr ≠ 0 ∧ s.u.dcOn k then
        match s.u.hitDc k p n with
        | some r => fin (s.onU fun _ => r.2) respOk r.1
        | none => wait s
      else wait s

/-- R264: a load of n bytes at the address on top of the stack. -/
def State.loadOp (s : State) (k n : Nat) (signed inc : Bool) : State :=
  s.issue k fun s0 => s0.op k 1 (if inc then 2 else 1) 0 0 fun m s =>
    let a := (s.u.tops k 1).getD 0 0
    if a % n ≠ 0 then s0.alignFault k 1 false a else s0.loadGo k a n signed inc false 1 m s

/-- R265: LR. -/
def State.lrOp (s : State) (k : Nat) : State :=
  s.issueAlone k fun s0 => s0.op k 1 1 0 0 fun m s =>
    let a := (s.u.tops k 1).getD 0 0
    if a % 4 ≠ 0 then (s0.onU fun u => u.dropRes k).alignFault k 1 false a else s0.loadGo k a 4 false false true 1 m s

/-- The frame address (R259). -/
def Units.frameAddr (u : Units) (k imm : Nat) : Nat := w32 (4 * u.rd (Reg.CORE_FP.ADDR k) + imm12 (imm / 4 * 4))

/-- R259: FLD. -/
def State.fldOp (s : State) (k imm : Nat) : State :=
  s.issue k fun s0 => s0.op k 0 1 0 0 fun m s => s0.loadGo k (s.u.frameAddr k imm) 4 false false false 0 m s

/-- The response of a load's access: through the data cache where the address is cached, with the fault e. -/
def State.loadResponse (s : State) (k a n : Nat) (signed inc lr : Bool) (e : RespFault) : State :=
  match s.u.dmap k a with
  | .phys p attr =>
    if s.u.mustWait p then s.onU fun u => u.wakeDom (physDomain p)
    else
      let s := s.onU fun u => u.setAcc k none
      if attr ≠ 0 ∧ s.u.dcOn k ∧ ¬ lr then
        let (code, s) := s.fillDc k p e
        match (if code = respOk then s.u.hitDc k p n else none) with
        | some r => (s.onU fun _ => r.2).loadEnd k a n signed inc lr 0 respOk r.1
        | none => s.loadEnd k a n signed inc lr 0 code 0
      else
        let (code, v, s) := s.physRead (corePort k) .soft p n
        if code ≠ respOk then s.loadEnd k a n signed inc lr 0 code 0
        else
          let r := s.u.respFault e false (corePort k) p
          (s.onU fun _ => r.2).loadEnd k a n signed inc lr 0 r.1 v
  | _ => s

/-! ## Stores -/

/-- The entry of a store to D-space address a. ATTR 4 marks an address that maps to nothing. -/
def Units.storeEnt (u : Units) (k a n v : Nat) : StoreEnt :=
  match u.dmap k a with
  | .ram p => ⟨a, n, v % 2 ^ (8 * n), p, 0, u.pcOf k⟩
  | .phys p attr => ⟨a, n, v % 2 ^ (8 * n), p, attr, u.pcOf k⟩
  | .none => ⟨a, n, v % 2 ^ (8 * n), 2 ^ 40 + a, 4, u.pcOf k⟩

/-- R281: the store enters the buffer and the instruction completes; with the buffer full the oldest entry drains first,
and while it cannot the store waits. -/
def State.storeGo (s0 : State) (k a n v : Nat) (pops : Nat) (res : List Nat) (m : Nat) (s : State) : State :=
  let full (s : State) : Bool := decide (4 ≤ (s.u.cpuOf k).sbuf.length)
  let s := if full s then (s.drainHead k .none).2 else s
  if full s then (s0.drainHead k .none).2
  else
    s.onU fun u =>
      let w := u.storeEnt k a n v
      let u := (u.setCpu k { u.cpuOf k with sbuf := (u.cpuOf k).sbuf ++ [w] }).killOwn k w.phys
      (u.put k pops res).complete k (1 + m) (u.pcOf k + 1) 2 m

/-- R264: a store of n bytes, ( v a -- ) or ( v a -- a+n ). -/
def State.storeOp (s : State) (k n : Nat) (inc : Bool) : State :=
  s.issue k fun s0 => s0.op k 2 (if inc then 1 else 0) 0 0 fun m s =>
    let l := s.u.tops k 2
    let a := l.getD 0 0
    if a % n ≠ 0 then s0.alignFault k 1 true a
    else s0.storeGo k a n (l.getD 1 0) 2 (if inc then [w32 (a + n)] else []) m s

/-- R259: FST. -/
def State.fstOp (s : State) (k imm : Nat) : State :=
  s.issue k fun s0 => s0.op k 1 0 0 0 fun m s => s0.storeGo k (s.u.frameAddr k imm) 4 ((s.u.tops k 1).getD 0 0) 1 [] m s

/-- R266, R289: SC. Its store goes to memory after every earlier store; a failure is reported as that of any store. -/
def State.scOp (s : State) (k : Nat) : State :=
  s.issueAlone k fun s0 => s0.op k 2 1 0 0 fun m s =>
    let l := s.u.tops k 2
    let a := l.getD 0 0
    if a % 4 ≠ 0 then s0.alignFault k 1 true a
    else
      let w := s.u.storeEnt k a 4 (l.getD 1 0)
      let s := s.drainAll k
      if !s.u.drained k then s0.drainAll k
      else if s.u.mustWait w.phys then s.onU fun u => u.wakeDom (physDomain w.phys)
      else
        let f : Bool := (s.u.cpuOf k).res == some (w.phys / 16)
        let s := s.onU fun u =>
          let u := (u.setDc k (dropLine (u.cpuOf k).dc w.phys)).dropRes k
          let u := if f then u.setCpu k { u.cpuOf k with sbuf := [{ w with attr := if w.attr = 4 then 4 else 0 }] } else u
          (u.put k 2 [b2n f]).complete k (3 + m) (u.pcOf k + 1) 0 m
        s.drainAll k

/-! ## Instruction space -/

/-- R267: LDI. -/
def State.ldiOp (s : State) (k : Nat) : State :=
  s.issue k fun s0 => s0.op k 1 1 0 0 fun m s =>
    let w := (s.u.tops k 1).getD 0 0
    let s := s.onU fun u => u.put k 1 []
    match s.u.imap k w with
    | .ram a => s.readEnd k 0 3 m respOk (s.load a 2) w
    | .none => (s.onU fun u => u.dNone k false (2 * w)).readEnd k 0 3 m respNoUnit 0 w
    | .phys a attr =>
      if attr ≠ 0 ∧ s.u.icOn k ∧ (findLine (s.u.cpuOf k).ic a).isSome then
        let r := s.fetch k w .none
        r.2.2.readEnd k 0 3 m r.1 r.2.1 w
      else s.onU fun u => (u.setAcc k (some (.ldi w))).moveToks k m

def State.ldiResponse (s : State) (k w : Nat) (e : RespFault) : State :=
  match s.u.fetchWaits k w with
  | some d => s.onU fun u => u.wakeDom d
  | none =>
    let s := s.onU fun u => u.setAcc k none
    let r := s.fetch k w e
    r.2.2.readEnd k 0 3 0 r.1 r.2.1 w

/-- R246, R290: STI, after every earlier store. -/
def State.stiOp (s : State) (k : Nat) : State :=
  s.issueAlone k fun s0 => s0.op k 2 0 0 0 fun m s =>
    let l := s.u.tops k 2
    let w := l.getD 0 0
    let i := l.getD 1 0 % 65536
    let s := s.drainAll k
    if !s.u.drained k then s0.drainAll k
    else
      let s := s.onU fun u => u.put k 2 []
      match s.u.imap k w with
      | .ram a => (s.store a 2 i).writeEnd k 0 4 m respOk w
      | .none => (s.onU fun u => u.dNone k true (2 * w)).writeEnd k 0 4 m respNoUnit w
      | .phys a _ => (s.flushLine k a).onU fun u => (u.setAcc k (some (.sti i w))).moveToks k m

def State.stiResponse (s : State) (k i w : Nat) (e : RespFault) : State :=
  match s.u.imap k w with
  | .phys a _ =>
    if s.u.mustWait a then s.onU fun u => u.wakeDom (physDomain a)
    else
      let (code, s) := (s.onU fun u => (u.setAcc k none).killOwn k a).coreWrite k a 2 i e
      (s.onU fun u => u.setIc k (dropLine (u.cpuOf k).ic a)).writeEnd k 0 4 0 code w
  | _ => s

/-! ## IO space (R245, R263) -/

/-- An IO read at a: at once inside the core, otherwise until its response. -/
def State.ioReadGo (s0 : State) (k a pops m : Nat) (s : State) : State :=
  if a % 4 ≠ 0 then s0.alignFault k 2 false a
  else
    let s := s.onU fun u => u.put k pops []
    if a < 0x1000 then s.readEnd k 2 2 m respOk (s.u.coreRead k a) a
    else s.onU fun u => (u.setAcc k (some (.ioRead a))).moveToks k m

/-- An IO write at a, once the store buffer has drained (R283). -/
def State.ioWriteGo (s0 : State) (k a v pops m : Nat) (s : State) : State :=
  if a % 4 ≠ 0 then s0.alignFault k 2 true a
  else
    let s := s.drainAll k
    if !s.u.drained k then s0.drainAll k
    else
      let s := s.onU fun u => u.put k pops []
      if a < 0x1000 then (s.coreWriteReg k a v).writeEnd k 2 2 m respOk a
      else s.onU fun u => (u.setAcc k (some (.ioWrite a v))).moveToks k m

def Units.iobAddr (u : Units) (k off : Nat) : Nat := w32 (4 * u.rd (Reg.CORE_IOB.ADDR k) + 4 * off)

/-! ## Prefixes (R268 to R270) -/

/-- The unit of a coprocessor opcode is present to core k (R6, R272), and it defines the function. -/
def Units.copDefined (u : Units) (k w : Nat) : Bool :=
  let f := w % 0x400
  match bits w 11 10 with
  | 0 => decide (k < 64) && u.jetPresent (k / 8) && (f == 0x000 || f == 0x001 || f == 0x002 || f == 0x010 || f == 0x011 || f == 0x012)
  | 1 => decide (k < 64) && u.packerPresent (k / 8) && decide (f < 3)
  | 2 => decide (f < 3)
  | _ => false

/-- The word is a defined instruction of core k (R249, R250). -/
def Units.defined (u : Units) (k w : Nat) : Bool :=
  let o := w % 0x1000
  match w / 0x1000 with
  | 0x0 => decide (o < 0x0E) || (decide (0x10 ≤ o) && decide (o < 0x3B)) || (decide (0x40 ≤ o) && decide (o < 0x43))
  | 0x1 | 0x2 | 0x4 | 0x5 | 0x7 => true
  | 0x3 => o % 4 != 3
  | 0x6 =>
    match bits o 11 10 with
    | 0 => bits o 9 5 == 0 && decide (o % 16 < 8)
    | 1 => bits o 9 4 == 0 && decide (o % 16 < 6)
    | 2 => bits o 9 5 == 0 && decide (o % 16 < 10)
    | _ => true
  | 0x8 => decide (o < 0x0E) || o == 0x10 || o == 0x11
  | 0x9 =>
    o == 0x00 || o == 0x01 || (decide (0x10 ≤ o) && decide (o < 0x15)) || o == 0x20 || o == 0x21 || o == 0x30 || o == 0x31 ||
      (decide (0x40 ≤ o) && decide (o < 0x47)) || o == 0x50 || o == 0x51 || o == 0x53
  | 0xE => u.copDefined k w
  | 0xF => decide (o < 6) || (decide (k < 64) && decide (0x800 ≤ o) && decide (o < 0x900))
  | _ => false

/-- A permitted target of a prefix (R269). -/
def Units.repTarget (u : Units) (k w : Nat) : Bool :=
  u.defined k w &&
    match w / 0x1000 with
    | 0x0 => decide (w < 0x40)
    | 0x1 | 0x2 | 0x3 | 0x7 | 0xE => true
    | 0x8 => decide (w < 0x8010)
    | 0x9 => w == 0x9020 || w == 0x9030 || w == 0x9031
    | _ => false

/-- R268 to R270: REP and REPI. The checks come before the count is popped; a resumed prefix takes its count from CNT. -/
def State.prefixOp (s : State) (k : Nat) (intr : Bool) : State :=
  s.issueAlone k fun s0 =>
    let rs := s0.u.is (Reg.CORE_STATUS.RS k)
    let p := if rs then 0 else 1
    s0.op k p 0 0 0 fun m s =>
      let pc := s.u.pcOf k
      let n := if rs then s.u.rd (Reg.CORE_CNT.CNT k) else (s.u.tops k 1).getD 0 0
      if n > (if intr then 65535 else 64) then s0.raise k evRepCount n
      else
        match s.u.fetchWaits k (w32 (pc + 1)) with
        | some d => s0.onU fun u => u.wakeDom d
        | none =>
          let r := s.fetch k (w32 (pc + 1)) .none
          if r.1 ≠ respOk then
            ((s0.fetch k (w32 (pc + 1)) .none).2.2.onU fun u => u.latchFault k 0 false false r.1 pc).raise k evBus (w32 (pc + 1))
          else if !s.u.repTarget k r.2.1 then s0.raise k evUndef r.2.1
          else
            r.2.2.onU fun u =>
              let tok := (if intr then 2 else 1) + (if n = 0 then 1 else 0)
              let u := ((u.put k p []).complete k (tok + m) (pc + (if n = 0 then 2 else 1)) 0 m).wr (Reg.CORE_CNT.CNT k) n
              if n = 0 then u else u.setCpu k { u.cpuOf k with rep := some ⟨pc, intr⟩ }

/-! ## Meanings -/

def coreOk (k : Nat) : Bool := decide (k < 65)

def execLdw (k : Nat) (s : State) : Host.Outcome State Fault Refusal := s.runS (coreOk k) fun s => s.loadOp k 4 false false
def execLdh (k : Nat) (s : State) : Host.Outcome State Fault Refusal := s.runS (coreOk k) fun s => s.loadOp k 2 true false
def execLdhu (k : Nat) (s : State) : Host.Outcome State Fault Refusal := s.runS (coreOk k) fun s => s.loadOp k 2 false false
def execLdb (k : Nat) (s : State) : Host.Outcome State Fault Refusal := s.runS (coreOk k) fun s => s.loadOp k 1 true false
def execLdbu (k : Nat) (s : State) : Host.Outcome State Fault Refusal := s.runS (coreOk k) fun s => s.loadOp k 1 false false
def execLdwInc (k : Nat) (s : State) : Host.Outcome State Fault Refusal := s.runS (coreOk k) fun s => s.loadOp k 4 false true
def execLdhInc (k : Nat) (s : State) : Host.Outcome State Fault Refusal := s.runS (coreOk k) fun s => s.loadOp k 2 true true
def execLdbuInc (k : Nat) (s : State) : Host.Outcome State Fault Refusal := s.runS (coreOk k) fun s => s.loadOp k 1 false true
def execStw (k : Nat) (s : State) : Host.Outcome State Fault Refusal := s.runS (coreOk k) fun s => s.storeOp k 4 false
def execSth (k : Nat) (s : State) : Host.Outcome State Fault Refusal := s.runS (coreOk k) fun s => s.storeOp k 2 false
def execStb (k : Nat) (s : State) : Host.Outcome State Fault Refusal := s.runS (coreOk k) fun s => s.storeOp k 1 false
def execStwInc (k : Nat) (s : State) : Host.Outcome State Fault Refusal := s.runS (coreOk k) fun s => s.storeOp k 4 true
def execSthInc (k : Nat) (s : State) : Host.Outcome State Fault Refusal := s.runS (coreOk k) fun s => s.storeOp k 2 true
def execStbInc (k : Nat) (s : State) : Host.Outcome State Fault Refusal := s.runS (coreOk k) fun s => s.storeOp k 1 true
def execLr (k : Nat) (s : State) : Host.Outcome State Fault Refusal := s.runS (coreOk k) fun s => s.lrOp k
def execSc (k : Nat) (s : State) : Host.Outcome State Fault Refusal := s.runS (coreOk k) fun s => s.scOp k
def execFld (k imm : Nat) (s : State) : Host.Outcome State Fault Refusal :=
  s.runS (coreOk k && decide (imm < 4096)) fun s => s.fldOp k imm
def execFst (k imm : Nat) (s : State) : Host.Outcome State Fault Refusal :=
  s.runS (coreOk k && decide (imm < 4096)) fun s => s.fstOp k imm
def execFadr (k imm : Nat) (s : State) : Host.Outcome State Fault Refusal :=
  s.runS (coreOk k && decide (imm < 4096)) fun s => s.stackOp k 1 1 0 1 fun u _ => ([u.frameAddr k imm], u)
def execLdi (k : Nat) (s : State) : Host.Outcome State Fault Refusal := s.runS (coreOk k) fun s => s.ldiOp k
def execSti (k : Nat) (s : State) : Host.Outcome State Fault Refusal := s.runS (coreOk k) fun s => s.stiOp k
def execInp (k off : Nat) (s : State) : Host.Outcome State Fault Refusal :=
  s.runS (coreOk k && decide (off < 2048)) fun s =>
    s.issue k fun s0 => s0.op k 0 1 0 0 fun m s => s0.ioReadGo k (s.u.iobAddr k off) 0 m s
def execOut (k off : Nat) (s : State) : Host.Outcome State Fault Refusal :=
  s.runS (coreOk k && decide (off < 2048)) fun s =>
    s.issue k fun s0 => s0.op k 1 0 0 0 fun m s => s0.ioWriteGo k (s.u.iobAddr k off) ((s.u.tops k 1).getD 0 0) 1 m s
def execIord (k : Nat) (s : State) : Host.Outcome State Fault Refusal :=
  s.runS (coreOk k) fun s =>
    s.issue k fun s0 => s0.op k 1 1 0 0 fun m s => s0.ioReadGo k ((s.u.tops k 1).getD 0 0) 1 m s
def execIowr (k : Nat) (s : State) : Host.Outcome State Fault Refusal :=
  s.runS (coreOk k) fun s =>
    s.issue k fun s0 => s0.op k 2 0 0 0 fun m s =>
      let l := s.u.tops k 2
      s0.ioWriteGo k (l.getD 0 0) (l.getD 1 0) 2 m s

def execRep (k : Nat) (s : State) : Host.Outcome State Fault Refusal := s.runS (coreOk k) fun s => s.prefixOp k false
def execRepi (k : Nat) (s : State) : Host.Outcome State Fault Refusal := s.runS (coreOk k) fun s => s.prefixOp k true

/-- R271: WAIT completes as FENCE does, and then holds the core until an event is pending. -/
def execWait (k : Nat) (s : State) : Host.Outcome State Fault Refusal :=
  s.runS (coreOk k) fun s => s.issueAlone k fun s =>
    let s := s.drainAll k
    if !s.u.drained k then s
    else s.onU fun u =>
      let u := u.complete k 2 (u.pcOf k + 1) 0 0
      if u.fastPend k || u.normPend k then u else u.setCpu k { u.cpuOf k with waiting := true }
/-- R267: FENCE. -/
def execFence (k : Nat) (s : State) : Host.Outcome State Fault Refusal :=
  s.runS (coreOk k) fun s => s.issueAlone k fun s =>
    let s := s.drainAll k
    if !s.u.drained k then s else s.onU fun u => u.complete k 1 (u.pcOf k + 1) 0 0
def execBrk (k : Nat) (s : State) : Host.Outcome State Fault Refusal :=
  s.runS (coreOk k) fun s => s.issueAlone k fun s =>
    (s.onU fun u => u.complete k 1 (u.pcOf k + 1) 0 0).raise k evBrk 0
/-- R275, R340: SWE goes to the core's normal ring. -/
def execSwe (k : Nat) (s : State) : Host.Outcome State Fault Refusal :=
  s.runS (coreOk k) fun s => s.issueAlone k fun s => s.op k 1 0 0 0 fun m s =>
    let n := (s.u.tops k 1).getD 0 0
    (s.onU fun u => (u.put k 1 []).complete k (2 + m) (u.pcOf k + 1) 0 m).ownRecord k k false (recHead k evSwe false true false) n
def execGetfp (k : Nat) (s : State) : Host.Outcome State Fault Refusal :=
  s.runS (coreOk k) fun s => s.sysOp k 1 1 0 1 fun u _ => ([4 * u.rd (Reg.CORE_FP.ADDR k)], u)
def execSetfp (k : Nat) (s : State) : Host.Outcome State Fault Refusal :=
  s.runS (coreOk k) fun s => s.sysOp k 1 0 1 0 fun u l => ([], u.wr (Reg.CORE_FP.ADDR k) (l.getD 0 0 / 4))
def execGetiob (k : Nat) (s : State) : Host.Outcome State Fault Refusal :=
  s.runS (coreOk k) fun s => s.sysOp k 1 1 0 1 fun u _ => ([4 * u.rd (Reg.CORE_IOB.ADDR k)], u)
def execSetiob (k : Nat) (s : State) : Host.Outcome State Fault Refusal :=
  s.runS (coreOk k) fun s => s.sysOp k 1 0 1 0 fun u l => ([], u.wr (Reg.CORE_IOB.ADDR k) (l.getD 0 0 / 4))
def execGetcnt (k : Nat) (s : State) : Host.Outcome State Fault Refusal :=
  s.runS (coreOk k) fun s => s.sysOp k 1 0 0 1 fun u _ => ([u.rd (Reg.CORE_CNT.CNT k)], u)
def execGetst (k : Nat) (s : State) : Host.Outcome State Fault Refusal :=
  s.runS (coreOk k) fun s => s.sysOp k 1 0 0 1 fun u _ => ([u.statusOf k], u)
def execSetst (k : Nat) (s : State) : Host.Outcome State Fault Refusal :=
  s.runS (coreOk k) fun s => s.sysOp k 1 0 1 0 fun u l => ([], u.regWrite false (coreReg k 0x004) (l.getD 0 0))

/-- The line operation of an address in an enabled cacheable aperture, after every earlier store (R288). -/
def State.lineOp (s : State) (k : Nat) (f : Nat → Nat → State → State) : State :=
  s.issueAlone k fun s0 => s0.op k 1 0 0 0 fun m s =>
    let a := (s.u.tops k 1).getD 0 0
    let s := s.drainAll k
    if !s.u.drained k then s0.drainAll k
    else f a m (s.onU fun u => u.put k 1 [])

/-- R288: DCWB writes a dirty line back and leaves it valid and clean. -/
def execDcwb (k : Nat) (s : State) : Host.Outcome State Fault Refusal :=
  s.runS (coreOk k) fun s => s.lineOp k fun a m s =>
    match s.u.dmap k a with
    | .phys p attr =>
      match (if attr = 0 then none else findLine (s.u.cpuOf k).dc p) with
      | some c =>
        let (code, s) := if c.dirty then s.writeBack k c else (respOk, s)
        (s.onU fun u => u.setDc k ((u.cpuOf k).dc.map fun d => if d.line = c.line then { d with dirty := false } else d)).writeEnd k 1 2 m code a
      | none => s.writeEnd k 1 2 m respOk a
    | _ => s.writeEnd k 1 2 m respOk a
/-- R288: DCINV. -/
def execDcinv (k : Nat) (s : State) : Host.Outcome State Fault Refusal :=
  s.runS (coreOk k) fun s => s.lineOp k fun a m s =>
    (match s.u.dmap k a with
      | .phys p attr => if attr = 0 then s else s.onU fun u => u.setDc k (dropLine (u.cpuOf k).dc p)
      | _ => s).writeEnd k 1 2 m respOk a
/-- R288: ICINV. -/
def execIcinv (k : Nat) (s : State) : Host.Outcome State Fault Refusal :=
  s.runS (coreOk k) fun s => s.lineOp k fun w m s =>
    (match s.u.imap k w with
      | .phys p attr => if attr = 0 then s else s.onU fun u => u.setIc k (dropLine (u.cpuOf k).ic p)
      | _ => s).writeEnd k 0 2 m respOk w

/-- R250: an undefined word, or an opcode of an absent unit, raises UNDEF and changes nothing. -/
def execUndef (k w : Nat) (s : State) : Host.Outcome State Fault Refusal :=
  s.runS (coreOk k && decide (w < 65536)) fun s =>
    s.issueAlone k fun s => if s.u.defined k w then s else s.raise k evUndef w

/-- R281: the oldest entry of the store buffer drains. -/
def execStoreDrain (k : Nat) (e : RespFault) (s : State) : Host.Outcome State Fault Refusal :=
  s.runS (coreOk k) fun s => if s.u.coreLive k then (s.drainHead k e).2 else s
/-- R265: a reservation is lost 256 tokens after its LR completed. -/
def execReservationExpire (k : Nat) (s : State) : Host.Outcome State Fault Refusal :=
  s.run (coreOk k) fun u => if (u.cpuOf k).res.isSome then u.dropRes k else u

end Sys2Proof.Machine
end

