-- ==== Sys2Proof/Machine/Packer.lean ====
section
/-! DEFINITION. The packer's block format: encoding and decoding as pure functions on words (14_attached_units.md R354 to
R357). -/
namespace Sys2Proof.Machine

/-- W of a WIDTH code. -/
def pkWidth (c : Nat) : Nat := match c with | 0 => 16 | 1 => 18 | 2 => 24 | _ => 32

/-- The bit length of a number (up to 64 bits). -/
def bitLen : Nat → Nat → Nat
  | 0, _ => 0
  | n + 1, v => if v / 2 ^ n ≠ 0 then n + 1 else bitLen n v

/-- What a channel carries from sample to sample (R356): its previous two samples and A. -/
structure PkChan where
  x1 : Int := 0
  x2 : Int := 0
  a : Nat := 0

def pkK (a : Nat) : Nat := min 31 (bitLen 64 (a / 16))

/-- The prediction of the next sample. -/
def pkPred (order : Nat) (c : PkChan) : Int := match order with | 0 => 0 | 1 => c.x1 | _ => 2 * c.x1 - c.x2

def pkMap (e : Int) : Nat := if 0 ≤ e then (2 * e).toNat else (-2 * e - 1).toNat
def pkUnmap (u : Nat) : Int := if u % 2 = 0 then (u / 2 : Nat) else -(((u + 1) / 2 : Nat) : Int)

/-- The n bits of v, most significant first. -/
def msb : Nat → Nat → List Bool
  | 0, _ => []
  | n + 1, v => bit v n :: msb n v

/-- The number a list of bits spells, most significant first. -/
def ofBits (l : List Bool) : Nat := l.foldl (fun a b => 2 * a + b2n b) 0

def pkStep (c : PkChan) (x : Int) (u : Nat) : PkChan := { x1 := x, x2 := c.x1, a := c.a + u - c.a / 16 }

/-- The code of one sample, and its channel afterwards. -/
def pkEnc1 (w order : Nat) (c : PkChan) (x : Int) : List Bool × PkChan :=
  let u := pkMap (toInt w (ofInt w (x - pkPred order c)))
  let k := pkK c.a
  let q := u / 2 ^ k
  (if q < 32 then List.replicate q true ++ [false] ++ msb k u else List.replicate 32 true ++ msb w u, pkStep c x u)

/-- The codes of one frame. -/
def pkEncFrame (w order : Nat) : List PkChan → List Int → List Bool × List PkChan
  | c :: cs, x :: xs =>
    let r := pkEnc1 w order c x
    let t := pkEncFrame w order cs xs
    (r.1 ++ t.1, r.2 :: t.2)
  | cs, _ => ([], cs)

/-- A seed frame: the samples enter the channels' history. -/
def pkSeed : List PkChan → List Int → List PkChan
  | c :: cs, x :: xs => { c with x1 := x, x2 := c.x1 } :: pkSeed cs xs
  | cs, _ => cs

/-- The bits of the frames after the seeds. -/
def pkEncFrames (w order : Nat) : List PkChan → List (List Int) → List Bool
  | _, [] => []
  | cs, f :: fs => let r := pkEncFrame w order cs f; r.1 ++ pkEncFrames w order r.2 fs

/-- The words of n words' worth of bits, the last padded with zeros. -/
def bitWords : Nat → List Bool → List Nat
  | 0, _ => []
  | n + 1, bs => let h := bs.take 32; ofBits (h ++ List.replicate (32 - h.length) false) :: bitWords n (bs.drop 32)

def pkHead (frames m order width : Nat) (h16 raw : Bool) : Nat :=
  frames + (m - 1) * 2 ^ 16 + order * 2 ^ 21 + width * 2 ^ 23 + b2n h16 * 2 ^ 25 + b2n raw * 2 ^ 31

/-- R355, R356: the block of a list of frames of m samples each. -/
def pkEncode (m order width : Nat) (h16 : Bool) (fs : List (List Int)) : List Nat :=
  let w := pkWidth width
  let seeds := fs.take order
  let bits := pkEncFrames w order (seeds.foldl pkSeed (List.replicate m {})) (fs.drop order)
  let body := seeds.flatMap (fun f => f.map (fun x => ofInt 32 x)) ++ bitWords ((bits.length + 31) / 32) bits
  if body.length > fs.length * m then
    pkHead fs.length m order width h16 true :: (8 + 4 * fs.length * m) :: fs.flatMap (fun f => f.map (fun x => ofInt 32 x))
  else pkHead fs.length m order width h16 false :: (8 + 4 * body.length) :: body

/-! ## Decoding -/

/-- One-bits before the first zero, up to 32, and the bits after the code's prefix. -/
def pkUnary : Nat → List Bool → Option (Nat × List Bool)
  | 0, bs => some (0, bs)
  | n + 1, true :: bs => (pkUnary n bs).map fun r => (r.1 + 1, r.2)
  | _ + 1, false :: bs => some (0, bs)
  | _ + 1, [] => none

def takeBits (n : Nat) (bs : List Bool) : Option (Nat × List Bool) :=
  if bs.length < n then none else some (ofBits (bs.take n), bs.drop n)

/-- Decode one sample. -/
def pkDec1 (w order : Nat) (c : PkChan) (bs : List Bool) : Option (Int × PkChan × List Bool) :=
  match pkUnary 32 bs with
  | none => none
  | some (q, bs) =>
    let k := pkK c.a
    match (if q < 32 then (takeBits k bs).map fun r => (q * 2 ^ k + r.1, r.2) else takeBits w bs) with
    | none => none
    | some (u, bs) =>
      let x := toInt w (ofInt w (pkUnmap u + pkPred order c))
      some (x, pkStep c x u, bs)

def pkDecFrame (w order : Nat) : List PkChan → List Bool → Option (List Int × List PkChan × List Bool)
  | [], bs => some ([], [], bs)
  | c :: cs, bs =>
    match pkDec1 w order c bs with
    | none => none
    | some (x, c, bs) => (pkDecFrame w order cs bs).map fun r => (x :: r.1, c :: r.2.1, r.2.2)

def pkDecFrames (w order : Nat) : Nat → List PkChan → List Bool → Option (List (List Int) × List Bool)
  | 0, _, bs => some ([], bs)
  | n + 1, cs, bs =>
    match pkDecFrame w order cs bs with
    | none => none
    | some (f, cs, bs) => (pkDecFrames w order n cs bs).map fun r => (f :: r.1, r.2)

/-- Cut a list into frames of m. -/
def framesOf {α : Type} : Nat → Nat → List α → List (List α)
  | 0, _, _ => []
  | n + 1, m, l => l.take m :: framesOf n m (l.drop m)

/-- R357: what the header words promise, or a refusal: frames, m, order, width, H16, RAW, body words. -/
def pkHeader (w0 w1 : Nat) : Option (Nat × Nat × Nat × Nat × Bool × Bool × Nat) :=
  let frames := bits w0 15 0
  let m := bits w0 20 16 + 1
  let order := bits w0 22 21
  let width := bits w0 24 23
  let h16 := bit w0 25
  if bits w0 30 26 ≠ 0 ∨ frames = 0 ∨ frames * m > 8192 ∨ (h16 ∧ width ≠ 0) ∨ order = 3 ∨ w1 % 4 ≠ 0 ∨ w1 < 8 then none
  else some (frames, m, order, width, h16, bit w0 31, (w1 - 8) / 4)

/-- R357: the frames of a block's body, or a refusal. -/
def pkDecode (frames m order width : Nat) (raw : Bool) (body : List Nat) : Option (List (List Int)) :=
  let w := pkWidth width
  if raw then (if body.length = frames * m then some ((framesOf frames m body).map fun f => f.map (toInt 32)) else none)
  else
    let ns := min order frames
    if body.length < ns * m then none
    else
      let seeds := (framesOf ns m body).map fun f => f.map (toInt 32)
      match pkDecFrames w order (frames - ns) (seeds.foldl pkSeed (List.replicate m {})) ((body.drop (ns * m)).flatMap (msb 32)) with
      | none => none
      | some (fs, rest) => if rest.length < 32 then some (seeds ++ fs) else none

end Sys2Proof.Machine
end

