-- ==== Sys2Proof/Machine/Jet.lean ====
section
/-! DEFINITION. The attached units: jet, packer and seal unit, shared round-robin, and their instructions
(14_attached_units.md R345 to R362; 10_ehrel_isa.md R272). An instruction leaves its operands with the unit; the operation
is performed when the unit finishes it (COPROCESSOR_OP_DONE). -/
namespace Sys2Proof.Machine

/-! ## Memory operands (R348, R359) -/

/-- A fault of an operation: misaligned, or an error code, with the address and whether it was a write. -/
structure UnitFault where
  align : Bool
  code : Nat
  write : Bool
  addr : Nat
  deriving DecidableEq, Repr

/-- Where an operand lies: the core's data RAM or own basin SRAM for jet and packer; basin SRAM or an enabled aperture for
the seal unit. -/
def Units.unitAddr (u : Units) (sl : Bool) (k a : Nat) : Option Nat :=
  match u.dmap k a with
  | .ram p => if sl then none else some p
  | .phys p attr =>
    if sl then some p
    else if attr = 0 ∧ k < 64 ∧ physTarget p = .sram (k / 8) ∧ a < 0x2000000 then some p else none
  | .none => none

def unitPort (sl : Bool) (k : Nat) : Nat := if sl then 28 else corePort k

/-- Read one word. -/
def State.unitRead (s : State) (sl : Bool) (k a : Nat) : Except UnitFault Nat × State :=
  if a % 4 ≠ 0 then (.error ⟨true, 0, false, a⟩, s)
  else
    match s.u.unitAddr sl k a with
    | none => (.error ⟨false, respNoUnit, false, a⟩, s)
    | some p =>
      if a < 0x20000 then (.ok (s.load p 4), s)
      else
        let r := s.physRead (unitPort sl k) .soft p 4
        (if r.1 = respOk then .ok r.2.1 else .error ⟨false, r.1, false, a⟩, r.2.2)

/-- Write one word. -/
def State.unitWrite (s : State) (sl : Bool) (k a v : Nat) : Option UnitFault × State :=
  if a % 4 ≠ 0 then (some ⟨true, 0, true, a⟩, s)
  else
    match s.u.unitAddr sl k a with
    | none => (some ⟨false, respNoUnit, true, a⟩, s)
    | some p =>
      if a < 0x20000 then (none, (s.store p 4 v).onU fun u => u.killOwn k p)
      else
        let r := (s.onU fun u => u.killOwn k p).physWrite (unitPort sl k) k p 4 v
        (if r.1 = respOk then none else some ⟨false, r.1, true, a⟩, r.2)

/-- Read n words from a. -/
def State.unitReads (s : State) (sl : Bool) (k a : Nat) : Nat → Except UnitFault (List Nat) × State
  | 0 => (.ok [], s)
  | n + 1 =>
    let r := s.unitRead sl k (w32 a)
    match r.1 with
    | .error e => (.error e, r.2)
    | .ok w =>
      let t := r.2.unitReads sl k (a + 4) n
      (match t.1 with | .ok ws => .ok (w :: ws) | .error e => .error e, t.2)

/-- Write words from a on. -/
def State.unitWrites (s : State) (sl : Bool) (k a : Nat) : List Nat → Option UnitFault × State
  | [] => (none, s)
  | w :: ws =>
    let r := s.unitWrite sl k (w32 a) w
    match r.1 with
    | some e => (some e, r.2)
    | none => r.2.unitWrites sl k (a + 4) ws

/-- Read one byte (the data of SHBLK need no alignment). -/
def State.unitByte (s : State) (k a : Nat) : Except UnitFault Nat × State :=
  match s.u.unitAddr true k a with
  | none => (.error ⟨false, respNoUnit, false, a⟩, s)
  | some p =>
    let r := s.physRead 28 .soft p 1
    (if r.1 = respOk then .ok r.2.1 else .error ⟨false, r.1, false, a⟩, r.2.2)

def State.unitBytes (s : State) (k a : Nat) : Nat → Except UnitFault (List Nat) × State
  | 0 => (.ok [], s)
  | n + 1 =>
    let r := s.unitByte k (w32 a)
    match r.1 with
    | .error e => (.error e, r.2)
    | .ok b =>
      let t := r.2.unitBytes k (a + 1) n
      (match t.1 with | .ok bs => .ok (b :: bs) | .error e => .error e, t.2)

/-! ## The jet (R349 to R353) -/

def Units.jetOf (u : Units) (n : Nat) : Jet := SMap.get {} u.jet n
def Units.setJet (u : Units) (n : Nat) (x : Jet) : Units := { u with jet := SMap.set {} u.jet n x }

def Jet.cfgOf (x : Jet) (c : Nat) : Nat := SMap.get 0 x.cfg c
def Jet.delayOf (x : Jet) (c : Nat) : List Int := SMap.get [] x.delay c
def Jet.phaseOf (x : Jet) (c : Nat) : Nat := SMap.get 0 x.phase c
def cfgBank (c : Nat) : Nat := bits c 3 0
def cfgTaps (c : Nat) : Nat := bits c 11 4
def cfgShift (c : Nat) : Nat := bits c 17 12
def cfgDecim (c : Nat) : Nat := bits c 21 18
def cfgLog (c : Nat) : Nat := bits c 25 22

/-- What the check of the unit's stored words found (R349): a coefficient (or a delay-line word) at a position. -/
structure JetUpset where
  kind : UpsetKind
  delay : Bool
  pos : Nat
  deriving DecidableEq, Repr

/-- Coefficient i of a bank; an uncorrectable one is used as read. -/
def Jet.coefAt (x : Jet) (free : Nat) (e : JetUpset) (bank i : Nat) : Int :=
  if e.kind = .double ∧ ¬ e.delay ∧ e.pos = i then toInt 18 (Config.freeWord free) else toInt 18 (SMap.get 0 x.coef (256 * bank + i))

def sat24 (i : Int) : Int := max (-8388608) (min 8388607 i)

/-- The sum of coefficients times samples over taps 0 to n (R351, R353). -/
def macSum (c : Nat → Int) : Nat → List Int → Nat → Int
  | 0, x :: _, i => c i * x
  | n + 1, x :: xs, i => c i * x + macSum c n xs (i + 1)
  | _, [], _ => 0

/-- Shift, round and saturate: the word and whether it saturated. -/
def jetOut (shift : Nat) (i : Int) : Nat × Bool :=
  let r := roundShift i shift
  (wd (satS32 r), !inS32 r)

/-- JFIR's inputs one by one: delay line, phase, outputs so far (newest first) and V. -/
def firRun (c : Nat → Int) (cfg : Nat) : List Nat → List Int → Nat → List Nat → Bool → List Int × Nat × List Nat × Bool
  | [], d, p, o, v => (d, p, o, v)
  | w :: ws, d, p, o, v =>
    let x := sat24 (sgn w)
    let v := v || x != sgn w
    let d := (x :: d).take 256
    if p = cfgDecim cfg then
      let y := jetOut (cfgShift cfg) (macSum c (cfgTaps cfg) d 0)
      firRun c cfg ws d 0 (y.1 :: o) (v || y.2)
    else firRun c cfg ws d (p + 1) o v

/-- JXCM over its lags: the best lag and sum, and V of the inputs. -/
def xcmRun (c : Nat → Int) (taps : Nat) : Nat → Nat → List Int → Option (Nat × Int) → Option (Nat × Int)
  | 0, _, _, b => b
  | n + 1, l, xs, b =>
    let r := macSum c taps xs 0
    let b := match b with
      | none => some (l, r)
      | some (l0, r0) => if r > r0 then some (l, r) else some (l0, r0)
    xcmRun c taps n (l + 1) (xs.drop 1) b

/-- R349: the record of an upset in an operation of core k. -/
def Units.jetUpset (u : Units) (k : Nat) (e : JetUpset) : Units :=
  let n := k / 8
  match e.kind with
  | .clean => u
  | .single => u.count (Reg.BSN_JET_CE.COUNT n) (Reg.BSN_JET_CE.OVF n)
  | .double =>
    let bank := if e.delay then 0 else cfgBank ((u.jetOf n).cfgOf (k % 8))
    (u.wr (Reg.BSN_JET_STATUS.UE n) 1).emit (0xC000 + n) 0x01 (bank + b2n e.delay * 2 ^ 4 + e.pos % 256 * 2 ^ 8 + k % 8 * 2 ^ 16)

/-- What an operation leaves: a fault, or its results (top first). -/
abbrev CopOut := Except UnitFault (List Nat)

def Units.setV (u : Units) (k : Nat) (v : Bool) : Units := u.wrb (Reg.CORE_STATUS.V k) v

/-- JCFG, JLDC, JFIR and JXCM are the operations within which an uncorrectable jet word can be met (95_what_each_step_holds.md,
JFIR: COEF_UE). -/
def jetChecks (w : Nat) : Bool := [0x000, 0x001, 0x010, 0x012].contains (w % 0x400)

/-- R349: an uncorrectable word sets V in the operation that read it; for the two that compute no V themselves. -/
def Units.ueV (u : Units) (k : Nat) (e : JetUpset) : Units := if e.kind = .double then u.setV k true else u

/-- The jet functions. Operands top first. -/
def State.jetPerform (s : State) (k w : Nat) (ops : List Nat) (e : JetUpset) : CopOut × State :=
  let n := k / 8
  let c := k % 8
  let x := s.u.jetOf n
  let cfg := x.cfgOf c
  match w % 0x400 with
  | 0x000 => (.ok [], s.onU fun u =>
      (u.setJet n { x with cfg := SMap.set 0 x.cfg c (ops.getD 0 0), phase := SMap.set 0 x.phase c 0 }).ueV k e)
  | 0x001 =>
    let r := s.unitReads false k (ops.getD 2 0) (ops.getD 0 0)
    match r.1 with
    | .error f => (.error f, r.2)
    | .ok ws =>
      (.ok [], r.2.onU fun u => (u.setJet n { x with
        coef := (ws.zipIdx.foldl (fun m p => SMap.set 0 m (256 * ops.getD 1 0 + p.2) (p.1 % 2 ^ 18)) x.coef) }).ueV k e)
  | 0x002 => (.ok [], s.onU fun u => u.setJet n { x with delay := SMap.set [] x.delay c [], phase := SMap.set 0 x.phase c 0 })
  | 0x010 =>
    let a := ops.getD 1 0
    let d := ops.getD 0 0
    let r := s.unitReads false k a 8
    match r.1 with
    | .error f => (.error f, r.2)
    | .ok ws =>
      let (free, u) := r.2.u.draw
      let line := x.delayOf c
      let line := if e.kind = .double ∧ e.delay then
        let l := line ++ List.replicate (256 - line.length) 0
        l.take e.pos ++ [toInt 24 (Config.freeWord free)] ++ l.drop (e.pos + 1)
      else line
      let f := firRun (x.coefAt free e (cfgBank cfg)) cfg ws line (x.phaseOf c) [] false
      let out := f.2.2.1.reverse
      let t := (r.2.onU fun _ => u).unitWrites false k d out
      match t.1 with
      | some g => (.error g, t.2)
      | none =>
        (.ok [w32 (d + 4 * out.length), w32 (a + 32)], t.2.onU fun u =>
          (u.setJet n { x with delay := SMap.set [] x.delay c f.1, phase := SMap.set 0 x.phase c f.2.1 }).setV k (f.2.2.2 || e.kind == .double))
  | 0x011 =>
    let m := 2 ^ cfgLog cfg
    let r := s.unitReads false k (ops.getD 1 0) m
    match r.1 with
    | .error f => (.error f, r.2)
    | .ok ws =>
      let t := r.2.unitWrites false k (ops.getD 0 0) ((List.range m).map fun i => w32 (Config.jetFft (bit cfg 26) (cfgLog cfg) ws i))
      match t.1 with
      | some g => (.error g, t.2)
      | none => (.ok [], t.2.onU fun u => u.setV k false)
  | _ =>
    let lags := ops.getD 0 0
    let r := s.unitReads false k (ops.getD 1 0) (lags + cfgTaps cfg)
    match r.1 with
    | .error f => (.error f, r.2)
    | .ok ws =>
      let (free, u) := r.2.u.draw
      let xs := ws.map fun v => sat24 (sgn v)
      let sat := ws.any fun v => sat24 (sgn v) != sgn v
      match xcmRun (x.coefAt free e (cfgBank cfg)) (cfgTaps cfg) lags 0 xs none with
      | none => (.ok [0, 0], r.2)
      | some (l, p) =>
        let y := jetOut (cfgShift cfg) p
        (.ok [y.1, l], (r.2.onU fun _ => u).onU fun u => u.setV k (sat || y.2 || e.kind == .double))

/-- Operands the jet refuses with UNDEF (R347, R349, R350). -/
def Units.jetBad (u : Units) (k w : Nat) (ops : List Nat) : Bool :=
  match w % 0x400 with
  | 0x000 => decide (ops.getD 0 0 ≥ 2 ^ 27)
  | 0x001 => ops.getD 0 0 == 0 || decide (ops.getD 0 0 > 256) || decide (ops.getD 1 0 > 15)
  | 0x011 => let l := cfgLog ((u.jetOf (k / 8)).cfgOf (k % 8)); decide (l < 4) || decide (l > 10)
  | 0x012 => ops.getD 0 0 == 0 || decide (ops.getD 0 0 > 4096)
  | _ => false

/-! ## The packer (R354 to R357) -/

/-- Words one frame occupies in memory, and the samples a frame's words hold. -/
def frameWords (m : Nat) (h16 : Bool) : Nat := if h16 then (m + 1) / 2 else m
def frameIn (m width : Nat) (h16 : Bool) (ws : List Nat) : List Int :=
  if h16 then ((ws.flatMap fun w => [toInt 16 w, toInt 16 (w / 2 ^ 16)]).take m) else ws.map (toInt (pkWidth width))
def pairHalves : List Nat → List Nat
  | a :: b :: t => (a + b * 2 ^ 16) :: pairHalves t
  | [a] => [a]
  | [] => []
def frameOut (h16 : Bool) (f : List Int) : List Nat := if h16 then pairHalves (f.map (ofInt 16)) else f.map (ofInt 32)

def pkM (c : Nat) : Nat := bits c 4 0 + 1

/-- The packer functions. -/
def State.pkPerform (s : State) (k w : Nat) (ops : List Nat) : CopOut × State :=
  let n := k / 8
  match w % 0x400 with
  | 0x000 => (.ok [], s.onU fun u => { u with pkcfg := SMap.set 0 u.pkcfg k (ops.getD 0 0) })
  | 0x001 =>
    let c := SMap.get 0 s.u.pkcfg k
    let m := pkM c
    let width := bits c 8 7
    let h16 := bit c 9
    let frames := ops.getD 0 0
    let fw := frameWords m h16
    let r := s.unitReads false k (ops.getD 2 0) (frames * fw)
    match r.1 with
    | .error f => (.error f, r.2)
    | .ok ws =>
      let fs := (framesOf frames fw ws).map (frameIn m width h16)
      let v : Bool := !h16 && ws.any fun x => toInt (pkWidth width) x != sgn x
      let out := pkEncode m (bits c 6 5) width h16 fs
      let t := r.2.unitWrites false k (ops.getD 1 0) out
      match t.1 with
      | some g => (.error g, t.2)
      | none =>
        (.ok [w32 (ops.getD 1 0 + 4 * out.length), w32 (ops.getD 2 0 + 4 * frames * fw)], t.2.onU fun u =>
          ((u.countN (Reg.BSN_PK_IN.COUNT n) (Reg.BSN_PK_IN.OVF n) (frames * m)).countN (Reg.BSN_PK_OUT.COUNT n)
            (Reg.BSN_PK_OUT.OVF n) (4 * out.length)).setV k v)
  | _ =>
    let a := ops.getD 1 0
    let d := ops.getD 0 0
    let refuse (s : State) : CopOut × State := (.ok [d, a], s.onU fun u => u.setV k true)
    let r := s.unitReads false k a 2
    match r.1 with
    | .error f => (.error f, r.2)
    | .ok hs =>
      match pkHeader (hs.getD 0 0) (hs.getD 1 0) with
      | none => refuse r.2
      | some (frames, m, order, width, h16, raw, body) =>
        -- a longer body cannot end with the bitstream: at most 32 + 32 bits a sample
        if body > 2 * frames * m + 1 then refuse r.2
        else
          let b := r.2.unitReads false k (a + 8) body
          match b.1 with
          | .error f => (.error f, b.2)
          | .ok ws =>
            match pkDecode frames m order width raw ws with
            | none => refuse b.2
            | some fs =>
              let out := fs.flatMap (frameOut h16)
              let t := b.2.unitWrites false k d out
              match t.1 with
              | some g => (.error g, t.2)
              | none =>
                (.ok [w32 (d + 4 * out.length), w32 (a + 8 + 4 * body)], t.2.onU fun u =>
                  (u.countN (Reg.BSN_PK_IN.COUNT n) (Reg.BSN_PK_IN.OVF n) (frames * m)).setV k false)

/-- Operands the packer refuses with UNDEF (R347, R354). -/
def Units.pkBad (u : Units) (k w : Nat) (ops : List Nat) : Bool :=
  match w % 0x400 with
  | 0x000 => let c := ops.getD 0 0; decide (c ≥ 2 ^ 10) || bits c 6 5 == 3 || (bit c 9 && bits c 8 7 != 0)
  | 0x001 => ops.getD 0 0 == 0 || decide (ops.getD 0 0 * pkM (SMap.get 0 u.pkcfg k) > 8192)
  | _ => false

/-! ## The seal unit (R359) -/

def shaOf (ws : List Nat) : List (BitVec 32) := ws.map fun w => BitVec.ofNat 32 w
def shaNat (st : List (BitVec 32)) : List Nat := st.map BitVec.toNat

def State.sealPerform (s : State) (k w : Nat) (ops : List Nat) : CopOut × State :=
  match w % 0x400 with
  | 0x000 =>
    let t := s.unitWrites true k (ops.getD 0 0) (shaNat shaInit)
    (match t.1 with | some g => .error g | none => .ok [], t.2)
  | 0x001 =>
    let st := ops.getD 2 0
    let a := ops.getD 1 0
    let blocks := min (ops.getD 0 0) 4096 / 64
    let h := s.unitReads true k st 8
    match h.1 with
    | .error f => (.error f, h.2)
    | .ok hs =>
      let b := h.2.unitBytes k a (64 * blocks)
      match b.1 with
      | .error f => (.error f, b.2)
      | .ok bs =>
        let t := b.2.unitWrites true k st (shaNat (shaBlocks blocks (shaOf hs) bs))
        (match t.1 with | some g => .error g | none => .ok [ops.getD 0 0 - 64 * blocks, w32 (a + 64 * blocks), st], t.2)
  | _ =>
    let a := ops.getD 0 0
    if a % 8 ≠ 0 then (.error ⟨true, 0, true, a⟩, s)
    else
      let g := match s.u.chain.gseq with | some g => g | none => 2 ^ 64 - 1
      let h := s.u.chain.hash ++ List.replicate (32 - s.u.chain.hash.length) 0
      let t := s.unitWrites true k a ([g % 2 ^ 32, g / 2 ^ 32] ++ (framesOf 8 4 h).map leNat)
      (match t.1 with | some f => .error f | none => .ok [], t.2)

/-! ## Sharing (R345) -/

/-- The unit an opcode of core k addresses: 0 to 7 the jets, 8 to 15 the packers, 16 the seal unit. -/
def copUnit (k w : Nat) : Nat := match bits w 11 10 with | 0 => k / 8 | 1 => 8 + k / 8 | _ => 16

def Units.copOf (u : Units) (i : Nat) : CopUnit := SMap.get {} u.cop i
def Units.setCop (u : Units) (i : Nat) (x : CopUnit) : Units := { u with cop := SMap.set {} u.cop i x }

/-- The operation a core has with a unit. -/
def Units.copWait (u : Units) (i k : Nat) : Bool :=
  match (u.cpuOf k).acc with
  | some (.cop w _) => copUnit k w == i
  | _ => false

/-- BUSY and OWNER (R360). -/
def Units.copShow (u : Units) (i : Nat) : Units :=
  let x := u.copOf i
  if i < 8 then (u.wrb (Reg.BSN_JET_STATUS.BUSY i) x.cur.isSome).wr (Reg.BSN_JET_STATUS.OWNER i) (x.last % 8)
  else if i < 16 then (u.wrb (Reg.BSN_PK_STATUS.BUSY (i - 8)) x.cur.isSome).wr (Reg.BSN_PK_STATUS.OWNER (i - 8)) (x.last % 8)
  else u

/-- The unit, free, takes the next waiting core in number order after the one it served last. -/
def Units.copNext (u : Units) (i : Nat) : Units :=
  let x := u.copOf i
  let next := ((List.range 65).map fun j => (x.last + 1 + j) % 65).find? fun k => u.copWait i k
  (u.setCop i { cur := next, last := next.getD x.last }).copShow i

/-- An instruction of major 0xE issues (R272, R347): pops n operands. -/
def State.copOp (s : State) (k w n : Nat) (pushes : Nat) : State :=
  s.issue k fun s0 =>
    if !s0.u.copDefined k w then s0.raise k evUndef w
    else
      s0.op k n pushes 0 0 fun m s =>
        let ops := s.u.tops k n
        let bad : Bool := match bits w 11 10 with | 0 => s.u.jetBad k w ops | 1 => s.u.pkBad k w ops | _ => false
        if bad then s0.raise k evUndef w
        else
          let s := s.drainAll k
          if !s.u.drained k then s0.drainAll k
          else s.onU fun u =>
            let u := ((u.put k n []).setAcc k (some (.cop w ops))).moveToks k m
            if (u.copOf (copUnit k w)).cur.isNone then u.copNext (copUnit k w) else u

/-- R346: the operation of core k ends: results on the stack, or the operands as issued and a fault (R348). -/
def State.copFinish (s : State) (k w : Nat) (ops : List Nat) (e : JetUpset) : State :=
  let pc := s.u.pcOf k
  let e : JetUpset := if jetChecks w then e else { e with kind := .clean }
  let r := match bits w 11 10 with
    | 0 => (s.onU fun u => u.jetUpset k e).jetPerform k w ops e
    | 1 => s.pkPerform k w ops
    | _ => s.sealPerform k w ops
  let s := r.2.onU fun u => u.setAcc k none
  match r.1 with
  | .ok res =>
    s.onU fun u =>
      let u := if bits w 11 10 = 0 then u.count (Reg.BSN_JET_OPS.COUNT (k / 8)) (Reg.BSN_JET_OPS.OVF (k / 8)) else u
      (u.put k 0 res).complete k 3 (pc + 1) 0 0
  | .error f =>
    let s := s.onU fun u => (u.put k 0 ops).latchFault k 1 f.write false f.code pc
    s.raise k (if f.align then evAlign else evBus) f.addr

/-- A unit finishes its operation and serves the next waiting core. -/
def State.copDone (s : State) (i : Nat) (e : JetUpset) : State :=
  match (s.u.copOf i).cur with
  | none => s
  | some k =>
    let s :=
      match (s.u.cpuOf k).acc with
      | some (.cop w ops) => s.copFinish k w ops e
      | _ => s
    s.onU fun u => (u.setCop i { u.copOf i with cur := none }).copNext i

/-! ## Meanings -/

def execJcfg (k : Nat) (s : State) : Host.Outcome State Fault Refusal := s.runS (coreOk k) fun s => s.copOp k 0xE000 1 0
def execJldc (k : Nat) (s : State) : Host.Outcome State Fault Refusal := s.runS (coreOk k) fun s => s.copOp k 0xE001 3 0
def execJclr (k : Nat) (s : State) : Host.Outcome State Fault Refusal := s.runS (coreOk k) fun s => s.copOp k 0xE002 0 0
def execJfir (k : Nat) (s : State) : Host.Outcome State Fault Refusal := s.runS (coreOk k) fun s => s.copOp k 0xE010 2 2
def execJfft (k : Nat) (s : State) : Host.Outcome State Fault Refusal := s.runS (coreOk k) fun s => s.copOp k 0xE011 2 0
def execJxcm (k : Nat) (s : State) : Host.Outcome State Fault Refusal := s.runS (coreOk k) fun s => s.copOp k 0xE012 2 2
def execPkcfg (k : Nat) (s : State) : Host.Outcome State Fault Refusal := s.runS (coreOk k) fun s => s.copOp k 0xE400 1 0
def execPkenc (k : Nat) (s : State) : Host.Outcome State Fault Refusal := s.runS (coreOk k) fun s => s.copOp k 0xE401 3 2
def execPkdec (k : Nat) (s : State) : Host.Outcome State Fault Refusal := s.runS (coreOk k) fun s => s.copOp k 0xE402 2 2
def execShinit (k : Nat) (s : State) : Host.Outcome State Fault Refusal := s.runS (coreOk k) fun s => s.copOp k 0xE800 1 0
def execShblk (k : Nat) (s : State) : Host.Outcome State Fault Refusal := s.runS (coreOk k) fun s => s.copOp k 0xE801 3 3
def execShchn (k : Nat) (s : State) : Host.Outcome State Fault Refusal := s.runS (coreOk k) fun s => s.copOp k 0xE802 1 0

def execCoprocessorOpDone (unit : Nat) (kind : UpsetKind) (delay : Bool) (pos : Nat) (s : State) : Host.Outcome State Fault Refusal :=
  s.runS (decide (unit < 17 ∧ pos < 256)) fun s => s.copDone unit ⟨kind, delay, pos⟩

end Sys2Proof.Machine
end

