-- ==== Sys2Proof/Machine/Serve.lean ====
section
/-! DEFINITION. How the steward serves mailbox frames: responses, mailboxes, sessions, relays and long commands
(17_steward_and_sessions.md R420 to R434). -/
namespace Sys2Proof.Machine

/-! ## Status codes (R420) -/

def sOk : Nat := 0
def sInProgress : Nat := 0x0001
def sUnknownCmd : Nat := 0x0101
def sBadLength : Nat := 0x0102
def sBadParam : Nat := 0x0103
def sLevel : Nat := 0x0104
def sBusy : Nat := 0x0105
def sUnitAbsent : Nat := 0x0106
def sState : Nat := 0x0107
def sStaleTag : Nat := 0x0108
def sNoSession : Nat := 0x0109
def sAuthFail : Nat := 0x010A
def sNonce : Nat := 0x010B
def sBackoff : Nat := 0x010C
def sAccess : Nat := 0x010D
def sWear : Nat := 0x010E
def sResource : Nat := 0x010F
def sFollower : Nat := 0x0110
def sPartnerAbsent : Nat := 0x0111
def sImage : Nat := 0x0112
def sRollback : Nat := 0x0113

/-! ## Responses -/

/-- Answer a frame; nothing is stored. -/
def Units.reply (u : Units) (f : MbFrame) (status detail : Nat) (data : List Nat) : Units :=
  u.mailboxReply f (responseBytes f status detail data)

def Units.box (u : Units) (m : Nat) : Option Mailbox := SMap.get none u.stw.boxes m
def Units.setBox (u : Units) (m : Nat) (b : Mailbox) : Units := { u with stw := { u.stw with boxes := SMap.set none u.stw.boxes m (some b) } }

/-- Answer an accepted command: its response is stored in its mailbox and sent. -/
def Units.answer (u : Units) (f : MbFrame) (status detail : Nat) (data : List Nat) : Units :=
  let b := responseBytes f status detail data
  (u.setBox f.mbox { last := f.seq, response := some b }).mailboxReply f b

def sesEvent (u : Units) (kind pay : Nat) : Units := u.emit 0xB003 kind pay

/-! ## Sessions (R425 to R428) -/

def LongCmd.orphaned (l : LongCmd) : LongCmd := { l with orphan := true }

/-- The effects of R427 on a session that ends. -/
def Units.sessionDrop (u : Units) : Units :=
  let u := u.stopStreams fun _ => true
  let u := { u with stw := { u.stw with tag := 0, boxes := [], longs := u.stw.longs.map LongCmd.orphaned, stage := none, laneHost := [] },
                    pair := { u.pair with relays := [] } }
  (u.wr Reg.SES_STATUS.OPEN 0).wr Reg.SES_STATUS.LEVEL 0

/-- The session ends with a cause: 1 close, 2 idle, 3 another open, 4 power state. -/
def Units.sessionEnd (u : Units) (cause : Nat) : Units :=
  if u.is Reg.SES_STATUS.OPEN then sesEvent u.sessionDrop 0x02 cause else u

/-- A successful SESSION_OPEN (R425 step 3): the new tag is neither 0 nor the previous one. -/
def Units.sessionBegin (u : Units) (service : Bool) (transport : Nat) : Units :=
  let u := if u.is Reg.SES_STATUS.OPEN then (u.sessionEnd 3).count Reg.SES_TAKEOVER.COUNT Reg.SES_TAKEOVER.OVF else u
  let d := u.draw
  let u := d.2
  let bad (t : Nat) : Bool := t == 0 || t == u.stw.lastTag
  let t := (([Config.freeWord d.1 % 2 ^ 32, 1, 2, 3].find? fun t => !bad t).getD 1)
  let u := { u with stw := { u.stw with tag := t, lastTag := t, heard := u.clock } }
  let u := ((u.wr Reg.SES_STATUS.OPEN 1).wrb Reg.SES_STATUS.LEVEL service).wr Reg.SES_STATUS.TRANSPORT transport
  sesEvent (u.count Reg.SES_OPENS.COUNT Reg.SES_OPENS.OVF) 0x01 (b2n service + transport * 2)

/-! ## Judging a frame (R421, R428, R429, R434) -/

/-- R421: the mailbox rules: whether the frame is accepted, and the state after. -/
def Units.boxJudge (u : Units) (f : MbFrame) : Bool × Units :=
  match u.box f.mbox with
  | none => (true, u)
  | some b =>
    let d := (f.seq + 2 ^ 32 - b.last) % 2 ^ 32
    if d = 0 then
      match b.response with
      | some r => (false, u.mailboxReply f r)
      | none => (false, u.reply f sInProgress 0 [])
    else if d ≤ 2 ^ 31 - 1 then
      if b.response.isNone then (false, u.reply f sBusy f.mbox []) else (true, u)
    else (false, u.count Reg.SES_BADFRAME.COUNT Reg.SES_BADFRAME.OVF)

/-- An accepted command takes its mailbox: LAST becomes its SEQ, and it runs. -/
def Units.boxTake (u : Units) (f : MbFrame) : Units :=
  let wrap : Bool := match u.box f.mbox with | some b => decide (f.seq < b.last) | none => false
  let u := if wrap then sesEvent u 0x04 f.mbox else u
  u.setBox f.mbox { last := f.seq, response := none }

/-- The session rules of a frame with a level (0 race, 1 service): whether it goes on to its mailbox. A frame from the twin
leader has passed them there; a change of its tag empties the mailboxes. -/
def Units.tagJudge (u : Units) (f : MbFrame) (level : Nat) : Bool × Units :=
  if f.transport = 2 then
    if f.tag = u.pair.ftag then (true, u)
    else (true, { u with pair := { u.pair with ftag := f.tag }, stw := { u.stw with boxes := [], longs := u.stw.longs.map LongCmd.orphaned } })
  else if f.tag = 0 then (false, u.reply f sNoSession 0 [])
  else if ¬ u.is Reg.SES_STATUS.OPEN ∨ f.tag ≠ u.stw.tag then (false, u.reply f sStaleTag 0 [])
  else
    let lanes := if f.transport = 1 then SMap.set none u.stw.laneHost f.lane (some f.src) else u.stw.laneHost
    let u := { u with stw := { u.stw with heard := u.clock, laneHost := lanes } }
    if u.rd Reg.SES_STATUS.LEVEL < level then (false, u.reply f sLevel 0 [])
    else if f.partner then
      if u.rd Reg.TWN_PAIR.ROLE = 1 ∧ u.is Reg.TWN_STATUS.PARTNER then
        (false, ({ u with pair := { u.pair with relays := u.pair.relays ++ [f] } }).twinSend 0x03 f.raw)
      else (false, u.reply f sPartnerAbsent 0 [])
    else (true, u)

/-- The mailbox of a running long command that acts on the same thing (R422). -/
def Units.busyWith (u : Units) (res : List Nat) : Option Nat :=
  if res.isEmpty then none
  else if res.head? = some 4 ∧ u.pwr.target ≠ 0 then some u.pwr.mbox
  else ((u.stw.longs.find? fun l => l.res == res).map fun l => l.frame.mbox)

/-- The commands that steward recovery serves (R437). -/
def recoveryCmds : List Nat := [0x0001, 0x0002, 0x0080, 0x0081, 0x0082, 0x0083]

/-- The front frame of the arrival queue, when the steward can serve it. -/
def Units.frontFrame (u : Units) : Option MbFrame :=
  if u.stw.running ∧ ¬ u.gate.stwOff then u.stw.arrivals.head? else none

/-- What comes before a command is looked at: a follower answers direct frames with FOLLOWER (R434); recovery serves only
the service port and its own commands (R437). -/
def Units.doorJudge (u : Units) (f : MbFrame) : Bool × Units :=
  if u.rd Reg.TWN_PAIR.ROLE = 2 ∧ f.transport ≠ 2 then (false, u.reply f sFollower 0 [])
  else if u.is Reg.SES_STATUS.RECOVERY ∧ f.transport ≠ 0 then (false, u)
  else if u.is Reg.SES_STATUS.RECOVERY ∧ ¬ recoveryCmds.contains f.cmd then (false, u.reply f sState 0 [])
  else (true, u)

/-- Take the front frame off the arrival queue. -/
def Units.popFrame (u : Units) : Units := { u with stw := { u.stw with arrivals := u.stw.arrivals.drop 1 } }

/-- Serve the front frame when it carries command `cmd`: the checks that come before every command, then the mailbox, then
what the command acts on, then the command itself. -/
def State.serve (s : State) (cmd level : Nat) (res : Units → MbFrame → List Nat) (k : MbFrame → State → State) : State :=
  match s.u.frontFrame with
  | none => s
  | some f =>
    if f.cmd ≠ cmd then s
    else
      let a := s.u.popFrame.doorJudge f
      if ¬ a.1 then s.onU fun _ => a.2
      else
        let b := a.2.tagJudge f level
        if ¬ b.1 then s.onU fun _ => b.2
        else
          let c := b.2.boxJudge f
          if ¬ c.1 then s.onU fun _ => c.2
          else
            match c.2.busyWith (res c.2 f) with
            | some m => s.onU fun _ => c.2.reply f sBusy m []
            | none => k f (s.onU fun _ => c.2.boxTake f)

/-- Serve a command that lies outside sessions and mailboxes: SESSION_HELLO and SESSION_OPEN. -/
def State.serveOpen (s : State) (cmd : Nat) (k : MbFrame → Units → Units) : State :=
  match s.u.frontFrame with
  | none => s
  | some f =>
    if f.cmd ≠ cmd then s
    else
      let a := s.u.popFrame.doorJudge f
      s.onU fun _ => if a.1 then k f a.2 else a.2

/-- A short command on the units alone: its status, DETAIL and data, and the state after. -/
abbrev ShortCmd := MbFrame → Units → Nat × Nat × List Nat × Units

/-- Serve a short command: its payload length is checked, then its response is stored and sent. -/
def State.serveShort (s : State) (cmd level : Nat) (len : Nat → Bool) (res : Units → MbFrame → List Nat) (k : ShortCmd) : State :=
  s.serve cmd level res fun f s => s.onU fun u =>
    if ¬ len f.payload.length then u.answer f sBadLength 0 []
    else
      let r := k f u
      r.2.2.2.answer f r.1 r.2.1 r.2.2.1

/-- A command that acts on nothing a long command holds. -/
def noRes (_ : Units) (_ : MbFrame) : List Nat := []
/-- A command on the open volume and its log session. -/
def openRes (u : Units) (_ : MbFrame) : List Nat := 1 :: (u.openVol.map Volume.id).getD []
/-- A command on the volume whose VOLUME_ID leads its payload. -/
def volRes (_ : Units) (f : MbFrame) : List Nat := 1 :: f.payload.take 16
def basinRes (_ : Units) (f : MbFrame) : List Nat := [2, f.payload.getD 0 0]
def fwRes (_ : Units) (_ : MbFrame) : List Nat := [3]
def powerRes (_ : Units) (_ : MbFrame) : List Nat := [4]
def pairRes (_ : Units) (_ : MbFrame) : List Nat := [5]

/-- A long command starts. -/
def Units.longStart (u : Units) (l : LongCmd) : Units := { u with stw := { u.stw with longs := u.stw.longs ++ [l] } }

/-- A long command ends: its response is stored and sent, unless its session has ended. -/
def Units.longEnd (u : Units) (l : LongCmd) (status detail : Nat) (data : List Nat) : Units :=
  let u := { u with stw := { u.stw with longs := u.stw.longs.erase l } }
  if l.orphan then u else u.answer l.frame status detail data

/-- Numbers in a payload. -/
def MbFrame.num (f : MbFrame) (off n : Nat) : Nat := leNat ((f.payload.drop off).take n)

end Sys2Proof.Machine
end

