-- ==== Sys2Proof/Machine/Sluice.lean ====
section
/-! DEFINITION. The sluice channels (08_sluices.md R190 to R207). -/
namespace Sys2Proof.Machine

/-! ## Registers and state -/

def slIdle : Nat := 0
def slRun : Nat := 1
def slDrain : Nat := 2
def slPaused : Nat := 3
def slHalted : Nat := 4
def slDone : Nat := 5

def Units.slState (u : Units) (c : Nat) : Nat := u.rd (Reg.SLC_STATUS.STATE c)
def Units.slOf (u : Units) (c : Nat) : Sluice := SMap.get {} u.slc c
def Units.setSl (u : Units) (c : Nat) (x : Sluice) : Units := { u with slc := SMap.set {} u.slc c x }
def Units.slSrc (u : Units) (c : Nat) : Nat := u.rd (Reg.SLC_SRC_LO.ADDR c) + u.rd (Reg.SLC_SRC_HI.ADDR c) * 2 ^ 32
def Units.slDst (u : Units) (c : Nat) : Nat := u.rd (Reg.SLC_DST_LO.ADDR c) + u.rd (Reg.SLC_DST_HI.ADDR c) * 2 ^ 32
def Units.slCnt (u : Units) (c : Nat) : Nat := u.rd (Reg.SLC_COUNT.BYTES c)
def Units.setSrc (u : Units) (c a : Nat) : Units := (u.wr (Reg.SLC_SRC_LO.ADDR c) a).wr (Reg.SLC_SRC_HI.ADDR c) (a / 2 ^ 32)
def Units.setDst (u : Units) (c a : Nat) : Units := (u.wr (Reg.SLC_DST_LO.ADDR c) a).wr (Reg.SLC_DST_HI.ADDR c) (a / 2 ^ 32)
def Units.srcFixed (u : Units) (c : Nat) : Bool := u.rd (Reg.SLC_CFG.SMODE c) == 2
def Units.dstFixed (u : Units) (c : Nat) : Bool := u.rd (Reg.SLC_CFG.DMODE c) == 2
def Units.slEvent (u : Units) (c kind pay : Nat) : Units := u.emit (0x6000 + c) kind (c + pay)
def Units.slPresent (u : Units) (c : Nat) : Bool := u.basinPresent (c / 8)
def Units.slPending (u : Units) (c : Nat) : Nat := u.rd (Reg.SLC_REQS.PENDING c)

/-- Publish WAITING. -/
def Units.slSync (u : Units) (c : Nat) : Units :=
  u.wrb (Reg.SLC_STATUS.WAITING c) (u.slState c == slRun && u.is (Reg.SLC_CFG.PACE c) && u.slPending c == 0)

/-- Bytes asked for and not yet in the funnel. -/
def Sluice.asked (x : Sluice) : Nat := if x.discard then 0 else (x.reads.map Prod.snd).sum
def Sluice.writing (x : Sluice) : Nat := (x.writes.map fun w => w.bytes.length).sum

/-- A command in a state that does not accept it (R193). -/
def Units.slCmdErr (u : Units) (c : Nat) : Units := u.wr (Reg.SLC_STATUS.CMD_ERR c) 1

/-! ## Completion (R199, R200) -/

/-- R192: the lowest configuration code that applies. -/
def Units.slCode (u : Units) (c : Nat) : Nat :=
  let word (m a : Nat) : Bool := m != 0 && a % 4 != 0
  let sm := u.rd (Reg.SLC_CFG.SMODE c); let dm := u.rd (Reg.SLC_CFG.DMODE c)
  if word sm (u.slSrc c) || word dm (u.slDst c) || ((sm != 0 || dm != 0) && u.slCnt c % 4 != 0) then 1
  else if u.is (Reg.SLC_CFG.CHAIN_EN c) ∧ ¬ u.slPresent (u.rd (Reg.SLC_CFG.CHAIN_SRC c)) then 2
  else if u.is (Reg.SLC_CFG.RELOAD c) ∧ u.slCnt c = 0 then 3
  else 0

/-- R192: a valid GO captures the shadow and enters RUN. -/
def Units.slStart (u : Units) (c : Nat) : Units :=
  let u := ((u.wr (Reg.SLC_STATUS.CFG_CODE c) 0).wr (Reg.SLC_STATUS.ERR c) 0).wr (Reg.SLC_STATUS.DIR c) 0
  let x : Sluice := { shSrc := u.slSrc c, shDst := u.slDst c, shCnt := u.slCnt c, left := u.slCnt c, wrAddr := u.slDst c }
  ((u.setSl c x).wr (Reg.SLC_STATUS.STATE c) slRun).slSync c

/-- R200: the effects of completion on the channel itself, its deadline slot, its event and the reservoir's rings. -/
def Units.slFinish (u : Units) (c : Nat) : Units :=
  let x := u.slOf c
  let rl := u.is (Reg.SLC_CFG.RELOAD c)
  let u := (u.wr (Reg.SLC_STATUS.STATE c) slDone).count (Reg.SLC_XFERS.COUNT c) (Reg.SLC_XFERS.OVF c)
  let u := if rl then ((u.setSrc c x.shSrc).setDst c x.shDst).wr (Reg.SLC_COUNT.BYTES c) x.shCnt else u
  let u := u.setSl c { shSrc := x.shSrc, shDst := x.shDst, shCnt := x.shCnt }
  let u := (u.slEvent c 0x01 (b2n rl * 2 ^ 8)).slSync c
  let slot := u.rd (Reg.SLC_CFG.SLOT c)
  let u := if u.is (Reg.SLC_CFG.SLOT_EN c) then u.doneWrite (u.rd (Reg.SLC_CFG.SLOT_ENG c)) (slot / 32) (2 ^ (slot % 32)) else u
  u.pulseDoorbells c

/-- R200: completion, with the chained channels it starts. A started transfer of no bytes completes at once in its turn
(R192); after `fuel` such links the next one waits in RUN for its own step. -/
def Units.slComplete (u : Units) (c : Nat) : Nat → Units
  | 0 => u
  | fuel + 1 =>
    (List.range 64).foldl (fun u d =>
      if u.slPresent d ∧ u.is (Reg.SLC_CFG.CHAIN_EN d) ∧ u.rd (Reg.SLC_CFG.CHAIN_SRC d) = c then
        let st := u.slState d
        if st = slIdle ∨ st = slDone ∨ st = slHalted then
          let code := u.slCode d
          if code ≠ 0 then u.wr (Reg.SLC_STATUS.CFG_CODE d) code
          else
            let u := u.slStart d
            if u.slCnt d = 0 then u.slComplete d fuel else u
        else (u.wr (Reg.SLC_STATUS.CHAIN_MISS d) 1).slEvent d 0x05 (c * 2 ^ 8)
      else u) (u.slFinish c)

/-- Issue the read-backs of R199. -/
def Units.slBacks (u : Units) (c : Nat) : Units :=
  let x := u.slOf c
  u.setSl c { x with backs := x.touched.map Prod.snd, backsIssued := true }

/-! ## Writes and drains (R197, R201, R202, R204) -/

/-- The largest naturally aligned access at an address that fits n bytes (R197). -/
def accessSize (a n : Nat) : Nat := ([32, 16, 8, 4, 2].find? fun s => a % s == 0 && decide (s ≤ n)).getD 1

/-- Issue every write whose bytes the funnel holds (R197). -/
def Units.slIssue (u : Units) (c : Nat) : Nat → Units
  | 0 => u
  | k + 1 =>
    let x := u.slOf c
    let end_ := x.buf.length + x.asked + (if x.drain = 0 then x.left else 0)
    let s := if u.rd (Reg.SLC_CFG.DMODE c) = 0 then accessSize x.wrAddr end_ else 4
    if x.buf = [] ∨ x.buf.length < s then u
    else
      let w : SlcWrite := { addr := x.wrAddr, bytes := x.buf.take s }
      let a := if u.dstFixed c then x.wrAddr else x.wrAddr + s
      (u.setSl c { x with buf := x.buf.drop s, writes := x.writes ++ [w], wrAddr := a }).slIssue c k

/-- HALTED: HALT is emitted, and an ABORT taken meanwhile goes on to IDLE (R202, R204). -/
def Units.slHalt (u : Units) (c : Nat) : Units :=
  let x := u.slOf c
  let u := u.slEvent c 0x02 (u.rd (Reg.SLC_STATUS.ERR c) * 2 ^ 8 + u.rd (Reg.SLC_STATUS.DIR c) * 2 ^ 12)
  let u := u.setSl c { x with drain := 0, abort := false, discard := false, wfail := false, timedOut := false, backs := [] }
  if x.abort then (u.wr (Reg.SLC_STATUS.STATE c) slIdle).slEvent c 0x03 (2 ^ 8) else u.wr (Reg.SLC_STATUS.STATE c) slHalted

/-- A drain whose writes are all acknowledged ends (R201, R202): residue is discarded and SLC_SRC stands at the first byte
not written. -/
def Units.slDrainEnd (u : Units) (c : Nat) : Units :=
  let x := u.slOf c
  let u := if x.buf ≠ [] ∧ ¬ u.srcFixed c then u.setSrc c (u.slSrc c - x.buf.length) else u
  let x := { x with buf := [] }
  let u := u.setSl c x
  if x.drain = 3 then u.slHalt c
  else if x.drain = 2 then
    ((u.setSl c { x with drain := 0, touched := [] }).wr (Reg.SLC_STATUS.STATE c) slIdle).slEvent c 0x03 (2 ^ 8)
  else ((u.setSl c { x with drain := 0 }).wr (Reg.SLC_STATUS.STATE c) slPaused).slEvent c 0x03 0

/-- Go on as far as the channel can without a further response. -/
def Units.slSettle (u : Units) (c : Nat) : Units :=
  let u := u.slIssue c 512
  let x := u.slOf c
  if x.writes ≠ [] ∨ x.reads ≠ [] ∨ x.backs ≠ [] then u.slSync c
  else if u.slCnt c = 0 ∧ x.drain ≤ 1 then
    if x.touched = [] then u.slComplete c 64 else if x.backsIssued then u.slSync c else (u.slBacks c).slSync c
  else if u.slState c = slDrain then (u.slDrainEnd c).slSync c
  else u.slSync c

/-- A burst waiting for a grant gives its place up. -/
def Units.slUnwait (u : Units) (c : Nat) : Units :=
  { u with weir := { u.weir with waits := u.weir.waits.filter fun w => w.ch != c } }

/-- Enter DRAINING toward a state. -/
def Units.slToDrain (u : Units) (c d : Nat) : Units :=
  (((u.setSl c { u.slOf c with drain := d }).slUnwait c).wr (Reg.SLC_STATUS.STATE c) slDrain).slSettle c

/-! ## Commands (R193) -/

def Units.slGo (u : Units) (c : Nat) : Units :=
  let st := u.slState c
  if st = slIdle ∨ st = slDone ∨ st = slHalted then
    let code := u.slCode c
    if code ≠ 0 then u.wr (Reg.SLC_STATUS.CFG_CODE c) code
    else
      let u := u.slStart c
      if u.slCnt c = 0 then u.slComplete c 64 else u
  else u.slCmdErr c

def Units.slPause (u : Units) (c : Nat) : Units :=
  let st := u.slState c
  if st = slRun then u.slToDrain c 1
  else if st = slPaused ∨ (st = slDrain ∧ (u.slOf c).drain = 1) then u
  else u.slCmdErr c

/-- RESUME retries from the registers as they stand. With the count at 0 the read-backs are issued again. -/
def Units.slResume (u : Units) (c : Nat) : Units :=
  let st := u.slState c
  if st = slPaused ∨ st = slHalted then
    let x := u.slOf c
    let u := if st = slHalted then (u.wr (Reg.SLC_STATUS.ERR c) 0).wr (Reg.SLC_STATUS.DIR c) 0 else u
    let y : Sluice := { shSrc := x.shSrc, shDst := x.shDst, shCnt := x.shCnt, left := u.slCnt c, wrAddr := u.slDst c, touched := x.touched }
    ((u.setSl c y).wr (Reg.SLC_STATUS.STATE c) slRun).slSettle c
  else u.slCmdErr c

def Units.slAbort (u : Units) (c : Nat) : Units :=
  let st := u.slState c
  let x := u.slOf c
  if st = slRun then u.slToDrain c 2
  else if st = slDrain then
    if x.drain = 3 then u.setSl c { x with abort := true } else (u.setSl c { x with drain := 2 }).slSettle c
  else if st = slPaused ∨ st = slHalted then (u.wr (Reg.SLC_STATUS.STATE c) slIdle).slEvent c 0x03 (2 ^ 8)
  else u.slCmdErr c

def Units.slClrreq (u : Units) (c : Nat) : Units := (u.wr (Reg.SLC_REQS.PENDING c) 0).slSync c

/-- R195: requests on their way reach the channel; those beyond 255 are lost. -/
def Units.slRequest (u : Units) (c : Nat) : Units :=
  let n := SMap.get 0 u.reqFly c
  let u := { u with reqFly := SMap.set 0 u.reqFly c 0 }
  if n = 0 ∨ ¬ u.slPresent c then u
  else
    let p := u.slPending c + n
    let u := (u.wr (Reg.SLC_REQS.PENDING c) (satN 8 p)).slSync c
    if p > 255 then (u.wr (Reg.SLC_STATUS.REQ_OVF c) 1).slEvent c 0x04 0 else u

/-- R195: a withdrawal lowers PENDING by one, never below 0. -/
def Units.slWithdraw (u : Units) (c : Nat) : Units :=
  let n := SMap.get 0 u.wdFly c
  if n = 0 ∨ ¬ u.slPresent c then u
  else (({ u with wdFly := SMap.set 0 u.wdFly c (n - 1) }).wr (Reg.SLC_REQS.PENDING c) (u.slPending c - 1)).slSync c

/-! ## Errors (R203, R204) -/

/-- Latch the first error and drain toward HALTED. -/
def Units.slLatch (u : Units) (c code dir addr : Nat) : Units :=
  let u := (u.wr (Reg.SLC_STATUS.ERR c) code).wr (Reg.SLC_STATUS.DIR c) dir
  let u := (u.wr (Reg.SLC_EADDR_LO.ADDR c) addr).wr (Reg.SLC_EADDR_HI.ADDR c) (addr / 2 ^ 32)
  let x := u.slOf c
  u.setSl c { x with abort := x.abort || x.drain == 2 }

/-- A read fails: what precedes it is written, the data of later reads is discarded. -/
def Units.slReadFail (u : Units) (c code : Nat) : Units :=
  let x := u.slOf c
  match x.reads with
  | [] => u
  | (a, _) :: rs =>
    if x.discard then (u.setSl c { x with reads := rs, timedOut := false }).slSettle c
    else
      let u := if u.srcFixed c then u else u.setSrc c a
      let u := u.setSl c { x with reads := rs, discard := true, timedOut := false }
      if x.drain = 3 then u.slSettle c else (u.slLatch c code 0 a).slToDrain c 3

/-- A write fails: the registers go back to its first byte, also where a read had failed before it. -/
def Units.slWriteFail (u : Units) (c code : Nat) : Units :=
  let x := u.slOf c
  match x.writes with
  | [] => u
  | w :: ws =>
    if x.wfail then (u.setSl c { x with writes := ws, timedOut := false }).slSettle c
    else
      let back := x.asked + x.buf.length + x.writing
      let u := if u.srcFixed c then u else u.setSrc c (u.slSrc c - back)
      let u := u.setSl c { x with writes := ws, buf := [], discard := true, wfail := true, timedOut := false }
      if x.drain = 3 then u.slSettle c else (u.slLatch c code 1 w.addr).slToDrain c 3

/-- A read-back fails. -/
def Units.slBackFail (u : Units) (c code : Nat) : Units :=
  let x := u.slOf c
  match x.backs with
  | [] => u
  | a :: bs =>
    if x.drain = 3 then (u.setSl c { x with backs := bs, timedOut := false }).slSettle c
    else ((u.setSl c { x with backs := bs, timedOut := false }).slLatch c code 2 a).slToDrain c 3

/-! ## Bursts and responses (R194, R197 to R199) -/

/-- The length of the next burst. -/
def Units.slBurstLen (u : Units) (c : Nat) : Nat :=
  let x := u.slOf c
  let b := 4 * 2 ^ u.rd (Reg.SLC_CFG.BURST c)
  min x.left (b - (if u.rd (Reg.SLC_CFG.SMODE c) = 0 then u.slSrc c % b else x.run % b))

/-- The reads of n bytes at a: largest aligned accesses, or 4-byte ones at rising or at one address. -/
def burstReads (mode a : Nat) : Nat → Nat → List (Nat × Nat)
  | 0, _ => []
  | k + 1, n =>
    if n = 0 then []
    else
      let s := if mode = 0 then accessSize a n else 4
      (a, s) :: burstReads mode (if mode = 2 then a else a + s) k (n - s)

/-- R194, R198, R215: a burst starts when the 512-byte buffer has room for the whole of it, a paced channel has a request, and
its destination needs no grant or gets one. The bytes that wait in the funnel for the rest of a wider write do not occupy the
buffer: with B = 512 and two alignments the next burst could otherwise never start (DEDUCED; log entry 7). -/
def Units.slBurst (u : Units) (c : Nat) : Units :=
  let x := u.slOf c
  let n := u.slBurstLen c
  let dst := if u.dstFixed c then x.wrAddr else x.wrAddr + x.asked + x.buf.length
  if u.slState c ≠ slRun ∨ n = 0 ∨ x.asked + n > 512 ∨ (u.is (Reg.SLC_CFG.PACE c) ∧ u.slPending c = 0) then u
  else
    let g := u.sluiceGrant c dst (if u.dstFixed c then 4 else n)
    match g.1 with
    | .wait => g.2
    | .full => (g.2.slLatch c 1 1 dst).slToDrain c 3
    | .go =>
      let u := g.2
      let u := if u.is (Reg.SLC_CFG.PACE c) then u.wr (Reg.SLC_REQS.PENDING c) (u.slPending c - 1) else u
      let rs := burstReads (u.rd (Reg.SLC_CFG.SMODE c)) (u.slSrc c) n n
      let u := u.setSl c { x with left := x.left - n, run := x.run + n, reads := x.reads ++ rs }
      (if u.srcFixed c then u else u.setSrc c (u.slSrc c + n)).slSync c

/-- The channel has a response to wait for in RUN or DRAINING. -/
def Units.slLive (u : Units) (c : Nat) : Bool := u.slState c == slRun || u.slState c == slDrain

/-- R197: the oldest read's response enters the funnel. A read whose unit's domain is being woken waits. -/
def State.slReadResponse (s : State) (c : Nat) : State :=
  let x := s.u.slOf c
  match x.reads with
  | [] => s
  | (a, n) :: rs =>
    if !s.u.slLive c || x.timedOut then s
    else if s.u.physReach a = .waits then s.onU fun u => u.wakeDom (physDomain a)
    else
      let (code, v, s) := s.physRead (c / 8) (.channel c) a n
      s.onU fun u =>
        if code ≠ respOk then u.slReadFail c code
        else
          let x := u.slOf c
          (u.setSl c { x with reads := rs, buf := if x.discard then x.buf else x.buf ++ leBytes n v }).slSettle c

/-- The unit a write counts under for its read-back (R199). -/
def backUnit (a : Nat) : Nat :=
  match physTarget a with
  | .none => 0 | .dram => 1 | .staging => 2 | .runnel _ => 3 | .dock => 4 | .twin => 5 | .sram n => 8 + n | .coreRam k => 16 + k

/-- The word of the last byte written to a unit. -/
def touch (l : List (Nat × Nat)) (unit_ word : Nat) : List (Nat × Nat) := (l.filter fun p => p.1 != unit_) ++ [(unit_, word)]

/-- R199, R366: the oldest write is performed and acknowledged. -/
def State.slWriteAck (s : State) (c : Nat) : State :=
  let x := s.u.slOf c
  match x.writes with
  | [] => s
  | w :: ws =>
    let n := w.bytes.length
    if !s.u.slLive c || x.timedOut then s
    else if s.u.physReach w.addr = .waits then s.onU fun u => u.wakeDom (physDomain w.addr)
    else
      let (code, s) := s.physWrite (c / 8) (128 + c) w.addr n (leNat w.bytes)
      s.onU fun u =>
        if code ≠ respOk then u.slWriteFail c code
        else if x.wfail then (u.setSl c { u.slOf c with writes := ws }).slSettle c
        else
          let x := u.slOf c
          let u := if u.dstFixed c then u else u.setDst c (u.slDst c + n)
          let u := u.wr (Reg.SLC_COUNT.BYTES c) (u.slCnt c - n)
          let last := w.addr + n - 1
          (u.setSl c { x with writes := ws, touched := touch x.touched (backUnit w.addr) (last - last % 4) }).slSettle c

/-- R199: a read-back returns, without effect at its target; the last one completes the channel. -/
def Units.slBackReturn (u : Units) (c : Nat) : Units :=
  let x := u.slOf c
  if !u.slLive c || x.timedOut then u
  else match x.backs with
    | [] => if u.slState c = slRun ∧ u.slCnt c = 0 then u.slSettle c else u
    | a :: bs =>
      if u.physReach a = .waits then u.wakeDom (physDomain a)
      else if ¬ u.physThere a then (u.noUnit false (c / 8) a).slBackFail c respNoUnit
      else if u.physReach a = .off then (u.physFail respDormant false (c / 8) a 4).slBackFail c respDormant
      else
        let u := u.setSl c { x with backs := bs }
        if bs ≠ [] then u
        else if x.drain ≤ 1 then u.slComplete c 64
        else u.slSettle c

/-- R203, R204: an error response to the oldest outstanding read (0), write (1) or read-back (2): a timeout already
counted, or the fault named. -/
def Units.slErr (u : Units) (c dir : Nat) (e : RespFault) : Units :=
  let x := u.slOf c
  if !u.slLive c then u
  else
    let a := if dir = 0 then (x.reads.head?.map Prod.fst) else if dir = 1 then (x.writes.head?.map SlcWrite.addr) else x.backs.head?
    match a with
    | none => u
    | some a =>
      let r := if x.timedOut then (respTimeout, u) else u.respFault e (dir == 1) (c / 8) a
      if r.1 = respOk then r.2
      else if dir = 0 then r.2.slReadFail c r.1 else if dir = 1 then r.2.slWriteFail c r.1 else r.2.slBackFail c r.1

/-! ## Meanings -/

def execSlcGo (c : Nat) (s : State) : Host.Outcome State Fault Refusal := s.run (decide (c < 64)) fun u => if u.slPresent c then u.slGo c else u
def execSlcPause (c : Nat) (s : State) : Host.Outcome State Fault Refusal := s.run (decide (c < 64)) fun u => if u.slPresent c then u.slPause c else u
def execSlcResume (c : Nat) (s : State) : Host.Outcome State Fault Refusal := s.run (decide (c < 64)) fun u => if u.slPresent c then u.slResume c else u
def execSlcAbort (c : Nat) (s : State) : Host.Outcome State Fault Refusal := s.run (decide (c < 64)) fun u => if u.slPresent c then u.slAbort c else u
def execSlcClrreq (c : Nat) (s : State) : Host.Outcome State Fault Refusal := s.run (decide (c < 64)) fun u => if u.slPresent c then u.slClrreq c else u
def execSlcRequest (c : Nat) (s : State) : Host.Outcome State Fault Refusal := s.run (decide (c < 64)) fun u => u.slRequest c
def execSlcRequestWithdraw (c : Nat) (s : State) : Host.Outcome State Fault Refusal := s.run (decide (c < 64)) fun u => u.slWithdraw c
def execSlcBurstStart (c : Nat) (s : State) : Host.Outcome State Fault Refusal := s.run (decide (c < 64)) fun u => u.slBurst c
def execSlcReadResponse (c : Nat) (s : State) : Host.Outcome State Fault Refusal := s.runS (decide (c < 64)) fun s => s.slReadResponse c
def execSlcWriteAck (c : Nat) (s : State) : Host.Outcome State Fault Refusal := s.runS (decide (c < 64)) fun s => s.slWriteAck c
def execSlcReadbackReturn (c : Nat) (s : State) : Host.Outcome State Fault Refusal := s.run (decide (c < 64)) fun u => u.slBackReturn c
def execSlcError (c dir : Nat) (e : RespFault) (s : State) : Host.Outcome State Fault Refusal :=
  s.run (decide (c < 64 ∧ dir < 3)) fun u => u.slErr c dir e

end Sys2Proof.Machine
end

