-- ==== Sys2Proof/Machine/Reset.lean ====
section
/-! DEFINITION. Core resets, module-wide resets and block resets: what each initialises and keeps (21_reset.md R500 to
R511). -/
namespace Sys2Proof.Machine

def rstEvent (u : Units) (kind pay : Nat) : Units := u.emit 0xB001 kind pay

/-! ## Core reset (R508, R512, 10_ehrel_isa.md R276) -/

/-- One bit of a register. -/
def setBit (v k : Nat) (b : Bool) : Nat := v - b2n (bit v k) * 2 ^ k + b2n b * 2 ^ k

def heldFld (k : Nat) : Fld := if k < 32 then Reg.RST_HELD_LO.CORE else Reg.RST_HELD_HI.CORE
def relFld (k : Nat) : Fld := if k < 32 then Reg.RST_RELMASK_LO.CORE else Reg.RST_RELMASK_HI.CORE
def Units.setHeld (u : Units) (k : Nat) (b : Bool) : Units :=
  (u.wr (heldFld k) (setBit (u.rd (heldFld k)) (k % 32) b)).wr (relFld k) (setBit (u.rd (relFld k)) (k % 32) (!b))

/-- A core's reset is commanded: it stops issuing. -/
def Units.coreHold (u : Units) (k : Nat) : Units :=
  if k < 64 ∧ u.corePresent k ∧ ¬ u.held_ k ∧ ¬ u.gate.holding.contains k then { u with gate := { u.gate with holding := u.gate.holding ++ [k] } } else u

/-- The core state of R503 at its After reset values: registers, stacks, event controller, and the core's jet and packer
contexts (14_attached_units.md R361). -/
def Units.coreInit (u : Units) (k : Nat) : Units :=
  let u := u.resetRegs fun a => decide (coreReg k 0 ≤ a ∧ a < coreReg (k + 1) 0)
  let u := { u with cpu := SMap.set {} u.cpu k {}, pkcfg := SMap.set 0 u.pkcfg k 0 }
  let j : Jet := SMap.get {} u.jet (k / 8)
  let j := { j with cfg := SMap.set 0 j.cfg (k % 8) 0, delay := SMap.set [] j.delay (k % 8) [], phase := SMap.set 0 j.phase (k % 8) 0 }
  { u with jet := SMap.set {} u.jet (k / 8) j }

/-- Nothing of the core is outstanding but its stores: no access, and no operation in progress in an attached unit. -/
def Units.holdReady (u : Units) (k : Nat) : Bool :=
  !(List.range 17).any (fun i => (u.copOf i).cur == some k) && (match (u.cpuOf k).acc with | none => true | some (.cop _ _) => true | _ => false)

/-- The drain of R508 step 2: a fault it finds raises no event. -/
def State.drainQuiet (s : State) (k : Nat) : State :=
  let u := s.u
  let t := (s.onU fun u => (u.wr (Reg.EVT_ACTIVE.FACT k) 0).wr (ringCfgEn true k) 0).drainAll k
  t.onU fun v =>
    ((v.setCpu k { v.cpuOf k with sync := (u.cpuOf k).sync }).wr (Reg.EVT_ACTIVE.FACT k) (u.rd (Reg.EVT_ACTIVE.FACT k))).wr (ringCfgEn true k)
      (u.rd (ringCfgEn true k))

/-- R508 steps 2 and 3: the core's accesses are complete and its stores have drained, its state is initialised, and it is
held. -/
def State.coreHeld (s : State) (k : Nat) : State :=
  if ¬ s.u.gate.holding.contains k ∨ ¬ s.u.holdReady k then s
  else
    let s := s.drainQuiet k
    if ¬ s.u.drained k then s
    else
      s.onU fun u =>
        let u := { u with gate := { u.gate with holding := u.gate.holding.erase k } }
        let u := (u.coreInit k).setHeld k true
        let u := { u with pst := { u.pst with released := SMap.set none u.pst.released k none } }
        rstEvent u.fpChanged 0x03 k

/-- R276: a held core is released: it starts at word 0 of I-space. Its memories as they stand are its fingerprint input
(18_persistent_config.md R446). -/
def State.coreRelease (s : State) (k : Nat) : State :=
  if k < 64 ∧ s.u.corePresent k ∧ s.u.held_ k then
    let img := s.coreImage k
    s.onU fun u =>
      let u := u.setHeld k false
      let u := { u with pst := { u.pst with released := SMap.set none u.pst.released k (some img) } }
      rstEvent u.fpChanged 0x03 (k + 2 ^ 8)
  else s

/-- A write of RST_HELD_LO or RST_HELD_HI: bits 0→1 hold cores, bits 1→0 release them. -/
def State.heldWrite (s : State) (hi : Bool) (v : Nat) : State :=
  (List.range 32).foldl (fun s b =>
    let k := b + 32 * b2n hi
    if bit v b then s.onU fun u => u.coreHold k else s.coreRelease k) s

/-! ## Module-wide reset (R500, R503) -/

/-- Registers kept in always-on logic, by address: RELMASK, the reset counters, the last wake, the thermal trips, the RTC
and its alarm. -/
def alwaysOn (a : Nat) : Bool :=
  [0xF10018, 0xF1001C, 0xF10020, 0xF10024, 0xF00014, 0xF04000, 0xF04008, 0x110040, 0x110044].contains a
/-- The report of the last holdup flush, on flash (09_reservoir.md R237). -/
def flushReport (a : Nat) : Bool := decide (0x140028 ≤ a ∧ a ≤ 0x140038)

/-- Instruction and data RAM of the cores. -/
def isCoreRam (a : Nat) : Bool := decide (0x1020000000 ≤ a ∧ a < 0x1021000000)

/-- The reservoir keeps its flash: volumes, what was admitted, wear, retired blocks and dies. -/
def Reservoir.restart (r : Reservoir) (gap at_ : Nat) : Reservoir :=
  { vols := r.vols, adm := r.adm, lastTok := r.lastTok, stripe := r.stripe, fill := r.fill, durable := r.durable, gapCause := gap,
    flushAt := at_, allow := r.allow, bad := r.bad, dead := r.dead, rebuilding := r.rebuilding, wear := r.wear, waiting := r.waiting,
    poolKib := r.poolKib }

/-- A module-wide reset with its RST_CAUSE: 0 power-on, 1 wake from Off, 2 Deep sleep wake, 3 holdup-flush completion, 4
watchdog, 5 MODULE_RESET, 6 FW_COMMIT reboot; its first release step; the GAP cause of the next group. -/
def Units.moduleReset (u : Units) (cause first gap : Nat) : Units :=
  let po := decide (cause ≤ 1)
  let keep (a : Nat) : Bool := flushReport a || (!po && alwaysOn a)
  let old := u
  let prev := if po then 0 else u.rd Reg.RST_CAUSE.CAUSE
  let v : Units :=
    { census := u.census, regs := SMap.erase (fun k => !keep (k / 32)) u.regs, clock := u.clock, free := u.free, out := u.out, rdata := u.rdata,
      pst := { words := u.pst.words, wear := u.pst.wear },
      rsv := u.rsv.restart gap u.rsv.flushAt,
      stw := { slots := u.stw.slots, pending := u.stw.pending, active := u.stw.active, lastTag := u.stw.lastTag, trial := u.stw.trial, fellBack := u.stw.fellBack, running := false },
      tim := if po then { rtcTick := u.clock } else { rtcBase := u.tim.rtcBase, rtcTick := u.tim.rtcTick },
      pwr := { first := first, kicked := u.clock, loaded := decide (4 ≤ first), hot := decide (cause = 3) && u.pwr.hot } }
  let v := v.wrb Reg.TIM_STATUS.RTC_VALID (!po && old.is Reg.TIM_STATUS.RTC_VALID)
  let v := (((v.wr Reg.PWR_STATUS.IGN (old.rd Reg.PWR_STATUS.IGN)).wr Reg.PWR_THERM.BASE_T (old.rd Reg.PWR_THERM.BASE_T)).wr Reg.PWR_THERM.STATE 0).wr Reg.DOCK_STATUS.PRESENT (old.rd Reg.DOCK_STATUS.PRESENT)
  let v := if po ∨ cause = 3 then (v.wr Reg.RST_RELMASK_LO.CORE 0).wr Reg.RST_RELMASK_HI.CORE 0 else v
  let v := if cause = 4 then v.count Reg.RST_WDOGS.COUNT Reg.RST_WDOGS.OVF else v
  let v := v.wr Reg.PWR_LASTOFF.CAUSE (if cause = 3 then 4 else if po then 0 else old.rd Reg.PWR_LASTOFF.CAUSE)
  let df := if cause = 4 then b2n old.gate.stwDf else if po then 0 else old.rd Reg.RST_CAUSE.STW_DF
  (((v.wr Reg.RST_CAUSE.CAUSE cause).wr Reg.RST_CAUSE.PREV prev).wr Reg.RST_CAUSE.STW_DF df).wr Reg.RST_STATUS.STEP (first - 1)

/-- The reset of the whole module. Core RAMs are cleared at a power-on and a holdup completion and kept otherwise; what
DRAM and basin SRAM then hold is as if nothing had been written. -/
def State.moduleReset (s : State) (cause first gap : Nat) : State :=
  let keep (a : Nat) : Bool := decide (cause ≠ 0 ∧ cause ≠ 1 ∧ cause ≠ 3) && isCoreRam a
  { s with mem := SMap.erase (fun a => !keep a) s.mem, u := s.u.moduleReset cause first gap }

/-- A power-on start, from no supply or from Off: PWR_LASTOFF tells how the running state last ended. -/
def State.powerOn (s : State) (cause : Nat) : State :=
  let off := s.u.pwr.lastOff
  let s := s.moduleReset cause 1 (if off = 0 then 3 else if off = 4 then 2 else 0)
  s.onU fun u =>
    let u := u.wr Reg.PWR_LASTOFF.CAUSE off
    if off = 2 then u.emit 0xB000 0x08 0 else u

/-! ## Block reset (R509, R510) -/

/-- The block exists: its class, its index in range, and present. -/
def Units.blockThere (u : Units) (c i : Nat) : Bool :=
  match c with
  | 0x01 => decide (i < 4)
  | 0x02 | 0x04 | 0x10 => i == 0
  | 0x03 | 0x06 => decide (i < 16)
  | 0x05 => decide (i < 8)
  | 0x07 => decide (i < 64)
  | 0x08 => decide (i < 64) && u.slPresent i
  | 0x09 => u.basinPresent i
  | 0x0A => decide (i < 12)
  | 0x0B => u.camPresent i
  | 0x0C => decide (i < 13) && u.portPresent i
  | 0x0D => decide (i < 3)
  | 0x0E => decide (i < 7)
  | 0x0F => i == 0 && decide (u.census.part ≠ .swk7210)
  | _ => false

/-- The registers of a block, by address. -/
def blockRegs (c i a : Nat) : Bool :=
  let r (b n : Nat) : Bool := decide (b ≤ a ∧ a < b + n)
  match c with
  | 0x01 => r (0x100000 + 0x1000 * i) 0x1000
  | 0x02 => r 0x120000 0x4000
  | 0x03 => r (0x124000 + 0x40 * i) 0x40
  | 0x04 => r 0x126000 0x2000
  | 0x05 => r (0x128000 + 0x10 * i) 0x10
  | 0x06 => r (0x12A000 + 0x10 * i) 0x10 || r (0x12A200 + 4 * i) 4
  | 0x07 => r (0x130000 + 0x400 * i) 0x400
  | 0x08 => r (0x21000 + 0x2000 * (i / 8) + 0x80 * (i % 8)) 0x80
  | 0x09 => r (0x20000 + 0x2000 * i) 0x1000
  | 0x0A => r (0x161000 + 0x100 * i) 0x100
  | 0x0B => r (0x171000 + 0x80 * i) 0x80
  | 0x0C => r (0x151000 + 0x40 * i) 0x40
  | 0x0D => r (0x150000 + 0x10000 * i) 0x18
  | 0x0E => r (0x140100 + 0x20 * i) 0x20
  | 0x0F => r 0x180000 0x8000
  | 0x10 => r 0x188000 0x8000
  | _ => false

/-- The event sources whose output queue is the block's own; a basin's are its voltage and power control, jet and packer. -/
def blockSources (c i : Nat) : List Nat :=
  match c with
  | 0x01 => [0x1000 + i]
  | 0x02 => [0x3000]
  | 0x04 => [0x3002]
  | 0x07 => [0x5000 + i]
  | 0x08 => [0x6000 + i]
  | 0x09 => [0x8000 + i, 0x8010 + i, 0xC000 + i, 0xC008 + i]
  | 0x0A => [canSource i]
  | 0x0B => [camSource i]
  | 0x0F => [0x9030]
  | 0x10 => [0x9031]
  | _ => []

/-- The internal state of a block at its values after reset. -/
def Units.blockState (u : Units) (c i : Nat) : Units :=
  match c with
  | 0x01 => { u with ang := SMap.set {} u.ang i {}, pulse := u.pulse.filter fun e => e.1 / 256 != i }
  | 0x02 => { u with stream := u.stream.filter fun e => decide (32 ≤ e.1), contact := u.contact.filter fun e => e.1 / 256 != 0,
                     pulse := u.pulse.filter fun e => !(decide (64 ≤ e.1 % 256) && decide (e.1 % 256 < 96)) }
  | 0x03 => { u with stream := u.stream.filter fun e => e.1 != 32 + i, contact := u.contact.filter fun e => e.1 != 256 + i,
                     pulse := u.pulse.filter fun e => e.1 % 256 != 96 + i }
  | 0x04 => { u with stream := u.stream.filter fun e => decide (e.1 < 48), contact := u.contact.filter fun e => e.1 / 256 != 2, dinMeas := [] }
  | 0x05 => { u with exc := SMap.set {} u.exc i {}, contact := u.contact.filter fun e => e.1 != 3 * 256 + i }.excBudget
  | 0x06 => { u with trg := SMap.set {} u.trg i {}, contact := u.contact.filter fun e => e.1 != 4 * 256 + i }
  | 0x07 => { u with run := SMap.set {} u.run i {} }
  | 0x08 => { u with slc := SMap.set {} u.slc i {}, reqFly := SMap.set 0 u.reqFly i 0, pulse := u.pulse.filter fun e => e.1 % 256 != i,
                     weir := { u.weir with waits := u.weir.waits.filter fun w => w.ch != i } }
  | 0x09 =>
    let u := u.each (basinCores i) fun u k => (u.coreInit k).setHeld k true
    let none' (m : SMap (Option (List Nat))) : SMap (Option (List Nat)) := m.filter fun e => e.1 / 8 != i
    { u with jet := SMap.set {} u.jet i {}, wcs := SMap.set {} u.wcs i {}, volt := SMap.set {} u.volt i {}, cop := SMap.set {} (SMap.set {} u.cop i {}) (8 + i) {},
             gate := { u.gate with holding := u.gate.holding.filter fun k => k / 8 != i }, pst := { u.pst with released := none' u.pst.released } }.fpChanged
  | 0x0A => u.setCan i {}
  | 0x0B => u.setCam i {}
  | 0x0C => { u with switch := { u.switch with queues := u.switch.queues.filter fun e => e.1 / 8 != i, gates := SMap.set {} u.switch.gates i {},
                                               macs := u.switch.macs.filter fun m => m.port != i, sqiSaid := u.switch.sqiSaid.filter (· ≠ i) } }
  | 0x0D => u.setSink i {}
  | 0x0E => u.setRingDescs i []
  | 0x0F => { u with queue := u.queue.filter fun e => decide (4 ≤ e.1), downs := u.downs.filter fun d => d.path != 0, paused := 0 }
  | 0x10 => { u with queue := u.queue.filter fun e => decide (e.1 < 4), twl := {}, pair := {} }
  | _ => u

/-- A block comes up with its After reset values; a presence detected at a contact stays as it is detected. -/
def Units.blockInit (u : Units) (c i : Nat) : Units :=
  let present := u.rd Reg.DOCK_STATUS.PRESENT
  let u := (u.resetRegs fun a => blockRegs c i a).blockState c i
  let u := u.each (blockSources c i) fun u e => u.setEvQueue e {}
  u.wr Reg.DOCK_STATUS.PRESENT present

/-- A write of RST_BLOCK with GO = 1. -/
def Units.blockGo (u : Units) (v : Nat) : Units :=
  let u := (u.wr Reg.RST_BLOCK.CLASS v).wr Reg.RST_BLOCK.INDEX (v / 2 ^ 8)
  if bit v 31 then
    if u.blockThere (bits v 4 0) (bits v 13 8) then u.wr Reg.RST_BLOCK.BUSY 1 else u.wr Reg.RST_STATUS.BLK_ERR 1
  else u

/-- The block reset in progress completes. A basin's SRAM is written with 0. -/
def State.blockDone (s : State) : State :=
  let c := s.u.rd Reg.RST_BLOCK.CLASS
  let i := s.u.rd Reg.RST_BLOCK.INDEX
  if ¬ s.u.is Reg.RST_BLOCK.BUSY then s
  else
    let s := if c = 0x09 then s.clear (sramBase i) 0x400000 else s
    s.onU fun u =>
      let u := (u.wr Reg.RST_BLOCK.BUSY 0).blockInit c i
      rstEvent (u.count Reg.RST_BLOCKS.COUNT Reg.RST_BLOCKS.OVF) 0x02 (c + i * 2 ^ 8)

/-! ## Meanings -/

def execRstHeldWrite (hi : Bool) (v : Nat) (s : State) : Host.Outcome State Fault Refusal := s.runS true fun s => s.heldWrite hi v
def execCoreHoldDone (k : Nat) (s : State) : Host.Outcome State Fault Refusal := s.runS (decide (k < 64)) fun s => s.coreHeld k
def execRstBlockGo (v : Nat) (s : State) : Host.Outcome State Fault Refusal :=
  s.run true fun u => if u.is Reg.RST_BLOCK.BUSY then u else u.blockGo (setBit v 31 true)
def execBlockResetDone (s : State) : Host.Outcome State Fault Refusal := s.runS true State.blockDone

end Sys2Proof.Machine
end

