-- ==== Sys2Proof/Machine/Time.lean ====
section
/-! DEFINITION. The time base, its sources and servo, gPTP and the real-time clock (03_time_and_stamps.md R79 to R91,
R539). The effects of a step on other units are in Machine/TimeStep.lean. -/
namespace Sys2Proof.Machine

def Units.timEvent (u : Units) (kind pay : Nat) : Units := u.emit 0x2000 kind pay

/-- TIM_STATUS.ACTIVE (R91). -/
def Units.active (u : Units) : Nat := u.rd Reg.TIM_STATUS.ACTIVE

/-- Continue the time base with the present TIM_RATE. -/
def Units.rebaseKeep (u : Units) : Units := u.rebase (timeAcc u.tbase u.clock)

/-- The servo steers TIM_RATE (R83): the value is free within 500 ppm. -/
def Units.slew (u : Units) : Units :=
  let (k, u) := u.draw
  let r := clampI 500000000 (Config.servoRate k)
  let u := if u.tbase = [] then u else u.rebaseKeep
  let u := u.wr Reg.TIM_RATE.RATE (ofInt 32 r)
  if u.tbase = [] then u else u.rebaseKeep

/-- Decide a step (R81): a step while one is pending is added to it. -/
def Units.decideStep (u : Units) (d : Int) : Units :=
  if d = 0 then u
  else { u with tim := { u.tim with pendStep := u.tim.pendStep + d } }.wr Reg.TIM_STATUS.STEP_PEND 1

/-- LOCK (R83). -/
def Units.judgeLock (u : Units) (off : Int) : Units :=
  let g := if off.natAbs < 100 then u.tim.good + 1 else 0
  let u := { u with tim := { u.tim with good := g } }
  let lock := u.is Reg.TIM_STATUS.LOCK
  if g ≥ 8 ∧ ¬ lock then (u.wr Reg.TIM_STATUS.LOCK 1).timEvent 0x02 u.active
  else if off.natAbs ≥ 1000 ∧ lock then ((u.wr Reg.TIM_STATUS.LOCK 0).timEvent 0x03 u.active).twinDetach 3
  else u

/-- The servo takes one offset measurement (R83). -/
def Units.servo (u : Units) (off : Int) : Units :=
  let lim := u.rd Reg.TIM_CTRL.STEP_LIMIT * 100000
  let step := lim ≠ 0 ∧ off.natAbs > lim ∧ (off < 0 ∨ u.is Reg.TIM_CTRL.BACKSTEP)
  let u := if step then u.decideStep (-off) else u.slew
  u.judgeLock off

/-- ACTIVE changes to a source in control. -/
def Units.setActive (u : Units) (a : Nat) : Units := u.wr Reg.TIM_STATUS.ACTIVE a

/-- The multiple of 10^9 nearest to a time. -/
def nearestSec (x : Int) : Int := (x + 500000000) / 1000000000 * 1000000000

/-- R84: a PPS edge on the selected edge at tick t, `sub` ns into its CD04 tick, less CABLE. -/
def Units.ppsEdge (u : Units) (t sub : Nat) : Units :=
  let u := u.advance t
  if ¬ u.is Reg.TIM_PPS_CFG.EN then u
  else
    let noise := match u.tim.lastPps with | some l => decide (t < l + 360000000) | none => false
    if noise then u.count Reg.TIM_PPS_NOISE.COUNT Reg.TIM_PPS_NOISE.OVF
    else
      let date : Int := (u.timeAt t : Int) + sub - u.rd Reg.TIM_PPS_CFG.CABLE
      let src := u.rd Reg.TIM_CTRL.SRC
      let sec : Int := if src = 3 then nearestSec (date - u.tim.gmOffset) else
        match u.tim.nextSec with
        | some s => (s : Int) * 1000000000
        | none => nearestSec date
      let off := date - sec
      let u := { u with tim := { u.tim with lastPps := some t, nextSec := u.tim.nextSec.map (· + 1) } }
      let u := u.wr Reg.TIM_PPS_OFFSET.NS (ofInt 32 (clampI 2147483647 off))
      if src = 1 then (u.setActive 1).servo off
      else if src = 3 then (u.setActive 3).servo off
      else u

/-- Holdover (R84): TIM_RATE is frozen and LOCK clears. -/
def Units.holdover (u : Units) : Units :=
  let lock := u.is Reg.TIM_STATUS.LOCK
  let u := ((u.setActive 5).wr Reg.TIM_STATUS.LOCK 0)
  let u := { u with tim := { u.tim with good := 0 } }
  let u := if lock then (u.timEvent 0x03 5).twinDetach 3 else u
  u.timEvent 0x04 0

/-- R84: no accepted PPS edge for 1,500 ms; under SRC 4 no time transfer from the leader (19_twin_mode.md R468). -/
def Units.ppsHoldover (u : Units) (t : Nat) : Units :=
  let u := u.advance t
  let a := u.active
  if a = 3 ∧ u.is Reg.TIM_GPTP_STATUS.SYNCED then u.setActive 2
  else if a = 1 ∨ a = 3 then u.holdover.count Reg.TIM_PPS_MISS.COUNT Reg.TIM_PPS_MISS.OVF
  else if a = 4 then u.holdover
  else u

/-- R83, R85: a Sync and its follow-up on the slave port give an offset from the grandmaster. -/
def Units.gptpSyncRx (u : Units) (port t : Nat) (off : Int) : Units :=
  let u := u.advance t
  if u.rd Reg.TIM_GPTP_CFG.ROLE ≠ 0 ∧ u.rd Reg.TIM_GPTP_STATUS.SLAVE_PORT = port ∧ port < 13 ∧ u.portPresent port then
    let u := { u with tim := { u.tim with gmOffset := off } }
    let u := (u.wr Reg.TIM_GPTP_STATUS.SYNCED 1).wr Reg.TIM_GPTP_STATUS.OFFSET (ofInt 16 (clampI 32767 off))
    let src := u.rd Reg.TIM_CTRL.SRC
    let u := if src = 2 ∨ src = 3 then u.wr Reg.TIM_STATUS.SEC_VALID 1 else u
    if src = 2 then (u.setActive 2).servo off
    else if src = 3 ∧ u.active ≠ 3 then (u.setActive 2).servo off
    else u
  else u

/-- R85: a peer-delay exchange measures the link delay of a port. -/
def Units.gptpPdelay (u : Units) (port delay : Nat) : Units :=
  if u.portPresent port ∧ port < 13 then { u with tim := { u.tim with pdelay := SMap.set 0 u.tim.pdelay port delay } } else u

/-- The BMCA's order: the first of two clocks is better. -/
def better : List Nat → List Nat → Bool
  | a :: as, b :: bs => decide (a < b) || (decide (a = b) && better as bs)
  | _, _ => false

def announceRank (a : Announce) : List Nat := [a.prio1, a.cls, a.acc, a.var, a.prio2, a.ident]

/-- The clockClass the module advertises (R85). -/
def Units.ownClass (u : Units) : Nat := if (u.active = 1 ∨ u.active = 3) ∧ u.is Reg.TIM_STATUS.LOCK then 6 else 248

def Units.ownRank (u : Units) : List Nat :=
  [u.rd Reg.TIM_GPTP_CFG.PRIORITY1, u.ownClass, Config.ownClock.1, Config.ownClock.2.1, u.rd Reg.TIM_GPTP_CFG.PRIORITY2, Config.ownClock.2.2]

/-- The best Announce held, with its port. -/
def Units.bestAnnounce (u : Units) : Option (Nat × Announce) :=
  u.tim.announces.foldl (fun best p =>
    match best, p.2 with
    | none, some a => some (p.1, a)
    | some (q, b), some a => if better (announceRank a) (announceRank b) then some (p.1, a) else some (q, b)
    | b, none => b) none

/-- The module becomes grandmaster (port 15) or takes a slave port (R85, R90). -/
def Units.takePort (u : Units) (p : Nat) : Units :=
  let old := u.rd Reg.TIM_GPTP_STATUS.SLAVE_PORT
  let gm := u.is Reg.TIM_STATUS.GM
  if p = 15 then
    if gm then u
    else (((u.wr Reg.TIM_GPTP_STATUS.SLAVE_PORT 15).wr Reg.TIM_STATUS.GM 1).wr Reg.TIM_GPTP_STATUS.SYNCED 0).timEvent 0x05 15
  else if p = old ∧ ¬ gm then u
  else (((u.wr Reg.TIM_GPTP_STATUS.SLAVE_PORT p).wr Reg.TIM_STATUS.GM 0).wr Reg.TIM_GPTP_STATUS.SYNCED 0).timEvent 0x05 p

/-- The module is neither grandmaster nor on a slave port (R85). -/
def Units.leavePort (u : Units) : Units :=
  ((u.wr Reg.TIM_GPTP_STATUS.SLAVE_PORT 15).wr Reg.TIM_STATUS.GM 0).wr Reg.TIM_GPTP_STATUS.SYNCED 0

/-- What TIM_GPTP_CFG.ROLE and the Announces held choose (R85): the slave port, 15 for the module as grandmaster, or neither;
and the Announce followed. -/
def Units.gptpChoice (u : Units) : Option Nat × Option Announce :=
  let p1 := u.rd Reg.TIM_GPTP_CFG.PRIORITY1
  match u.rd Reg.TIM_GPTP_CFG.ROLE with
  | 0 => (none, none)
  | 2 => (some 15, none)
  | 3 => (some (u.rd Reg.TIM_GPTP_CFG.PORT), SMap.get none u.tim.announces (u.rd Reg.TIM_GPTP_CFG.PORT))
  | _ =>
    match u.bestAnnounce with
    | some (q, b) => if p1 ≠ 255 ∧ better u.ownRank (announceRank b) then (some 15, none) else (some q, some b)
    | none => (if p1 = 255 then none else some 15, none)

/-- R85, R90: the choice is taken. Under SRC 2 or 3 the grandmaster gives the UTC offset (R91). -/
def Units.gptpChoose (u : Units) : Units :=
  let c := u.gptpChoice
  let u := match c.1 with | some p => u.takePort p | none => u.leavePort
  match c.2 with
  | none => u
  | some b =>
    let u := u.wr Reg.TIM_GPTP_STATUS.GM_CLASS b.cls
    let src := u.rd Reg.TIM_CTRL.SRC
    if src = 2 ∨ src = 3 then (u.wr Reg.TIM_UTC.OFFSET (ofInt 16 b.utc)).wrb Reg.TIM_UTC.VALID b.utcValid else u

/-- R85: an Announce feeds the BMCA, or under ROLE 3 the fixed slave port. -/
def Units.gptpAnnounce (u : Units) (port : Nat) (a : Announce) : Units :=
  if ¬ (u.portPresent port ∧ port < 13) ∨ u.rd Reg.TIM_GPTP_CFG.ROLE = 0 then u
  else { u with tim := { u.tim with announces := SMap.set none u.tim.announces port (some a) } }.gptpChoose

/-- R85: a gPTP port sends one of its periodic messages. Sync and Announce go out while the module is grandmaster or
relays a grandmaster's time and Announce from another port; Pdelay on every port. -/
def Units.gptpTx (u : Units) (port : Nat) (k : GptpKind) : Units :=
  let cls := u.ownClass
  let p1 := u.rd Reg.TIM_GPTP_CFG.PRIORITY1
  let p2 := u.rd Reg.TIM_GPTP_CFG.PRIORITY2
  let gm := u.is Reg.TIM_STATUS.GM
  let relay := u.is Reg.TIM_GPTP_STATUS.SYNCED && u.rd Reg.TIM_GPTP_STATUS.SLAVE_PORT != port
  if ¬ (u.portPresent port ∧ port < 13) ∨ u.rd Reg.TIM_GPTP_CFG.ROLE = 0 then u
  else
    match k with
    | .pdelay => u.send (.gptp port 1 cls p1 p2)
    | .sync => if gm || relay then u.send (.gptp port 0 cls p1 p2) else u
    | .announce =>
      if gm then u.send (.gptp port 2 cls p1 p2)
      else if relay then
        match SMap.get none u.tim.announces (u.rd Reg.TIM_GPTP_STATUS.SLAVE_PORT) with
        | some b => u.send (.gptp port 2 b.cls b.prio1 b.prio2)
        | none => u
      else u

/-- R91: a requester reads TIM_NOW_LO, latching the upper half. -/
def Units.readNowLo (u : Units) (who : Nat) : Nat × Units :=
  let t := u.now
  (t % 2 ^ 32, { u with tim := { u.tim with latch := SMap.set 0 u.tim.latch who (t / 2 ^ 32) } })

/-- R91: TIM_NOW_HI returns the requester's latch. -/
def Units.readNowHi (u : Units) (who : Nat) : Nat := SMap.get 0 u.tim.latch who

/-- The RTC's time at the present tick, in 1/32,768 s (R539). -/
def Units.rtcNow (u : Units) : Nat := u.tim.rtcBase + (u.clock - u.tim.rtcTick) * 32768 / 400000000

/-- R539: the disciplined time base writes the RTC at each whole second. -/
def Units.rtcWrite (u : Units) (t : Nat) : Units :=
  let u := u.advance t
  if 1 ≤ u.active ∧ u.active ≤ 4 then
    let sec := u.now / 1000000000
    let u := { u with tim := { u.tim with rtcBase := sec * 32768, rtcTick := u.clock } }
    u.wr Reg.TIM_STATUS.RTC_VALID 1
  else u

/-- R80: every echo is realigned to the time base. -/
def Units.echoRealign (u : Units) : Units := { u with tim := { u.tim with echo := u.now } }

/-- R91: a write to TIM_STEP_HI decides the step that TIM_STEP_LO began. -/
def Units.stepWrite (u : Units) (hi : Nat) : Units := u.decideStep (toInt 64 (u.tim.stepLo + (hi % 2 ^ 32) * 2 ^ 32))

/-- R539: the time base starts counting, from the RTC where it is valid. -/
def Units.startTime (u : Units) : Units :=
  let v := u.is Reg.TIM_STATUS.RTC_VALID
  let ns := if v then u.rtcNow * 1000000000 / 32768 else 0
  let u := { u with tbase := [] }.rebase (ns * 10 ^ 12)
  u.setActive (if v then 0 else 6)

/-! ## Meanings -/

def execTimeStepWrite (hi : Nat) (s : State) : Host.Outcome State Fault Refusal := s.run true fun u => u.stepWrite hi
def execTimeEchoRealign (s : State) : Host.Outcome State Fault Refusal := s.run true fun u => u.echoRealign
def execPpsEdge (t sub : Nat) (s : State) : Host.Outcome State Fault Refusal := s.run true fun u => u.ppsEdge t sub
def execPpsHoldover (t : Nat) (s : State) : Host.Outcome State Fault Refusal := s.run true fun u => u.ppsHoldover t
def execGptpSyncRx (port t : Nat) (offset : Int) (s : State) : Host.Outcome State Fault Refusal :=
  s.run (decide (port < 13)) fun u => u.gptpSyncRx port t offset
def execGptpPdelay (port delay : Nat) (s : State) : Host.Outcome State Fault Refusal :=
  s.run (decide (port < 13)) fun u => u.gptpPdelay port delay
def execGptpAnnounce (port : Nat) (a : Announce) (s : State) : Host.Outcome State Fault Refusal :=
  s.run (decide (port < 13)) fun u => u.gptpAnnounce port a
def execTimNowLoRead (who : Nat) (s : State) : Host.Outcome State Fault Refusal :=
  s.run (decide (who < 65)) fun u => let r := u.readNowLo who; { r.2 with rdata := r.1 }
def execRtcSecondWrite (t : Nat) (s : State) : Host.Outcome State Fault Refusal := s.run true fun u => u.rtcWrite t
def execGptpMessageTx (port : Nat) (kind : GptpKind) (s : State) : Host.Outcome State Fault Refusal :=
  s.run (decide (port < 13)) fun u => u.gptpTx port kind

end Sys2Proof.Machine
end

