-- ==== Sys2Proof/Machine/Power.lean ====
section
/-! DEFINITION. Supply and holdup, the power states, and the resets that follow them (09_reservoir.md R231 to R237,
20_power.md R477 to R499, 21_reset.md R500 to R502). -/
namespace Sys2Proof.Machine

def pwrEvent (u : Units) (kind pay : Nat) : Units := u.emit 0xB000 kind pay

/-- The module is awake: supplied, and in no power state. -/
def Units.awake (u : Units) : Bool := u.pwr.down == 0

/-! ## Stopping and restarting acquisition (R483, R490, R493) -/

/-- A stream stops acquiring, its EN unchanged: it closes its packet. -/
def Units.strmPause (u : Units) (i : Nat) : Units :=
  if u.is (strmEn i) then
    let u := u.strmClose i
    u.setStrm i { u.strm i with holds := [], win := none, burstLeft := 0, fly := 0 }
  else u

/-- Streams close their packets, camera frames in progress are lost, and nothing more is acquired. -/
def Units.acqStop (u : Units) : Units :=
  let u := u.each (List.range 54) Units.strmPause
  let u := u.each (List.range 8) Units.camPause
  { u with pwr := { u.pwr with acqOff := true } }

def Units.enginesStop (u : Units) : Units := u.each (List.range 4) Units.angPause

/-- Acquisition restarts as configured. -/
def Units.acqRestart (u : Units) : Units :=
  ({ u with pwr := { u.pwr with acqOff := false, frontOff := false } }).each (List.range 4) Units.angUnpause

/-- R483: front-ends, outputs, ports and lasers turn off into their quiet states. -/
def Units.frontStop (u : Units) : Units :=
  let u := { u with pwr := { u.pwr with frontOff := true } }
  let u := u.each (List.range 8) Units.excOffNow
  let u := u.each (List.range 16) Units.trgStart
  let u := u.each (List.range 13) Units.linkDown
  u.laserSync

/-! ## Finishing what is admitted (R235 steps 3 to 5, 21_reset.md R501) -/

/-- Every ring is OFF, IDLE or HALTED. -/
def Units.ringsQuiet (u : Units) : Bool := (List.range 8).all fun n => u.ringState n != ringActive

/-- Pad and program what is open, and commit every group admitted. -/
def Units.commitNow (u : Units) : Units :=
  let u := u.padStripe
  ({ u with rsv := { u.rsv with durable := u.rsv.stripe } }.commitAll u.rsv.adm.length).rsvSync

/-- Sign, take in and commit until nothing waits. -/
def Units.finishCommits (u : Units) : Nat → Units
  | 0 => u.commitNow
  | k + 1 => if u.rsv.signing.isSome then u.sealSigned.finishCommits k else u.commitNow

/-- Commit every admitted group and then the closing seal. -/
def State.commitEverything (s : State) (alone : Bool) : State :=
  let fuel (u : Units) : Nat := u.rsv.queue.length + u.weir.gaps.length + 2
  let s := (s.onU fun u => u.finishCommits (fuel u)).ringBackAll
  s.onU fun u =>
    match u.logVol with
    | some v => let u := (u.endSpan v alone false).2; u.finishCommits (fuel u)
    | none => u

/-- Bytes the volumes hold in committed groups. -/
def Units.committedBytes (u : Units) : Nat := (u.rsv.vols.map fun v => (v.groups.map fun g => g.bytes.length).sum).sum

/-! ## Basins and entries (R488 to R493) -/

def bsnSource (n : Nat) : Nat := 0x8010 + n
def Units.bsnRunning (u : Units) (n : Nat) : Bool := u.rd (Reg.BSN_PWR_STATUS.STATE n) < 2

/-- A basin that stopped, or was about to, is supplied again; RESUME with its cause. -/
def Units.bsnRestart (u : Units) (cause n : Nat) : Units :=
  if u.bsnRunning n then u
  else
    let was := u.basinDark n
    let u := u.wr (Reg.BSN_PWR_STATUS.STATE n) 0
    if was then u.emit (bsnSource n) 0x02 cause else u

/-- The first present basin from n on; 8 when there is none. -/
def Units.basinFrom (u : Units) (n : Nat) : Nat := ((List.range 8).find? fun m => decide (n ≤ m) && u.basinPresent m).getD 8

/-- Step 3 reaches a basin. -/
def Units.reachBasin (u : Units) (n : Nat) : Units :=
  let m := u.basinFrom n
  let u := { u with pwr := { u.pwr with next := m } }
  if m < 8 then u.wr (Reg.BSN_PWR_STATUS.STATE m) 2 else u

/-- R490 step 1: an entry to a power state begins. -/
def State.beginEntry (s : State) (target mbox : Nat) : State :=
  let s := s.sinksClose
  s.onU fun u =>
    let u := u.acqStop.enginesStop
    let u := { u with pwr := { u.pwr with target := target, stage := 1, mbox := mbox, latched := none } }
    (u.wr Reg.PWR_STATUS.STATE 2).each u.basins fun u n => u.emit (bsnSource n) 0x01 target

/-- What keeps step 2 waiting (R490, R493): the refusing CODE and INDEX. -/
def Units.drainBlock (u : Units) : Option (Nat × Nat) :=
  let st := u.rd Reg.RSV_STATUS.STATE
  match (List.range 7).find? fun n => u.ringState n != ringOff && u.ringState n != ringIdle with
  | some n => some (4, n)
  | none =>
    if u.held ≠ 0 then some (4, 7)
    else if (st ≠ rsvReady ∧ st ≠ rsvNoVolume) ∨ u.is Reg.RSV_STATUS.REBUILD ∨ u.rsv.fill ≠ 0 ∨ u.rsv.durable < u.rsv.stripe then some (5, 0)
    else none

/-- What keeps a basin from stopping (R491, R493). A jet or packer that is busy serves a core that does not wait. -/
def Units.basinBlock (u : Units) (n : Nat) : Option (Nat × Nat) :=
  match (List.range 8).find? fun c => !u.coreRetain (8 * n + c) with
  | some c => some (1, c)
  | none =>
    match (List.range 8).find? fun c => u.slLive (8 * n + c) with
    | some c => some (2, c)
    | none => if u.wcsState n = wcsOpening then some (3, 0) else if u.is (Reg.BSN_JET_STATUS.BUSY n) ∨ u.is (Reg.BSN_PK_STATUS.BUSY n) then some (1, 0) else none

/-- R493: the entry in progress is refused. -/
def Units.refuseEntry (u : Units) (code basin index : Nat) : Units :=
  let target := u.pwr.target
  let u := (((u.wr Reg.PWR_REFUSER.CODE code).wr Reg.PWR_REFUSER.BASIN basin).wr Reg.PWR_REFUSER.INDEX index).wr Reg.PWR_REFUSER.TARGET target
  let u := u.each (List.range 8).reverse (Units.bsnRestart · 1)
  let u := { u with pwr := { u.pwr with target := 0, stage := 0, next := 0 } }
  let u := (u.wr Reg.PWR_STATUS.STATE 0).acqRestart.count Reg.PWR_REFUSED.COUNT Reg.PWR_REFUSED.OVF
  pwrEvent u 0x06 (code + basin * 2 ^ 4 + index * 2 ^ 8 + target * 2 ^ 16)

/-- R490 step 2 ends: basins begin to stop. -/
def Units.entryDrained (u : Units) : Units :=
  if u.pwr.stage = 1 ∧ u.drainBlock.isNone then { u with pwr := { u.pwr with stage := 2 } }.reachBasin 0 else u

/-- PREP ms have passed in step 2. -/
def Units.prepTimeout (u : Units) : Units :=
  match u.pwr.stage, u.drainBlock with
  | 1, some (code, index) => u.refuseEntry code 0 index
  | _, _ => u

/-- R491: the basin that step 3 has reached stops. -/
def Units.basinStop (u : Units) : Units :=
  let n := u.pwr.next
  if u.pwr.stage = 2 ∧ n < 8 ∧ (u.basinBlock n).isNone then (u.wr (Reg.BSN_PWR_STATUS.STATE n) 3).reachBasin (n + 1) else u

/-- BASIN_TO ms have passed since step 3 reached the basin. -/
def Units.basinTimeout (u : Units) : Units :=
  let n := u.pwr.next
  if u.pwr.stage = 2 ∧ n < 8 then
    match u.basinBlock n with
    | some (code, index) => u.refuseEntry code n index
    | none => u
  else u

/-! ## Waking (R493, R496, 21_reset.md R511) -/

/-- The RTC stops and RTC_VALID clears (03_time_and_stamps.md R539). -/
def Units.rtcStop (u : Units) : Units := u.wr Reg.TIM_STATUS.RTC_VALID 0

/-- The source of a wake is enabled: ignition, dock and the RTC always; a port or a CAN channel by its WAKEEN. -/
def Units.wakeOn (u : Units) (src idx : Nat) : Bool :=
  match src with
  | 1 | 2 | 3 => true
  | 4 => decide (8 ≤ idx ∧ idx < 12) && u.is (Reg.NET_PCFG.WAKEEN idx)
  | 5 => idx == 12 && u.is (Reg.NET_PCFG.WAKEEN 12)
  | 6 => decide (idx < 12) && u.is (Reg.CAN_CFG.WAKEEN idx)
  | _ => false

def Can.afterSleep (c : CanChan) : CanChan := { c with started := false }

/-- Return from Sleep: domains and basins run again, and the state of R511 is stale as it says. -/
def Units.sleepWake (u : Units) : Units :=
  let u := u.each ((List.range 25).zip u.pwr.doms) fun u d => u.wr (Reg.XNG_DOMd.STATE (d.1 + 1)) d.2
  let slept := u.clock - u.pwr.sleptAt
  let u := { u with pwr := { u.pwr with down := 0, doms := [] }, gate := { u.gate with coresOff := false, stwOff := false },
                    stw := { u.stw with running := true, heard := u.stw.heard + slept },
                    switch := { u.switch with macs := [] }, tim := { u.tim with announces := [] } }
  let u := u.each (List.range 48) fun u n => u.wr (Reg.DIN_MEAS.VALUE n) 0xFFFFFFFF
  let u := u.each (List.range 12) fun u n =>
    if u.is (Reg.CAN_CFG.EN n) then
      (((u.setCan n (Can.afterSleep (u.canOf n))).wr (Reg.CAN_STATUS.STATE n) 0).wr (Reg.CAN_STATUS.TEC n) 0).wr (Reg.CAN_STATUS.REC n) 0
    else u
  let u := u.each (List.range 8) (Units.bsnRestart · 0)
  (u.wr Reg.PWR_STATUS.STATE 0).acqRestart.laserSync

/-- A wake ends the power state: WOKE, and WAKE of the CAN channel whose pattern it was (16_networks.md R416). -/
def State.doWake (s : State) (src idx : Nat) (replay : Bool) : State :=
  let from_ := s.u.pwr.down
  let s := if from_ = 2 then s.onU Units.sleepWake else if from_ = 3 then s.moduleReset 2 2 0 else s.powerOn 1
  s.onU fun u =>
    let u := (((u.wr Reg.PWR_LASTWAKE.SRC src).wr Reg.PWR_LASTWAKE.INDEX idx).wrb Reg.PWR_LASTWAKE.REPLAY replay).wr Reg.PWR_LASTWAKE.FROM from_
    let u := u.count Reg.PWR_WAKES.COUNT Reg.PWR_WAKES.OVF
    let u := if replay then u.count Reg.PWR_REPLAYS.COUNT Reg.PWR_REPLAYS.OVF else u
    let u := pwrEvent u 0x07 (src + idx * 2 ^ 8 + b2n replay * 2 ^ 12 + from_ * 2 ^ 16)
    if src = 6 then u.emit (canSource idx) 0x08 0 else u

/-- A wake source makes its transition: latched during an entry (the first only), acted on in a state it can wake. -/
def State.wakeEvent (s : State) (src idx : Nat) : State :=
  if ¬ s.u.wakeOn src idx then s
  else if s.u.pwr.target ≠ 0 then
    s.onU fun u => if u.pwr.latched.isNone then { u with pwr := { u.pwr with latched := some (src, idx) } } else u
  else if s.u.pwr.down = 2 ∨ s.u.pwr.down = 3 ∨ (s.u.pwr.down = 4 ∧ src ≤ 2) then s.doWake src idx false
  else s

/-- The state of a clock domain in target state t (R486): CD01, CD02 and CD04 run in Sleep; in Deep sleep CD01 runs and CD02
is stopped; CD25 has the test port's own clock. -/
def sleepState (t d now : Nat) : Nat :=
  if d = 25 then now
  else match t with
    | 2 => if d = 1 ∨ d = 2 ∨ d = 4 then domRun else domOff
    | 3 => if d = 1 then domRun else if d = 2 then domStopped else domOff
    | _ => domOff

/-- The fields the entry into target state t leaves behind. -/
def Power.enter (p : Power) (t tick : Nat) (doms : List Nat) : Power :=
  { p with down := t, target := 0, stage := 0, next := 0, latched := none, sleptAt := tick, doms := doms,
           lastOff := if t = 4 then 1 else 0 }

/-- Cores, engines and the steward stop (R490 step 4). -/
def Units.allOff (u : Units) : Units :=
  { u with gate := { u.gate with coresOff := true, stwOff := true }, stw := { u.stw with running := false } }

/-- The clock domains take the states of target state t (R486). -/
def Units.domsSleep (u : Units) (t : Nat) : Units :=
  u.each (List.range 25) fun u d => u.wr (Reg.XNG_DOMd.STATE (d + 1)) (sleepState t (d + 1) (u.rd (Reg.XNG_DOMd.STATE (d + 1))))

/-- The module takes target state t: its sessions end unless it is Sleep, its domains turn off, its bases run on as
holdover in Sleep, and its clock stops in Off. -/
def Units.enterDown (u : Units) (t : Nat) : Units :=
  let u1 : Units := if t = 2 then u else u.sessionEnd 4
  let doms := (List.range 25).map fun d => u1.rd (Reg.XNG_DOMd.STATE (d + 1))
  let u2 : Units := u1.frontStop.allOff
  let u3 : Units := { u2 with pwr := u2.pwr.enter t u2.clock doms }
  let u4 : Units := u3.domsSleep t
  let u5 : Units := if t = 2 ∧ 1 ≤ u4.active ∧ u4.active ≤ 4 then u4.holdover else u4
  if t = 4 then u5.rtcStop else u5

/-- R490 step 4: the module takes its target state; a wake latched meanwhile is acted on at once. -/
def State.entryComplete (s : State) : State :=
  if s.u.pwr.stage ≠ 2 ∨ s.u.pwr.next < 8 then s
  else
    let latched := s.u.pwr.latched
    let t := s.u.pwr.target
    let s := s.onU fun u => u.enterDown t
    match latched with
    | some (src, idx) => s.doWake src idx true
    | none => s

/-- R495: the always-on load browns the module out of Deep sleep into Off. -/
def Units.brownout (u : Units) : Units :=
  if u.pwr.down = 3 then { u with pwr := { u.pwr with down := 4, lastOff := 2 } }.rtcStop else u

/-! ## Supply loss and the holdup flush (R234, R235, R483, R484) -/

/-- Supply loss is declared. -/
def State.supplyLoss (s : State) : State :=
  if s.u.pwr.flush ≠ 0 then s
  else if s.u.pwr.down = 2 ∨ s.u.pwr.down = 3 then
    s.onU fun u => { u with pwr := { u.pwr with down := 5, lastOff := 3 } }.rtcStop
  else if s.u.pwr.down ≠ 0 then s.onU fun u => { u with pwr := { u.pwr with down := 5 } }
  else
    let s := if s.u.pwr.target ≠ 0 then s.onU fun u => u.refuseEntry 6 0 0 else s
    let s := s.sinksFlush
    s.onU fun u =>
      let drain := u.pwr.drain.isSome
      let short := u.is Reg.WEIR_STATUS.SHORT
      let u := if u.rsvNotReady then u else u.wr Reg.RSV_STATUS.STATE rsvFlushing
      let u := (u.wr Reg.WEIR_STATUS.FROZEN 1).rsvEvent 0x09 (u.rd Reg.WEIR_DEPTH.DEPTH)
      let u := u.acqStop.frontStop.padStripe
      let u := ((u.wr Reg.RSV_LFL_FLAGS.VALID 1).wr Reg.RSV_LFL_FLAGS.DONE 0).wrb Reg.RSV_LFL_FLAGS.SHORT short
      { u with pwr := { u.pwr with flush := if drain then 2 else 1, drain := none, flushTick := u.clock, flushBytes := u.committedBytes, lastOff := 0 },
               rsv := { u.rsv with flushAt := u.now } }.wr Reg.PWR_STATUS.STATE 3

/-- The end of the grace window (R235 step 3): grants and doorbells cease, cores and engines stop, the twin link drops; the
partner entries received are written (19_twin_mode.md R470). -/
def Units.graceEnd (u : Units) : Units :=
  if u.pwr.flush = 1 then
    let u := { u with weir := { u.weir with closed := true }, gate := { u.gate with coresOff := true }, pwr := { u.pwr with flush := 2 } }
    (u.enginesStop.indexAdmit.twinLaneDown 0).twinLaneDown 1
  else u

/-- The report of R237, at tick t. -/
def Units.flushDone (u : Units) (t : Nat) : Units :=
  let lost := (regions.map fun r => if u.rgnOn r then u.rgnFill r - u.rgnPost r else 0).sum
  let ej := (energyA (u.rd Reg.WEIR_VRES.MV) u.cM * 100).floor.toNat
  let u := (u.wr Reg.RSV_LFL_FLAGS.DONE 1).wr Reg.RSV_LFL_MS.V ((t - u.pwr.flushTick) / 400000)
  ((u.wr Reg.RSV_LFL_MIB.V ((u.committedBytes - u.pwr.flushBytes) / 2 ^ 20)).wr Reg.RSV_LFL_LOST.V (kibUp lost)).wr Reg.RSV_LFL_EJ.V ej

/-- The flush completes at tick t: every admitted group, the closing seal and the report are durable. With the input above
6.0 V the module resets; without it the module is left unpowered (21_reset.md R500). -/
def State.flushComplete (s : State) (t : Nat) (input : Bool) : State :=
  let s := s.onU fun u => u.advance t
  if s.u.pwr.flush ≠ 2 ∨ ¬ s.u.ringsQuiet then s
  else
    let s := if s.u.rsvNotReady then s else s.commitEverything true
    let s := s.onU fun u => u.flushDone t
    if input then s.moduleReset 3 2 2
    else s.onU fun u => { u with pwr := { u.pwr with down := 5, flush := 0, lastOff := 4 }, gate := { u.gate with coresOff := true, stwOff := true },
                                 stw := { u.stw with running := false } }.rtcStop

/-! ## Commit drains and warm resets (21_reset.md R500 to R502) -/

/-- A warm reset is raised with its RST_CAUSE: a commit drain runs first, unless the reservoir has admitted nothing. -/
def State.warmReset (s : State) (cause : Nat) : State :=
  if s.u.pwr.flush ≠ 0 ∨ s.u.pwr.drain.isSome ∨ ¬ s.u.awake then s
  else if s.u.rsvNotReady then s.moduleReset cause 4 3
  else
    let s := s.sinksClose
    s.onU fun u =>
      let u := u.acqStop.enginesStop
      { u with weir := { u.weir with closed := true }, gate := { u.gate with coresOff := true }, stw := { u.stw with running := false },
               pwr := { u.pwr with drain := some cause, target := 0, stage := 0 } }

/-- The drain is complete: the reset asserts. -/
def State.drainDone (s : State) : State :=
  match s.u.pwr.drain with
  | some c => if s.u.ringsQuiet then (s.commitEverything false).moduleReset c 4 3 else s
  | none => s

def Units.kick (u : Units) (t : Nat) : Units := let u := u.advance t; { u with pwr := { u.pwr with kicked := u.clock } }

/-- The watchdog's period ends at tick t. -/
def State.watchdogExpire (s : State) (t : Nat) : State :=
  let s := s.onU fun u => u.advance t
  let period := max 100 (s.u.rd Reg.RST_WDOG.TIMEOUT) * 400000
  if s.u.pwr.kicked + period ≤ s.u.clock ∧ 4 ≤ s.u.rd Reg.RST_STATUS.STEP then s.warmReset 4 else s

/-! ## Dips (09_reservoir.md R234) -/

def Units.dipStart (u : Units) : Units :=
  if u.is Reg.WEIR_STATUS.DIP ∨ u.pwr.flush ≠ 0 ∨ ¬ u.awake then u
  else
    let u := ((u.wr Reg.WEIR_STATUS.DIP 1).wr Reg.RSV_STATUS.ERASE_DEFER 1).rsvEvent 0x05 0
    if u.pwr.target ≠ 0 then u.refuseEntry 6 0 0 else u

def Units.dipEnd (u : Units) (low : Bool) : Units :=
  if u.is Reg.WEIR_STATUS.DIP ∧ u.pwr.flush = 0 then
    (((u.wr Reg.WEIR_STATUS.DIP 0).wr Reg.RSV_STATUS.ERASE_DEFER 0).count Reg.WEIR_DIPS.COUNT Reg.WEIR_DIPS.OVF).rsvEvent 0x06 (b2n low)
  else u

/-! ## The power stage (R479, R481, R482) -/

/-- Publish every basin's ceiling: the lower of the load code and its TCODE (R479, 22_connectors_electrical.md R531). -/
def Units.ceilSync (u : Units) : Units :=
  u.each u.basins fun u n =>
    let c := min (u.rd Reg.PWR_THERM_CEIL.LCODE) (SMap.get 100 u.pwr.tcode n)
    if u.rd (Reg.BSN_VSTATUS.CEIL n) = c then u else (u.wr (Reg.BSN_VSTATUS.CEIL n) c).emit (0x8000 + n) 0x03 c

/-- LIMIT follows the two steps of R479. -/
def Units.limitSync (u : Units) (mv : Nat) : Units :=
  let on := decide (u.pwr.cut ≠ 0) || decide (u.rd Reg.PWR_THERM_CEIL.LCODE < 100)
  if u.is Reg.PWR_STATUS.LIMIT == on then u else pwrEvent (u.wrb Reg.PWR_STATUS.LIMIT on) (if on then 0x03 else 0x04) mv

/-- The load in mW against its limit: charge power is taken away first, then every ceiling falls by one code; they return in
the opposite order. -/
def Units.loadStep (u : Units) (load limit : Nat) : Units :=
  let lcode := u.rd Reg.PWR_THERM_CEIL.LCODE
  if limit < load then
    let u := { u with pwr := { u.pwr with calm := 0 } }
    if u.pwr.cut < 3000 then { u with pwr := { u.pwr with cut := min 3000 (u.pwr.cut + (load - limit)) } }
    else u.wr Reg.PWR_THERM_CEIL.LCODE (lcode - 1)
  else if load + 3000 ≤ limit then
    let c := u.pwr.calm + 1
    if c < 10 then { u with pwr := { u.pwr with calm := c } }
    else if lcode < 100 then ({ u with pwr := { u.pwr with calm := 0 } }).wr Reg.PWR_THERM_CEIL.LCODE (lcode + 1)
    else { u with pwr := { u.pwr with calm := 0, cut := 0 } }
  else { u with pwr := { u.pwr with calm := 0 } }

/-- A sample of the power stage: input in mV, load in 10 mW, reserve voltage in mV, charge power in mW. Below 3.0 V, or with
reverse current blocked for 10 us, supply loss is declared at once (R478). -/
def State.powerSample (s : State) (mv load vres mw : Nat) (reverse : Bool) : State :=
  if ¬ s.u.awake then s
  else
    let s := s.onU fun u =>
      let u := ((u.wr Reg.PWR_INPUT.MV (satN 16 mv)).wr Reg.PWR_INPUT.LOAD (satN 16 load)).wr Reg.WEIR_VRES.MV (satN 16 vres)
      let u := u.wr Reg.PWR_CHG.MW (satN 16 mw)
      let low := if mv < 9000 then true else if 9500 < mv then false else u.is Reg.PWR_STATUS.LOWIN
      let u := u.wrb Reg.PWR_STATUS.LOWIN low
      ((u.loadStep (load * 10) (if low then 60000 else 96000)).limitSync (satN 16 mv)).ceilSync
    if mv < 3000 ∨ reverse then s.supplyLoss else s

/-- A measurement of C_M in mF (R482). -/
def Units.capMeasured (u : Units) (mf : Nat) : Units :=
  let u := u.wr Reg.WEIR_VRES.MF (satN 16 mf)
  if mf < 800 then pwrEvent (u.wr Reg.PWR_STATUS.RES_LOW 1) 0x05 (satN 16 mf) else u

/-- R481: the charger's phase by V_R in mV; a charge that passes from below 8.0 V to 10.0 V measures C_M. -/
def Units.chargerPhase (u : Units) (vres : Nat) (cap : Option Nat) : Units :=
  let u := (u.wr Reg.WEIR_VRES.MV (satN 16 vres)).wr Reg.PWR_CHG.MODE (if vres < 3000 then 1 else if vres < 16000 then 2 else 3)
  match cap with | some mf => u.capMeasured mf | none => u

/-- R482: the measurement of every 600 s in float, with no dip. -/
def Units.capTest (u : Units) (mf : Nat) : Units :=
  if u.rd Reg.PWR_CHG.MODE = 3 ∧ ¬ u.is Reg.WEIR_STATUS.DIP then u.capMeasured mf else u

/-- R480: an ignition level is accepted. -/
def State.ignChange (s : State) (on : Bool) : State :=
  if s.u.is Reg.PWR_STATUS.IGN == on then s
  else
    let s := s.onU fun u => pwrEvent (u.wrb Reg.PWR_STATUS.IGN on) (if on then 0x01 else 0x02) 0
    if on then s.wakeEvent 1 0 else s

/-- R496: the RTC reaches its alarm at tick t. -/
def State.rtcAlarm (s : State) (t : Nat) : State :=
  let s := s.onU fun u => u.advance t
  let alarm := s.u.rd Reg.TIM_RTC_ALARM.SEC
  if alarm ≠ 0 ∧ s.u.rtcNow / 32768 = alarm then s.wakeEvent 3 0 else s

/-- R397, R398: a CAN frame; in a power state, or on the way into one, a wake-up pattern. -/
def State.canFrame (s : State) (n : Nat) (f : CanFrame) (t : Nat) : State :=
  let s := s.onU fun u => (u.advance t).canSeen n f t
  if s.u.pwr.target ≠ 0 ∨ ¬ s.u.awake then s.wakeEvent 6 n else s

/-! ## Registers that read what stands (R494, R497, R498) -/

/-- PWR_STATUS.STATE: Idle while every present basin is IDLE. -/
def Units.pwrState (u : Units) : Nat :=
  let st := u.rd Reg.PWR_STATUS.STATE
  if st = 0 then b2n (u.basins.all u.basinIdle) else st

/-- PWR_AO.UA: the always-on load of R494 in uA. -/
def Units.aoLoad (u : Units) : Nat :=
  1235 + (([8, 9, 10, 11].filter fun p => u.is (Reg.NET_PCFG.WAKEEN p)).length) * 60 + (if u.is (Reg.NET_PCFG.WAKEEN 12) then 400 else 0) +
    (((List.range 12).filter fun n => u.is (Reg.CAN_CFG.WAKEEN n)).length) * 25

/-! ## Meanings -/

def execDipStart (s : State) : Host.Outcome State Fault Refusal := s.run true Units.dipStart
def execDipEnd (low : Bool) (s : State) : Host.Outcome State Fault Refusal := s.run true fun u => u.dipEnd low
def execSupplyLossDeclare (s : State) : Host.Outcome State Fault Refusal := s.runS true State.supplyLoss
def execFlushGraceEnd (s : State) : Host.Outcome State Fault Refusal := s.run true Units.graceEnd
def execFlushComplete (t : Nat) (input : Bool) (s : State) : Host.Outcome State Fault Refusal := s.runS true fun s => s.flushComplete t input
def execPowerSample (mv load vres mw : Nat) (reverse : Bool) (s : State) : Host.Outcome State Fault Refusal :=
  s.runS true fun s => s.powerSample mv load vres mw reverse
def execIgnChange (on : Bool) (s : State) : Host.Outcome State Fault Refusal := s.runS true fun s => s.ignChange on
def execChargerPhaseChange (vres : Nat) (cap : Option Nat) (s : State) : Host.Outcome State Fault Refusal :=
  s.run true fun u => if u.awake then u.chargerPhase vres cap else u
def execCapTest (mf : Nat) (s : State) : Host.Outcome State Fault Refusal := s.run true fun u => u.capTest mf
def execPowerEntryDrained (s : State) : Host.Outcome State Fault Refusal := s.run true Units.entryDrained
def execPowerPrepTimeout (s : State) : Host.Outcome State Fault Refusal := s.run true Units.prepTimeout
def execBasinStop (s : State) : Host.Outcome State Fault Refusal := s.run true Units.basinStop
def execBasinStopTimeout (s : State) : Host.Outcome State Fault Refusal := s.run true Units.basinTimeout
def execPowerEntryComplete (s : State) : Host.Outcome State Fault Refusal := s.runS true State.entryComplete
def execWake (src idx : Nat) (s : State) : Host.Outcome State Fault Refusal :=
  s.runS (decide (1 ≤ src ∧ src ≤ 6 ∧ idx < 16)) fun s => s.wakeEvent src idx
def execBrownout (s : State) : Host.Outcome State Fault Refusal := s.run true Units.brownout
def execRtcAlarm (t : Nat) (s : State) : Host.Outcome State Fault Refusal := s.runS true fun s => s.rtcAlarm t
def execTc10Wake (p : Nat) (wur : Bool) (s : State) : Host.Outcome State Fault Refusal :=
  s.runS (decide (8 ≤ p ∧ p < 12)) fun s => (s.onU fun u => u.tc10Wake p wur).wakeEvent 4 p
def execDockPresent (s : State) : Host.Outcome State Fault Refusal := s.runS true fun s => (s.onU Units.dockPresent).wakeEvent 2 0
def execCanFrameSeen (n : Nat) (f : CanFrame) (t : Nat) (s : State) : Host.Outcome State Fault Refusal :=
  s.runS (decide (n < 12)) fun s => s.canFrame n f t
def execPowerOn (s : State) : Host.Outcome State Fault Refusal :=
  s.runS true fun s => if s.u.pwr.down = 5 ∨ s.u.pwr.flush ≠ 0 then s.powerOn 0 else s
def execCommitDrainDone (s : State) : Host.Outcome State Fault Refusal := s.runS true State.drainDone
def execWatchdogKick (t : Nat) (s : State) : Host.Outcome State Fault Refusal := s.run true fun u => u.kick t
def execWatchdogExpire (t : Nat) (s : State) : Host.Outcome State Fault Refusal := s.runS true fun s => s.watchdogExpire t

end Sys2Proof.Machine
end

