-- ==== Sys2Proof/Machine/Bus.lean ====
section
/-! DEFINITION. IO-space (01_architecture.md R20 to R22): the map, the responses of its blocks, and what a read or a write
of each register does (00_scope.md R9 to R12 and the register tables of every chapter). A requester is a core 0 to 63, the
steward core 64, or 65 for a reader that leaves no latch. -/
namespace Sys2Proof.Machine

/-! ## The map (R20 to R22) -/

/-- The canonical address of an IO address for a requester: the own-basin ranges stand at the basin's own range, core-local
registers above the 32-bit space. None outside every range of R20. -/
def ioCanon (who a : Nat) : Option Nat :=
  if a < 0x1000 then some (coreReg who a)
  else if 0x10000 ≤ a ∧ a < 0x12000 then (if who < 64 then some (0x20000 + 0x2000 * (who / 8) + (a - 0x10000)) else none)
  else if 0x20000 ≤ a ∧ a < 0x30000 then some a
  else if 0x100000 ≤ a ∧ a < 0x104000 then some a
  else if 0x110000 ≤ a ∧ a < 0x12C000 then some a
  else if 0x130000 ≤ a ∧ a < 0x1A1000 then some a
  else if 0xF00000 ≤ a ∧ a < 0x1000000 then some a
  else none

/-- The fabric port a canonical address is reached through (R20); inside the fabric it is the requester's own. -/
def ioPort (who c : Nat) : Nat :=
  let own := if who < 64 then who / 8 else 27
  if c < 0x30000 then (c - 0x20000) / 0x2000
  else if c < 0x140000 then 22
  else if c < 0x150000 then 20
  else if c < 0x160000 then 23
  else if c < 0x170000 then 22
  else if c < 0x180000 then 24
  else if c < 0x188000 then 25
  else if c < 0x190000 then 26
  else if c < 0x1A1000 then own
  else if c < 0x1000000 then 27 else own

/-- The clock domain of a register block (R16, the table of blocks; 15_fabric_and_crossings.md R371); 0: clockless. -/
def ioDomain (c : Nat) : Nat :=
  if c < 0x100000 then 0
  else if c < 0x110000 then 3
  else if c < 0x120000 then 4
  else if c < 0x124000 then 5
  else if c < 0x126000 then 6
  else if c < 0x128000 then 7
  else if c < 0x12A000 then 0
  else if c < 0x130000 then 24
  else if c < 0x140000 then 0
  else if c < 0x150000 then 12
  else if c < 0x160000 then 14
  else if c < 0x170000 then 20
  else if c < 0x180000 then 21
  else if c < 0x188000 then 22
  else if c < 0x190000 then 23 else 0

/-- The block of a canonical address belongs to a unit the part has (00_scope.md R5). -/
def Units.ioThere (u : Units) (c : Nat) : Bool :=
  if c < 0x30000 then u.basinPresent ((c - 0x20000) / 0x2000)
  else if 0x151000 ≤ c ∧ c < 0x151380 then u.portPresent ((c - 0x151000) / 0x40)
  else if 0x170000 ≤ c ∧ c < 0x180000 then
    if 0x171000 ≤ c ∧ c < 0x171400 then u.camPresent ((c - 0x171000) / 0x80) else (List.range 8).any u.camPresent
  else if 0x180000 ≤ c ∧ c < 0x188000 then (List.range 8).any u.lanePresent
  else true

/-- The block of a canonical address is being reset (21_reset.md R509). -/
def Units.ioResetting (u : Units) (c : Nat) : Bool :=
  u.is Reg.RST_BLOCK.BUSY && blockRegs (u.rd Reg.RST_BLOCK.CLASS) (u.rd Reg.RST_BLOCK.INDEX) c

/-- What an access to a canonical address meets (15_fabric_and_crossings.md R377 to R379): a basin without supply answers as
an OFF domain. -/
def Units.ioReach (u : Units) (c : Nat) : Reach :=
  if 0x20000 ≤ c ∧ c < 0x30000 then (if u.basinDark ((c - 0x20000) / 0x2000) then .off else .runs) else u.reach (ioDomain c)

/-- The response an IO access gets before its block performs it, and its canonical address. -/
def Units.ioCode (u : Units) (who a : Nat) : Nat × Nat :=
  match ioCanon who a with
  | none => (respNoUnit, a)
  | some c =>
    if !u.ioThere c then (respNoUnit, c)
    else if u.ioReach c = .off then (respDormant, c)
    else if u.ioResetting c then (respError, c)
    else (respOk, c)

/-- Count and log an error response to an IO access (R368, R379, R381). -/
def Units.ioFail (u : Units) (code : Nat) (write : Bool) (who a c : Nat) : Units :=
  let src := if who < 64 then who / 8 else 27
  if code = respNoUnit then u.noUnit write src a
  else
    let u := if code = respDormant then u.refuseDom (ioDomain c) else u
    u.fabLog code write src (ioPort who c) a

/-- The domain an IO access must first wake. -/
def Units.ioWaits (u : Units) (who a : Nat) : Option Nat :=
  match ioCanon who a with
  | some c => if u.ioThere c ∧ u.ioReach c = .waits then some (ioDomain c) else none
  | none => none

/-! ## Writes, block by block -/

/-- A write of a register that holds an enable: every other field first, unless the register is locked while enabled, and
then what the change of the enable does. -/
def Units.enWrite (u : Units) (stw locked : Bool) (fs : List Fld) (en : Fld) (v : Nat) (on off : Units → Units) : Units :=
  let u := if locked then u else u.writeFields stw (fs.filter fun f => f.key != en.key) v
  if bit v en.lo ∧ ¬ u.is en then on u else if ¬ bit v en.lo ∧ u.is en then off u else u

/-- A write of the fields of a register that stay writable while it is locked: everything but RW fields. -/
def Units.lockedWrite (u : Units) (stw locked : Bool) (a v : Nat) : Units :=
  if locked then u.writeFields stw ((fieldsAt a).filter fun f => f.acc != .rw) v else u.regWrite stw a v

/-- Angle engine n (02_angle_bases.md R71, R76, R78): MODE 4 is accepted from the steward only. -/
def Units.angWrite (u : Units) (stw : Bool) (n off v : Nat) : Units :=
  let a := 0x100000 + 0x1000 * n + off
  let locked := u.is (Reg.ANG_CTRL.EN n)
  if off = 0 then
    let fs := (fieldsAt a).filter fun f => stw || f.key != (Reg.ANG_CTRL.MODE n).key || bits v 3 1 != 4
    let u := u.enWrite stw locked fs (Reg.ANG_CTRL.EN n) v (·.angEnable n) (·.angDisable n)
    if bit v 7 then u.angResync n else u
  else if off = 0x70 then (if bit v 0 then u.schedCommit n else u)
  else if off = 0x78 then u.schedWrite n false v
  else if off = 0x7C then u.schedWrite n true v
  else if off = 0x80 then u.doneWrite n 0 v
  else if off = 0x84 then u.doneWrite n 1 v
  else u.lockedWrite stw (locked && (decide (off ≤ 0x64) || decide (0x100 ≤ off))) a v

/-- TIM_CTRL.SRC is written: free run takes control at once; under another source the one in control before no longer is,
and the time base holds over until the new source's first measurement. DESIGN CHOICE (log entry 6). -/
def Units.srcChanged (u : Units) (old : Nat) : Units :=
  let src := u.rd Reg.TIM_CTRL.SRC
  if src = old ∨ u.active = 6 ∨ u.active = 0 then u
  else if src = 0 then
    let lock := u.is Reg.TIM_STATUS.LOCK
    let u := ({ u with tim := { u.tim with good := 0 } }.setActive 0).wr Reg.TIM_STATUS.LOCK 0
    if lock then (u.timEvent 0x03 0).twinDetach 3 else u
  else if 1 ≤ u.active ∧ u.active ≤ 4 then u.holdover else u

/-- TIM_RATE is written: it takes effect only in free run and holdover (R91). -/
def Units.rateWrite (u : Units) (v : Nat) : Units :=
  if u.active = 0 ∨ u.active = 5 ∨ u.active = 6 then
    if u.tbase = [] then u.wr Reg.TIM_RATE.RATE v else (u.rebaseKeep.wr Reg.TIM_RATE.RATE v).rebaseKeep
  else u

/-- The time base (03_time_and_stamps.md R91): only the steward writes its configuration. -/
def Units.timWrite (u : Units) (stw : Bool) (off v : Nat) : Units :=
  let a := 0x110000 + off
  if stw then
    match off with
    | 0x00 => let old := u.rd Reg.TIM_CTRL.SRC; (u.regWrite stw a v).srcChanged old
    | 0x10 => u.rateWrite v
    | 0x14 => { u with tim := { u.tim with stepLo := v % 2 ^ 32 } }
    | 0x18 => u.stepWrite v
    | 0x30 => (u.regWrite stw a v).gptpChoose
    | 0x24 => ({ u with tim := { u.tim with nextSec := some (v % 2 ^ 32) } }.wr Reg.TIM_SEC.SEC v).wr Reg.TIM_STATUS.SEC_VALID 1
    | _ => u.regWrite stw a v
  else u.regWrite stw a v

/-- General analog inputs (04_acquisition.md R95, R107): an input's register is locked while its group's stream is on. -/
def Units.ainWrite (u : Units) (stw : Bool) (off v : Nat) : Units :=
  let a := 0x120000 + off
  if off < 0x180 then
    let n := off / 4
    u.lockedWrite stw (u.is (Reg.AIN_CH.EN n) && u.is (strmEn (u.rd (Reg.AIN_CH.GROUP n)))) a v
  else if 0x800 ≤ off ∧ off < 0xC00 then
    let g := (off - 0x800) / 0x20
    match (off - 0x800) % 0x20 with
    | 0x00 => u.enWrite stw (u.is (strmEn g)) (fieldsAt a) (strmEn g) v (·.streamEnable g) (·.streamDisable g)
    | 0x10 => if bit v 0 then u.ainGo g u.clock else u
    | _ => u.lockedWrite stw (u.is (strmEn g)) a v
  else u.regWrite stw a v

/-- Fast analog inputs (R95, R111, R113). -/
def Units.finWrite (u : Units) (stw : Bool) (n off v : Nat) : Units :=
  let a := 0x124000 + 0x40 * n + off
  let i := 32 + n
  match off with
  | 0x00 => u.enWrite stw (u.is (strmEn i)) (fieldsAt a) (strmEn i) v (·.streamEnable i) (·.streamDisable i)
  | 0x20 =>
    let u := if bit v 0 then u.finGo n u.clock else u
    if bit v 1 then u.finCreset n else u
  | 0x24 | 0x38 => u.regWrite stw a v
  | _ => u.lockedWrite stw (u.is (strmEn i)) a v

/-- The conditioner fields of DIN_CFG (R116). -/
def dinCond (n : Nat) : List Fld := [Reg.DIN_CFG.COND n, Reg.DIN_CFG.THRESH n, Reg.DIN_CFG.ARM n, Reg.DIN_CFG.FILT n, Reg.DIN_CFG.PULL n]

/-- Digital inputs (R95, R116, R119). -/
def Units.dinWrite (u : Units) (stw : Bool) (off v : Nat) : Units :=
  let a := 0x126000 + off
  if off < 0x300 ∧ off % 0x10 = 0 then
    let n := off / 0x10
    let locked := u.is (Reg.DIN_CFG.EN n) || u.engineUses n
    u.writeFields stw ((fieldsAt a).filter fun f => !(locked && (dinCond n).contains f)) v
  else if 0x500 ≤ off ∧ off < 0x5C0 then
    let g := (off - 0x500) / 0x20
    let i := 48 + g
    match (off - 0x500) % 0x20 with
    | 0x00 => u.enWrite stw (u.is (strmEn i)) (fieldsAt a) (strmEn i) v (·.streamEnable i) (·.streamDisable i)
    | 0x10 => if bit v 0 then u.dinSnapGo g u.clock else u
    | _ => u.lockedWrite stw (u.is (strmEn i)) a v
  else u.regWrite stw a v

/-- An output's fault register: RETRY_MAX is locked while the output is on, and DIAG cannot be written (05_harness_guard.md
R140). -/
def Units.faultWrite (u : Units) (stw on : Bool) (a v : Nat) : Units :=
  u.writeFields stw ((fieldsAt a).filter fun f => f.lo != 5 && !(on && f.lo == 16)) v

/-- Excitation outputs (R120, R121). -/
def Units.excWrite (u : Units) (stw : Bool) (off v : Nat) : Units :=
  let a := 0x128000 + off
  let n := off / 0x10
  if 0x80 ≤ off then u.regWrite stw a v
  else if off % 0x10 = 0 then u.enWrite stw (u.is (Reg.EXC_CFG.EN n)) (fieldsAt a) (Reg.EXC_CFG.EN n) v (·.excEnable n) (·.excDisable n)
  else if off % 0x10 = 0xC then u.faultWrite stw (u.is (Reg.EXC_CFG.EN n)) a v
  else u.regWrite stw a v

/-- Trigger outputs (R123, R124): DRIVE and POL are locked while the output is on; a TRG_SET with more than one bit set is
ignored. -/
def Units.trgWrite (u : Units) (stw : Bool) (off v : Nat) : Units :=
  let a := 0x12A000 + off
  let n := off / 0x10
  if 0x100 ≤ off then u.regWrite stw a v
  else
    match off % 0x10 with
    | 0x0 =>
      let on := u.is (Reg.TRG_CFG.EN n)
      let fs := (fieldsAt a).filter fun f => !(on && (f.lo == 1 || f.lo == 2))
      u.enWrite stw false fs (Reg.TRG_CFG.EN n) v (·.trgEnable n) (·.trgDisable n)
    | 0x4 =>
      if v % 8 = 1 then u.trgPush 4 n 0
      else if v % 8 = 2 then u.trgPush 4 n 1
      else if v % 8 = 4 then u.trgPush 4 n 2 else u
    | 0xC => u.faultWrite stw (u.is (Reg.TRG_CFG.EN n)) a v
    | _ => u.regWrite stw a v

/-- Runnels (06_runnels.md R144 to R154). -/
def Units.runWrite (u : Units) (stw : Bool) (who r off v : Nat) : Units :=
  match off with
  | 0x00 => (u.regWrite stw (0x130000 + 0x400 * r) v).runCfgWrite r
  | 0x0C => if bit v 0 then u.runFlush r else u
  | 0x18 =>
    let u := if bit v 0 then u.runClaim r who else u
    if bit v 1 then u.runRelease r who else u
  | 0x1C => if bit v 0 then u.runOpen r who else u
  | 0x20 => u.runPush r who v false
  | 0x24 => if bit v 0 then u.runClose r who [] [] else u
  | _ => u.regWrite stw (0x130000 + 0x400 * r + off) v

/-- Sluice channel c (08_sluices.md R192, R193). -/
def Units.slcWrite (u : Units) (stw : Bool) (c off v : Nat) : Units :=
  let a := 0x21000 + 0x2000 * (c / 8) + 0x80 * (c % 8) + off
  let cmd := v % 32
  let busy := u.slLive c || u.slState c == slPaused
  if off = 0x18 then
    if cmd = 1 then u.slGo c
    else if cmd = 2 then u.slPause c
    else if cmd = 4 then u.slResume c
    else if cmd = 8 then u.slAbort c
    else if cmd = 16 then u.slClrreq c
    else if cmd = 0 then u else u.slCmdErr c
  else if off < 0x18 then u.lockedWrite stw busy a v
  else u.regWrite stw a v

/-- Basin n's controller and control store (11_pipeline_and_timing.md R302, R304; 12_microcode.md R322). -/
def Units.bsnWrite (u : Units) (stw : Bool) (n off v : Nat) : Units :=
  match off with
  | 0x00 => u.vctrlWrite n v
  | 0x04 => u.vlimWrite n v
  | 0x1C => if bit v 31 then u.wr (Reg.BSN_TOKMAX.MAX n) 0 else u
  | 0xC00 => if stw then u.wcsCtrl n v else u
  | _ => u.regWrite stw (0x20000 + 0x2000 * n + off) v

/-- Ring n's registers (09_reservoir.md R222, R223, R238): the head is locked while ACTIVE. -/
def Units.ringWrite (u : Units) (stw : Bool) (n off v : Nat) : Units :=
  let a := 0x140100 + 0x20 * n + off
  let active := u.ringState n == ringActive
  match off with
  | 0x00 => u.enWrite stw false (fieldsAt a) (Reg.RSV_RING_CFG.EN n) v (·.ringEnable n true) (·.ringEnable n false)
  | 0x04 => if active then u else u.wr (Reg.RSV_RING_HEAD_LO.ADDR n) (v / 64 * 64)
  | 0x08 => if active then u else u.wr (Reg.RSV_RING_HEAD_HI.ADDR n) v
  | 0x0C => u.doorbell n
  | 0x10 =>
    let u := if bit v 0 then u.ringResume n else u
    if bit v 1 then u.ringAbort n else u
  | _ => u.regWrite stw a v

/-- The weir (R212 to R217, R233). -/
def Units.weirWrite (u : Units) (stw : Bool) (who off v : Nat) : Units :=
  let a := 0x148000 + off
  if off = 0 then (if stw then (u.wr Reg.WEIR_CFG.DIP_PCT (v / 2 ^ 8)).graceWrite v else u)
  else if 0x100 ≤ off ∧ off < 0x300 then
    let r := (off - 0x100) / 0x20
    match (off - 0x100) % 0x20 with
    | 0x00 => u.lockedWrite stw (u.rgnOn r) a v
    | 0x04 =>
      let u := u.enWrite stw false (fieldsAt a) (Reg.WEIR_RGN_CTRL.EN r) v (·.rgnEnable r) (·.rgnDisable r)
      if bit v 1 then u.rgnRewind r else u
    | 0x14 => u.reserve who r v
    | _ => u.regWrite stw a v
  else u.regWrite stw a v

/-- A sink's registers (16_networks.md R391, R393, R411). -/
def State.sinkRegWrite (s : State) (stw : Bool) (x a v : Nat) : State :=
  let off := a % 0x10000
  if off = 0 then
    if s.u.sinkOn x then (if bit v 8 then s else s.sinkDisable x)
    else s.onU fun u => u.enWrite stw false (fieldsAt a) (Reg.SINK_CFG.EN x) v (·.sinkEnable x) id
  else s.onU fun u => u.regWrite stw a v

/-- Switch port p (R389, R390, R412), by the steward. Port 13 has one register. -/
def Units.portWrite (u : Units) (stw : Bool) (p off v : Nat) : Units :=
  let a := 0x151000 + 0x40 * p + off
  if p = 13 ∧ off ≠ 0x18 then u
  else if off = 0 ∧ stw then u.enWrite stw false (fieldsAt a) (Reg.NET_PCFG.EN p) v (·.portEnable p true) (·.portEnable p false)
  else if off = 8 ∧ stw then (if bit v 0 then u.pdiagRun p else u)
  else u.regWrite stw a v

/-- CAN channel n (R399, R413). -/
def Units.canWrite (u : Units) (stw : Bool) (n off v : Nat) : Units :=
  let a := 0x161000 + 0x100 * n + off
  match off with
  | 0x00 => u.enWrite stw false (fieldsAt a) (Reg.CAN_CFG.EN n) v (·.canEnable n true) (·.canEnable n false)
  | 0x04 | 0x08 => u.lockedWrite stw (u.is (Reg.CAN_CFG.EN n)) a v
  | 0x2C => u.canPush n v
  | 0x30 => if bit v 0 then u.canGo n (v / 2 ^ 16) else u
  | _ => u.regWrite stw a v

/-- Camera receiver n (R402, R414), by the steward. -/
def Units.camWrite (u : Units) (stw : Bool) (n off v : Nat) : Units :=
  let a := 0x171000 + 0x80 * n + off
  if off = 0 ∧ stw then u.enWrite stw false (fieldsAt a) (Reg.CAM_CFG.EN n) v (·.wr (Reg.CAM_CFG.EN n) 1) (·.camOff n)
  else if off = 8 ∧ stw then
    if u.is (Reg.CAM_I2C.BUSY n) then u
    else let u := u.regWrite stw a v; if bit v 24 then u.i2cGo n else u
  else u.regWrite stw a v

/-- The twin registers (R409): a lane turned off is down. -/
def Units.twnWrite (u : Units) (stw : Bool) (a v : Nat) : Units :=
  let u := u.regWrite stw a v
  if a = 0x188000 then
    u.each ((List.range 2).filter fun l => u.laneUp l && !(u.is Reg.TWN_CFG.EN && bit (u.rd Reg.TWN_CFG.LANES) l)) Units.twinLaneDown
  else u

/-- R381: FAB_DBG.EN. -/
def Units.dbgWrite (u : Units) (on : Bool) : Units :=
  if u.is Reg.FAB_DBG.EN == on then u
  else
    let u := u.wrb Reg.FAB_DBG.EN on
    if on then u.wr Reg.FAB_DBG.ACTIVE 0 else u.emit 0xA002 0x02 0

/-- The fabric and crossing registers: CD01 and CD25 have no WAKEEN (R381). -/
def Units.fabWrite (u : Units) (stw : Bool) (a v : Nat) : Units :=
  if a = 0x190000 then (if stw then u.dbgWrite (bit v 0) else u)
  else if a = 0x191004 ∨ a = 0x191064 then u.regWrite false a v
  else u.regWrite stw a v

/-- The steward-only range (20_power.md R498, 21_reset.md R512, 18_persistent_config.md R442). -/
def State.stwWrite (s : State) (a v : Nat) : State :=
  if a = 0xF10008 then
    s.onU fun u =>
      let u := u.wr Reg.RST_WDOG.TIMEOUT v
      if bit v 31 then u.kick u.clock else u
  else if a = 0xF1000C then s.onU fun u => if u.is Reg.RST_BLOCK.BUSY then u else u.blockGo v
  else if a = 0xF10010 then s.heldWrite false v
  else if a = 0xF10014 then s.heldWrite true v
  else if 0xF24000 ≤ a ∧ a < 0xF28000 then s.onU fun u => if a % 4 = 0 then (u.pstWrite ((a - 0xF24000) / 4) v).2 else u
  else s.onU fun u => u.regWrite true a v

/-- A write of the register at a canonical address by a requester. -/
def State.regWriteAt (s : State) (who c v : Nat) : State :=
  let stw := decide (64 ≤ who)
  let v := v % 2 ^ 32
  if 0x100000000 ≤ c then s.coreWriteReg who (c % 0x1000) v
  else if c < 0x30000 then
    let n := (c - 0x20000) / 0x2000
    let o := (c - 0x20000) % 0x2000
    s.onU fun u => if o < 0x1000 then u.bsnWrite stw n o v else if o < 0x1400 then u.slcWrite stw (8 * n + (o - 0x1000) / 0x80) (o % 0x80) v else u
  else if c < 0x110000 then s.onU fun u => u.angWrite stw ((c - 0x100000) / 0x1000) (c % 0x1000) v
  else if c < 0x120000 then s.onU fun u => u.timWrite stw (c - 0x110000) v
  else if c < 0x124000 then s.onU fun u => u.ainWrite stw (c - 0x120000) v
  else if c < 0x126000 then s.onU fun u => if c < 0x124400 then u.finWrite stw ((c - 0x124000) / 0x40) (c % 0x40) v else u
  else if c < 0x128000 then s.onU fun u => u.dinWrite stw (c - 0x126000) v
  else if c < 0x12A000 then s.onU fun u => u.excWrite stw (c - 0x128000) v
  else if c < 0x130000 then s.onU fun u => u.trgWrite stw (c - 0x12A000) v
  else if c < 0x140000 then s.onU fun u => u.runWrite stw who ((c - 0x130000) / 0x400) (c % 0x400) v
  else if 0x140100 ≤ c ∧ c < 0x140200 then s.onU fun u => u.ringWrite stw ((c - 0x140100) / 0x20) (c % 0x20) v
  else if c < 0x148000 then s.onU fun u => u.regWrite stw c v
  else if c < 0x150000 then s.onU fun u => u.weirWrite stw who (c - 0x148000) v
  else if 0x151000 ≤ c ∧ c < 0x151380 then s.onU fun u => u.portWrite stw ((c - 0x151000) / 0x40) (c % 0x40) v
  else if 0x158000 ≤ c ∧ c < 0x160000 then
    s.onU fun u => if stw then { u with switch := { u.switch with tables := SMap.set 0 u.switch.tables (c - 0x158000) v } } else u
  else if 0x161000 ≤ c ∧ c < 0x161C00 then s.onU fun u => u.canWrite stw ((c - 0x161000) / 0x100) (c % 0x100) v
  else if 0x171000 ≤ c ∧ c < 0x171400 then s.onU fun u => u.camWrite stw ((c - 0x171000) / 0x80) (c % 0x80) v
  else if c < 0x160000 then s.sinkRegWrite stw 0 c v
  else if c < 0x170000 then s.sinkRegWrite stw 1 c v
  else if c < 0x180000 then s.sinkRegWrite stw 2 c v
  else if c < 0x188000 then s.onU fun u => let u := u.regWrite stw c v; if c = 0x180000 then u.laserSync else u
  else if c < 0x190000 then s.onU fun u => u.twnWrite stw c v
  else if c < 0x1A0000 then s.onU fun u => u.fabWrite stw c v
  else if stw then s.stwWrite c v
  else s.onU fun u => u.regWrite false c v

/-! ## Reads -/

/-- FAB_VARIANT, FAB_PRESENT0 and FAB_PRESENT1 (00_scope.md R2, R4). -/
def Units.censusRead (u : Units) (off : Nat) : Nat :=
  match off with
  | 0x0 => u.census.part.code * 2 ^ 16 + u.census.stepping % 2 ^ 8 * 2 ^ 8
  | 0x4 => u.census.part.present0
  | 0x8 => u.census.part.present1
  | _ => 0

/-- TWN_PAIR.WAIT (19_twin_mode.md R475): the conditions of R458 a paired follower does not meet; a
leader shows what its follower reported. -/
def Units.pairWait (u : Units) : Nat :=
  if u.rd Reg.TWN_PAIR.ROLE = 1 then u.rd Reg.TWN_PAIR.WAIT
  else if u.rd Reg.TWN_PAIR.ROLE ≠ 2 ∨ u.is Reg.TWN_PAIR.ATTACHED then 0
  else
    let angles := u.is Reg.TWN_SYNC_STATUS.LOCK && ((List.range 4).filter fun n => bit (u.rd Reg.TWN_PAIR.ENGMASK) n).all u.angValid
    b2n (u.pst.lastCmp != some true) + 2 * b2n (!angles) + 4 * b2n (!(u.active == 4 && u.is Reg.TIM_STATUS.LOCK))

/-- RST_HELD: the bits of absent cores read 0 (21_reset.md R512). -/
def Units.presentBits (u : Units) (hi : Bool) (v : Nat) : Nat :=
  ((List.range 32).map fun b => if u.corePresent (b + 32 * b2n hi) && bit v b then 2 ^ b else 0).sum

/-- A read of the register at a canonical address by a requester: the value, and the state after. -/
def Units.regReadAt (u : Units) (who c : Nat) : Nat × Units :=
  let stw := decide (64 ≤ who)
  let plain := u.regRead stw c
  let like (u : Units) (v : Nat) : Nat × Units := (v, u)
  if 0x100000000 ≤ c then like u (u.coreRead who (c % 0x1000))
  else if c < 0x30000 then
    if (c - 0x20000) % 0x2000 = 0x800 then like u (u.pwrStatus ((c - 0x20000) / 0x2000)) else like u plain
  else if c < 0x110000 then
    let n := (c - 0x100000) / 0x1000
    match c % 0x1000 with
    | 0x78 => like u (u.schedRead n false)
    | 0x7C => like u (u.schedRead n true)
    | _ => like u ((u.angPublish n).regRead stw c)
  else if c < 0x120000 then
    match c - 0x110000 with
    | 0x08 => u.readNowLo who
    | 0x0C => like u (u.readNowHi who)
    | 0x24 => like u ((u.tim.nextSec.getD 0) % 2 ^ 32)
    | 0x40 => like u (u.rtcNow / 32768 % 2 ^ 32)
    | _ => like u plain
  else if 0x12A000 ≤ c ∧ c < 0x12A100 ∧ c % 0x10 = 8 then
    like u ((u.wrb (Reg.TRG_STATUS.PIN ((c - 0x12A000) / 0x10)) (u.trgPin ((c - 0x12A000) / 0x10))).regRead stw c)
  else if 0x130000 ≤ c ∧ c < 0x140000 ∧ c % 0x400 = 0x10 then u.runRead ((c - 0x130000) / 0x400) .soft .clean
  else if c = 0x140018 then like u ((u.wr Reg.RSV_RATE.LIVE (satN 16 u.liveRate)).regRead stw c)
  else if 0x148100 ≤ c ∧ c < 0x148300 ∧ c % 0x20 = 0x14 then like u (u.reserveRead who ((c - 0x148100) / 0x20))
  else if 0x151340 ≤ c ∧ c < 0x151380 then like u (if c = 0x151358 then plain else 0)
  else if 0x158000 ≤ c ∧ c < 0x160000 then like u (if stw then SMap.get 0 u.switch.tables (c - 0x158000) else 0)
  else if 0x161000 ≤ c ∧ c < 0x161C00 ∧ c % 0x100 = 0x24 then u.canPop ((c - 0x161000) / 0x100)
  else if c = 0x188020 then like u ((u.wr Reg.TWN_PAIR.WAIT u.pairWait).regRead stw c)
  else if c = 0x191004 ∨ c = 0x191064 then like u ((u.wr (Reg.XNG_DOMd.WAKEEN ((c - 0x191000) / 4)) 0).regRead stw c)
  else if 0x1A0000 ≤ c ∧ c < 0x1A1000 then like u (u.censusRead (c - 0x1A0000))
  else if c = 0xF10010 ∨ c = 0xF10014 then like u (u.presentBits (decide (c = 0xF10014)) plain)
  else if c = 0xF00000 then like u ((u.wr Reg.PWR_STATUS.STATE u.pwrState).regRead stw c)
  else if c = 0xF0001C then like u ((u.wr Reg.PWR_AO.UA u.aoLoad).regRead stw c)
  else if 0xF24000 ≤ c ∧ c < 0xF28000 ∧ c % 4 = 0 then like u (u.pstRead stw ((c - 0xF24000) / 4))
  else if 0xF28000 ≤ c ∧ c < 0xF2C000 ∧ c % 4 = 0 then like u (if stw then u.pstWearReg ((c - 0xF28000) / 4) else 0)
  else like u plain

/-! ## Accesses -/

/-- An IO read by a requester: response code, value, and the state after. -/
def State.ioRead (s : State) (who a : Nat) : Nat × Nat × State :=
  let r := s.u.ioCode who a
  if r.1 ≠ respOk then (r.1, 0, s.onU fun u => u.ioFail r.1 false who a r.2)
  else
    let x := s.u.regReadAt who r.2
    (respOk, x.1 % 2 ^ 32, s.onU fun _ => x.2)

/-- A core's write through the basin-n ranges is ignored (R22). -/
def ignoredWrite (who a : Nat) : Bool := decide (who < 64) && decide (0x20000 ≤ a) && decide (a < 0x30000)

/-- An IO write by a requester: response code, and the state after. -/
def State.ioWrite (s : State) (who a v : Nat) : Nat × State :=
  let r := s.u.ioCode who a
  if r.1 ≠ respOk then (r.1, s.onU fun u => u.ioFail r.1 true who a r.2)
  else (respOk, if ignoredWrite who a then s else s.regWriteAt who r.2 v)

/-- An IO access of steward firmware: a stopped domain it crosses into is woken first (15_fabric_and_crossings.md R378). -/
def Units.ioWake (u : Units) (who a : Nat) : Units :=
  match u.ioWaits who a with
  | some d => u.wakeDom d
  | none => u

/-! ## Responses to the cores (10_ehrel_isa.md R245, R247) -/

/-- The fault on a response to an IO access. -/
def Units.ioFault (u : Units) (e : RespFault) (write : Bool) (who a : Nat) : Nat × Units :=
  let c := (ioCanon who a).getD a
  let src := if who < 64 then who / 8 else 27
  let port := ioPort who c
  match e with
  | .none => (respOk, u)
  | .flitCe => (respOk, u.count Reg.FAB_CE.COUNT Reg.FAB_CE.OVF)
  | .uncorr => if write then (respOk, u) else (respUncorr, u.fabLog respUncorr write src port a)
  | .flitData =>
    let code := if write then respError else respUncorr
    (code, (u.flitUe port false).fabLog code write src port a)
  | .flitSide => (respError, (u.flitUe port true).fabLog respError write src port a)

/-- The response of IN or IORD. -/
def State.ioReadResponse (s : State) (k a : Nat) (e : RespFault) : State :=
  match s.u.ioWaits k a with
  | some d => s.onU fun u => u.wakeDom d
  | none =>
    let r := (s.onU fun u => u.setAcc k none).ioRead k a
    if r.1 ≠ respOk then r.2.2.readEnd k 2 2 0 r.1 0 a
    else
      let f := r.2.2.u.ioFault e false k a
      (r.2.2.onU fun _ => f.2).readEnd k 2 2 0 f.1 r.2.1 a

/-- The response of OUT or IOWR: a flit error on the way leaves the write unperformed. -/
def State.ioWriteResponse (s : State) (k a v : Nat) (e : RespFault) : State :=
  match s.u.ioWaits k a with
  | some d => s.onU fun u => u.wakeDom d
  | none =>
    let s := s.onU fun u => u.setAcc k none
    if (s.u.ioCode k a).1 ≠ respOk then let r := s.ioWrite k a v; r.2.writeEnd k 2 2 0 r.1 a
    else
      let f := s.u.ioFault e true k a
      let s := s.onU fun _ => f.2
      if f.1 ≠ respOk then s.writeEnd k 2 2 0 f.1 a else let r := s.ioWrite k a v; r.2.writeEnd k 2 2 0 r.1 a

/-- A fetch that fails raises BUS_FAULT, resuming at the unfetched address. -/
def State.fetchFail (s : State) (k code : Nat) : State :=
  (s.onU fun u => u.latchFault k 0 false false code (u.pcOf k)).raise k evBus (s.u.pcOf k)

/-- The response to the fetch at the core's pc. -/
def State.fetchResponse (s : State) (k : Nat) (e : RespFault) : State :=
  if !(s.u.coreRuns k && (s.u.cpuOf k).micro.isNone) then s
  else
    match s.u.fetchWaits k (s.u.pcOf k) with
    | some d => s.onU fun u => u.wakeDom d
    | none =>
      let r := s.fetch k (s.u.pcOf k) e
      if r.1 = respOk then r.2.2 else r.2.2.fetchFail k r.1

/-- The response core k waits for returns. -/
def State.response (s : State) (k : Nat) (e : RespFault) : State :=
  if !s.u.coreLive k then s
  else
    match (s.u.cpuOf k).acc with
    | some (.load a n signed inc lr) => s.loadResponse k a n signed inc lr e
    | some (.ioRead a) => s.ioReadResponse k a e
    | some (.ioWrite a v) => s.ioWriteResponse k a v e
    | some (.ldi w) => s.ldiResponse k w e
    | some (.sti i w) => s.stiResponse k i w e
    | some (.cop _ _) => s
    | none => s.fetchResponse k e

/-! ## Timeouts (15_fabric_and_crossings.md R369) -/

/-- Marks the IO address of a late request apart from physical addresses. -/
def lateIo (who a : Nat) : Nat := 2 ^ 44 + who * 2 ^ 36 + a

/-- An IO request of core k times out. -/
def Units.ioTimeout (u : Units) (k a v : Nat) (write : Bool) : Units :=
  let c := (ioCanon k a).getD a
  let u := (u.count Reg.FAB_TIMEOUTS.COUNT Reg.FAB_TIMEOUTS.OVF).fabLog respTimeout write (corePort k) (ioPort k c) a
  { u with late := u.late ++ [LateReq.mk (ioPort k c) (lateIo k a) (if write then leBytes 4 v else [])] }.emit 0xA000 0x01
    (ioPort k c + corePort k * 2 ^ 8 + b2n write * 2 ^ 16)

def Units.memTimeout (u : Units) (k a n v : Nat) (write : Bool) : Units :=
  u.fabTimeout write (corePort k) (physPort (corePort k) a) a (leBytes n v)

/-- The access core k waits for times out: it completes with TIMEOUT. -/
def State.coreTimeout (s : State) (k : Nat) : State :=
  let off (s : State) : State := s.onU fun u => u.setAcc k none
  match (s.u.cpuOf k).acc with
  | some (.ioRead a) => ((off s).onU fun u => u.ioTimeout k a 0 false).readEnd k 2 2 0 respTimeout 0 a
  | some (.ioWrite a v) => ((off s).onU fun u => u.ioTimeout k a v true).writeEnd k 2 2 0 respTimeout a
  | some (.load a n signed inc lr) =>
    match s.u.dmap k a with
    | .phys p _ => ((off s).onU fun u => u.memTimeout k p n 0 false).loadEnd k a n signed inc lr 0 respTimeout 0
    | _ => s
  | some (.ldi w) =>
    match s.u.imap k w with
    | .phys p _ => ((off s).onU fun u => u.memTimeout k p 2 0 false).readEnd k 0 3 0 respTimeout 0 w
    | _ => s
  | some (.sti i w) =>
    match s.u.imap k w with
    | .phys p _ => ((off s).onU fun u => u.memTimeout k p 2 i true).writeEnd k 0 4 0 respTimeout w
    | _ => s
  | some (.cop _ _) => s
  | none =>
    if !(s.u.coreRuns k && (s.u.cpuOf k).micro.isNone) then s
    else
      match s.u.imap k (s.u.pcOf k) with
      | .phys p _ => (s.onU fun u => u.memTimeout k p 2 0 false).fetchFail k respTimeout
      | _ => s

/-- The oldest store of core k times out as it drains: an imprecise BUS_FAULT (10_ehrel_isa.md R248). -/
def State.storeTimeout (s : State) (k : Nat) : State :=
  match (s.u.cpuOf k).sbuf with
  | [] => s
  | w :: ws =>
    if w.addr < 0x20000 ∨ w.attr = 4 then s
    else
      let s := s.onU fun u => (u.setCpu k { u.cpuOf k with sbuf := ws }).memTimeout k w.phys w.size w.val true
      (s.onU fun u => u.latchFault k 1 true true respTimeout w.pc).raiseFast k evBus w.addr true

/-- The oldest outstanding read (0), write (1) or read-back (2) of a channel times out. -/
def Units.slTimeout (u : Units) (c dir : Nat) : Units :=
  let x := u.slOf c
  if !u.slLive c then u
  else
    let go (a : Nat) (write : Bool) (data : List Nat) : Units := u.fabTimeout write (c / 8) (physPort (c / 8) a) a data
    match dir with
    | 0 => match x.reads with | r :: _ => (go r.1 false []).slReadFail c respTimeout | [] => u
    | 1 => match x.writes with | w :: _ => (go w.addr true w.bytes).slWriteFail c respTimeout | [] => u
    | _ => match x.backs with | a :: _ => (go a false []).slBackFail c respTimeout | [] => u

/-- R369: a target answers after expiry: the answer is discarded, counted and reported; a write may by then have been
performed. -/
def State.lateResponse (s : State) (i : Nat) (performed : Bool) : State :=
  match s.u.late[i]? with
  | none => s
  | some r =>
    let s := s.onU fun u => ({ u with late := u.late.eraseIdx i }.count Reg.FAB_LATE.COUNT Reg.FAB_LATE.OVF).emit 0xA000 0x03 r.port
    if !performed || r.data == [] then s
    else if 2 ^ 44 ≤ r.addr then
      let who := (r.addr - 2 ^ 44) / 2 ^ 36
      (s.ioWrite who (r.addr % 2 ^ 36) (leNat r.data)).2
    else (s.physWrite r.port 66 r.addr r.data.length (leNat r.data)).2

/-! ## The test port (15_fabric_and_crossings.md R381, 22_connectors_electrical.md R521) -/

/-- A 32-bit debug access at a physical address through port 29: admitted while FAB_DBG.EN = 1, otherwise answered NO_UNIT.
The answer of a read is shown in `rdata`. -/
def State.debugAccess (s : State) (write : Bool) (a v : Nat) : State :=
  if !s.u.is Reg.FAB_DBG.EN then s.onU fun u => { u.noUnit write 29 a with rdata := 0 }
  else
    let s := s.onU fun u => if u.is Reg.FAB_DBG.ACTIVE then u else (u.wr Reg.FAB_DBG.ACTIVE 1).emit 0xA002 0x01 0
    if s.u.mustWait a then s.onU fun u => u.wakeDom (physDomain a)
    else if write then (s.physWrite 29 66 a 4 v).2
    else
      let r := s.physRead 29 .soft a 4
      r.2.2.onU fun u => { u with rdata := r.2.1 }

/-! ## Meanings -/

def execRegisterWrite (who a v : Nat) (s : State) : Host.Outcome State Fault Refusal :=
  s.runS (decide (who < 65 ∧ a < 2 ^ 32 ∧ a % 4 = 0)) fun s =>
    if who = 64 ∨ s.u.coreLive who then ((s.onU fun u => u.ioWake who a).ioWrite who a v).2 else s
def execCoreAccessResponse (k : Nat) (e : RespFault) (s : State) : Host.Outcome State Fault Refusal :=
  s.runS (coreOk k) fun s => s.response k e
/-- R369: who waits: 0 a core for its access, 1 a core's oldest store, 2 a channel's read, 3 its write, 4 its read-back. -/
def execFabricTimeout (kind i : Nat) (s : State) : Host.Outcome State Fault Refusal :=
  s.runS (decide ((kind < 2 ∧ i < 65) ∨ (2 ≤ kind ∧ kind < 5 ∧ i < 64))) fun s =>
    if kind = 0 then (if s.u.coreLive i then s.coreTimeout i else s)
    else if kind = 1 then (if s.u.coreLive i then s.storeTimeout i else s)
    else s.onU fun u => u.slTimeout i (kind - 2)
def execFabricLateResponse (i : Nat) (performed : Bool) (s : State) : Host.Outcome State Fault Refusal :=
  s.runS true fun s => s.lateResponse i performed
def execFabDbgWrite (on : Bool) (s : State) : Host.Outcome State Fault Refusal := s.run true fun u => u.dbgWrite on
def execDebugAccess (write : Bool) (a v : Nat) (s : State) : Host.Outcome State Fault Refusal :=
  s.runS (decide (a < 2 ^ 40 ∧ a % 4 = 0)) fun s => s.debugAccess write a v

end Sys2Proof.Machine
end

