-- ==== Sys2Proof/Machine/Isa.lean ====
section
/-! DEFINITION. Major 0x0 to 0x2 and 0x4 to 0x6: stack, arithmetic, control, constants, branches and skips
(10_ehrel_isa.md R252 to R262). Every command names the core that executes the instruction. -/
namespace Sys2Proof.Machine

/-- The command names a core: 0 to 63, or 64 for the steward core. -/
def isCore (k : Nat) : Bool := decide (k < 65)

/-- PICK (R252): a copy of the entry n places below n. -/
def State.pick (s : State) (k : Nat) : State :=
  s.issue k fun s =>
    let u := s.u
    let t := u.dsT k
    let d := u.stkDepth k t
    let n := (u.stk k t).headD (s.load (u.spillAddr k t (u.rd (stkUsed t k) - 1)) 4)
    if d = 0 then s.raise k evStack 0
    else if n > 15 then s.raise k evStack 4
    else if d < n + 2 then s.raise k evStack 0
    else
      match s.prep k (min (n + 2) 16) 1 1 0 0 0 with
      | .error e => s.raise k evStack e
      | .ok (m, s) =>
        let u := s.u
        let l := u.stk k t
        let x := (l[n + 1]?).getD (s.load (u.spillAddr k t (u.rd (stkUsed t k) - 1 - (n + 1 - l.length))) 4)
        s.onU fun u => (u.put k 1 [x]).complete k (2 + m) (u.pcOf k + 1) 0 m

/-- The flag conditions of SKF (R262). -/
def Units.flagCond (u : Units) (k c : Nat) : Bool :=
  match c with
  | 0 => u.is (Reg.CORE_STATUS.C k) | 1 => !u.is (Reg.CORE_STATUS.C k)
  | 2 => u.is (Reg.CORE_STATUS.V k) | 3 => !u.is (Reg.CORE_STATUS.V k)
  | 4 => u.is (Reg.CORE_STATUS.AF k) | _ => !u.is (Reg.CORE_STATUS.AF k)

/-! ## Meanings -/

def execNop (k : Nat) (s : State) : Host.Outcome State Fault Refusal := s.runS (isCore k) fun s => s.pureOp k 1 0 0 0 fun _ => []
def execDup (k : Nat) (s : State) : Host.Outcome State Fault Refusal := s.runS (isCore k) fun s => s.pureOp k 1 1 1 2 fun l => [l.getD 0 0, l.getD 0 0]
def execDrop (k : Nat) (s : State) : Host.Outcome State Fault Refusal := s.runS (isCore k) fun s => s.pureOp k 1 1 1 0 fun _ => []
def execSwap (k : Nat) (s : State) : Host.Outcome State Fault Refusal := s.runS (isCore k) fun s => s.pureOp k 1 1 2 2 fun l => [l.getD 1 0, l.getD 0 0]
def execOver (k : Nat) (s : State) : Host.Outcome State Fault Refusal := s.runS (isCore k) fun s => s.pureOp k 1 1 2 3 fun l => [l.getD 1 0, l.getD 0 0, l.getD 1 0]
def execRot (k : Nat) (s : State) : Host.Outcome State Fault Refusal := s.runS (isCore k) fun s => s.pureOp k 1 1 3 3 fun l => [l.getD 2 0, l.getD 0 0, l.getD 1 0]
def execNip (k : Nat) (s : State) : Host.Outcome State Fault Refusal := s.runS (isCore k) fun s => s.pureOp k 1 1 2 1 fun l => [l.getD 0 0]
def execTuck (k : Nat) (s : State) : Host.Outcome State Fault Refusal := s.runS (isCore k) fun s => s.pureOp k 1 1 2 3 fun l => [l.getD 0 0, l.getD 1 0, l.getD 0 0]
def execPick (k : Nat) (s : State) : Host.Outcome State Fault Refusal := s.runS (isCore k) fun s => s.pick k
def execToR (k : Nat) (s : State) : Host.Outcome State Fault Refusal := s.runS (isCore k) fun s => s.retOp k 1 1 0 0 1 fun _ d _ => ([], d)
def execRFrom (k : Nat) (s : State) : Host.Outcome State Fault Refusal := s.runS (isCore k) fun s => s.retOp k 1 0 1 1 0 fun _ _ r => (r, [])
def execRFetch (k : Nat) (s : State) : Host.Outcome State Fault Refusal := s.runS (isCore k) fun s => s.retOp k 1 0 1 1 1 fun _ _ r => (r, r)
def execDepth (k : Nat) (s : State) : Host.Outcome State Fault Refusal := s.runS (isCore k) fun s => s.stackOp k 1 0 0 1 fun u _ => ([u.stkDepth k (u.dsT k)], u)
def execRdrop (k : Nat) (s : State) : Host.Outcome State Fault Refusal := s.runS (isCore k) fun s => s.retOp k 1 0 0 1 0 fun _ _ _ => ([], [])
def execAdd (k : Nat) (s : State) : Host.Outcome State Fault Refusal := s.runS (isCore k) fun s => s.aluOp k 0x10 2
def execSub (k : Nat) (s : State) : Host.Outcome State Fault Refusal := s.runS (isCore k) fun s => s.aluOp k 0x11 2
def execAdc (k : Nat) (s : State) : Host.Outcome State Fault Refusal := s.runS (isCore k) fun s => s.aluOp k 0x12 2
def execSbc (k : Nat) (s : State) : Host.Outcome State Fault Refusal := s.runS (isCore k) fun s => s.aluOp k 0x13 2
def execNeg (k : Nat) (s : State) : Host.Outcome State Fault Refusal := s.runS (isCore k) fun s => s.aluOp k 0x14 1
def execAbs (k : Nat) (s : State) : Host.Outcome State Fault Refusal := s.runS (isCore k) fun s => s.aluOp k 0x15 1
def execInc (k : Nat) (s : State) : Host.Outcome State Fault Refusal := s.runS (isCore k) fun s => s.aluOp k 0x16 1
def execDec (k : Nat) (s : State) : Host.Outcome State Fault Refusal := s.runS (isCore k) fun s => s.aluOp k 0x17 1
def execAdds (k : Nat) (s : State) : Host.Outcome State Fault Refusal := s.runS (isCore k) fun s => s.aluOp k 0x18 2
def execSubs (k : Nat) (s : State) : Host.Outcome State Fault Refusal := s.runS (isCore k) fun s => s.aluOp k 0x19 2
def execMin (k : Nat) (s : State) : Host.Outcome State Fault Refusal := s.runS (isCore k) fun s => s.aluOp k 0x1A 2
def execMax (k : Nat) (s : State) : Host.Outcome State Fault Refusal := s.runS (isCore k) fun s => s.aluOp k 0x1B 2
def execMinu (k : Nat) (s : State) : Host.Outcome State Fault Refusal := s.runS (isCore k) fun s => s.aluOp k 0x1C 2
def execMaxu (k : Nat) (s : State) : Host.Outcome State Fault Refusal := s.runS (isCore k) fun s => s.aluOp k 0x1D 2
def execSlt (k : Nat) (s : State) : Host.Outcome State Fault Refusal := s.runS (isCore k) fun s => s.aluOp k 0x1E 2
def execSltu (k : Nat) (s : State) : Host.Outcome State Fault Refusal := s.runS (isCore k) fun s => s.aluOp k 0x1F 2
def execAnd (k : Nat) (s : State) : Host.Outcome State Fault Refusal := s.runS (isCore k) fun s => s.aluOp k 0x20 2
def execOr (k : Nat) (s : State) : Host.Outcome State Fault Refusal := s.runS (isCore k) fun s => s.aluOp k 0x21 2
def execXor (k : Nat) (s : State) : Host.Outcome State Fault Refusal := s.runS (isCore k) fun s => s.aluOp k 0x22 2
def execNot (k : Nat) (s : State) : Host.Outcome State Fault Refusal := s.runS (isCore k) fun s => s.aluOp k 0x23 1
def execShl (k : Nat) (s : State) : Host.Outcome State Fault Refusal := s.runS (isCore k) fun s => s.aluOp k 0x24 2
def execShr (k : Nat) (s : State) : Host.Outcome State Fault Refusal := s.runS (isCore k) fun s => s.aluOp k 0x25 2
def execSar (k : Nat) (s : State) : Host.Outcome State Fault Refusal := s.runS (isCore k) fun s => s.aluOp k 0x26 2
def execRol (k : Nat) (s : State) : Host.Outcome State Fault Refusal := s.runS (isCore k) fun s => s.aluOp k 0x27 2
def execRor (k : Nat) (s : State) : Host.Outcome State Fault Refusal := s.runS (isCore k) fun s => s.aluOp k 0x28 2
def execClz (k : Nat) (s : State) : Host.Outcome State Fault Refusal := s.runS (isCore k) fun s => s.aluOp k 0x29 1
def execPopc (k : Nat) (s : State) : Host.Outcome State Fault Refusal := s.runS (isCore k) fun s => s.aluOp k 0x2A 1
def execBswap (k : Nat) (s : State) : Host.Outcome State Fault Refusal := s.runS (isCore k) fun s => s.aluOp k 0x2B 1
def execSexb (k : Nat) (s : State) : Host.Outcome State Fault Refusal := s.runS (isCore k) fun s => s.aluOp k 0x2C 1
def execSexh (k : Nat) (s : State) : Host.Outcome State Fault Refusal := s.runS (isCore k) fun s => s.aluOp k 0x2D 1
def execZexb (k : Nat) (s : State) : Host.Outcome State Fault Refusal := s.runS (isCore k) fun s => s.aluOp k 0x2E 1
def execZexh (k : Nat) (s : State) : Host.Outcome State Fault Refusal := s.runS (isCore k) fun s => s.aluOp k 0x2F 1
def execMul (k : Nat) (s : State) : Host.Outcome State Fault Refusal := s.runS (isCore k) fun s => s.stackOp k 3 0 2 1 fun u l => let o := aluMul (l.getD 1 0) (l.getD 0 0); ([o.r], u.setFlags k o)
def execMulh (k : Nat) (s : State) : Host.Outcome State Fault Refusal := s.runS (isCore k) fun s => s.pureOp k 4 0 2 1 fun l => [wd (sgn (l.getD 1 0) * sgn (l.getD 0 0) / 2 ^ 32)]
def execMulhu (k : Nat) (s : State) : Host.Outcome State Fault Refusal := s.runS (isCore k) fun s => s.pureOp k 4 0 2 1 fun l => [l.getD 1 0 * l.getD 0 0 / 2 ^ 32]
def execMuld (k : Nat) (s : State) : Host.Outcome State Fault Refusal := s.runS (isCore k) fun s => s.pureOp k 4 0 2 2 fun l => let p := sgn (l.getD 1 0) * sgn (l.getD 0 0); [wd (p / 2 ^ 32), wd p]
def execMuldu (k : Nat) (s : State) : Host.Outcome State Fault Refusal := s.runS (isCore k) fun s => s.pureOp k 4 0 2 2 fun l => let p := l.getD 1 0 * l.getD 0 0; [p / 2 ^ 32, w32 p]
def execDiv (k : Nat) (s : State) : Host.Outcome State Fault Refusal := s.runS (isCore k) fun s => s.divOp k 0x0035 true 1 fun o => [o.q]
def execDivu (k : Nat) (s : State) : Host.Outcome State Fault Refusal := s.runS (isCore k) fun s => s.divOp k 0x0036 false 1 fun o => [o.q]
def execRem (k : Nat) (s : State) : Host.Outcome State Fault Refusal := s.runS (isCore k) fun s => s.divOp k 0x0037 true 1 fun o => [o.r]
def execRemu (k : Nat) (s : State) : Host.Outcome State Fault Refusal := s.runS (isCore k) fun s => s.divOp k 0x0038 false 1 fun o => [o.r]
def execDivmod (k : Nat) (s : State) : Host.Outcome State Fault Refusal := s.runS (isCore k) fun s => s.divOp k 0x0039 true 2 fun o => [o.q, o.r]
def execDivmodu (k : Nat) (s : State) : Host.Outcome State Fault Refusal := s.runS (isCore k) fun s => s.divOp k 0x003A false 2 fun o => [o.q, o.r]
def execRet (k : Nat) (s : State) : Host.Outcome State Fault Refusal := s.runS (isCore k) fun s => s.jumpOp k 0 0 1 0 fun _ _ r => (r.getD 0 0, [])
def execCalli (k : Nat) (s : State) : Host.Outcome State Fault Refusal := s.runS (isCore k) fun s => s.jumpOp k 0 1 0 1 fun u d _ => (d.getD 0 0, [w32 (u.pcOf k + 1)])
def execJmpi (k : Nat) (s : State) : Host.Outcome State Fault Refusal := s.runS (isCore k) fun s => s.jumpOp k 0 1 0 0 fun _ d _ => (d.getD 0 0, [])
def execLit (k imm : Nat) (s : State) : Host.Outcome State Fault Refusal := s.runS (isCore k && decide (imm < 4096)) fun s => s.pureOp k 1 1 0 1 fun _ => [imm12 imm]
def execLitx (k imm : Nat) (s : State) : Host.Outcome State Fault Refusal := s.runS (isCore k && decide (imm < 4096)) fun s => s.pureOp k 1 1 1 1 fun l => [w32 (l.getD 0 0 * 2 ^ 12 + imm)]
def execBr (k off : Nat) (s : State) : Host.Outcome State Fault Refusal := s.runS (isCore k && decide (off < 4096)) fun s => s.jumpOp k 2 0 0 0 fun u _ _ => (u.pcOf k + 1 + imm12 off, [])
def execCall (k off : Nat) (s : State) : Host.Outcome State Fault Refusal := s.runS (isCore k && decide (off < 4096)) fun s => s.jumpOp k 0 0 0 1 fun u _ _ => (u.pcOf k + 1 + imm12 off, [w32 (u.pcOf k + 1)])
def execSk (k cond : Nat) (keep : Bool) (s : State) : Host.Outcome State Fault Refusal := s.runS (isCore k && decide (cond < 8)) fun s => s.skipOp k 1 keep fun _ l => condSk cond (l.getD 0 0)
def execSkf (k cond : Nat) (s : State) : Host.Outcome State Fault Refusal := s.runS (isCore k && decide (cond < 6)) fun s => s.skipOp k 0 true fun u _ => u.flagCond k cond
def execSkc (k cond : Nat) (keep : Bool) (s : State) : Host.Outcome State Fault Refusal := s.runS (isCore k && decide (cond < 10)) fun s => s.skipOp k 2 keep fun _ l => condCmp cond (l.getD 1 0) (l.getD 0 0)
def execSki (k cond imm : Nat) (keep : Bool) (s : State) : Host.Outcome State Fault Refusal := s.runS (isCore k && decide (cond < 8) && decide (imm < 64)) fun s => s.skipOp k 1 keep fun _ l => condCmp cond (l.getD 0 0) (sext 6 imm)

end Sys2Proof.Machine
end

