-- ==== Sys2Proof/Machine/Micro.lean ====
section
/-! DEFINITION. Extended operations: the built-in routines and the customer routines of the writable control store
(10_ehrel_isa.md R273, R274; 12_microcode.md R307 to R320, R323, R324). One command runs a routine to its next interruption
point, or to its end; the next command for the same instruction goes on from there unless an event has entered. -/
namespace Sys2Proof.Machine

/-! ## Starting and ending (R307, R317, R318) -/

/-- The instruction word of a routine runs: it starts, or goes on from its interruption point. -/
def State.microIssue (s : State) (k w : Nat) (start : State → State) (cont : Micro → State → State) : State :=
  if s.u.coreRuns k && (s.u.cpuOf k).rep.isNone then
    match (s.u.cpuOf k).micro with
    | none => start s
    | some m => if m.entry = w then cont m s else s
  else s

def Units.setMicro (u : Units) (k : Nat) (m : Option Micro) : Units := u.setCpu k { u.cpuOf k with micro := m }

/-- R307 steps 1 to 3 for K operands: the store buffer drains, entries move, and the checkpoint is taken. -/
def State.microStart (s0 : State) (k w kk : Nat) (addr : Nat) (dorgen : Bool) (go : Micro → State → State) : State :=
  let s := s0.drainAll k
  if !s.u.drained k then s
  else
    match s.prep k kk 0 4 0 0 0 with
    | .error e => (s.onU fun u => u.wr (Reg.CORE_FPC.PC k) (u.pcOf k)).raise k evStack e
    | .ok r =>
      let s := r.2.onU fun u => u.moveToks k r.1
      go { entry := w, addr := addr, depth := s.u.stkDepth k (s.u.dsT k), k := kk, dorgen := dorgen, check := s.u.tops k kk } s

/-- Entries a routine may name: those at depth D − K and above (R308). -/
def Units.microRoom (u : Units) (k : Nat) (m : Micro) : Nat := u.stkDepth k (u.dsT k) + m.k - m.depth

/-- Return to the checkpoint: the micro-state is discarded (R318). -/
def Units.microBack (u : Units) (k : Nat) (m : Micro) : Units :=
  ((u.put k (u.microRoom k m) m.check).setMicro k none).wr (Reg.CORE_FPC.PC k) (u.pcOf k)

/-- A routine ends as a fault. -/
def State.microStack (s : State) (k : Nat) (m : Micro) (deep : Bool) : State :=
  (s.onU fun u => u.microBack k m).raise k evStack (2 * b2n deep)
def State.microAlign (s : State) (k : Nat) (m : Micro) (space : Nat) (write : Bool) (a : Nat) : State :=
  (s.onU fun u => (u.microBack k m).latchFault k space write false 0 (u.pcOf k)).raise k evAlign a
def State.microBus (s : State) (k : Nat) (m : Micro) (space : Nat) (write : Bool) (code a : Nat) : State :=
  (s.onU fun u => (u.microBack k m).latchFault k space write false code (u.pcOf k)).raise k evBus a

/-- An interruption point: with depth D the top K entries become the checkpoint, and tok tokens have been spent. -/
def State.microPoint (s : State) (k tok : Nat) (m : Micro) : State :=
  if s.u.stkDepth k (s.u.dsT k) ≠ m.depth then s.microStack k m (decide (m.depth < s.u.stkDepth k (s.u.dsT k)))
  else s.onU fun u => (u.setMicro k (some { m with check := u.tops k m.k })).moveToks k tok

/-- A routine completes. -/
def State.microEnd (s : State) (k tok : Nat) : State :=
  s.onU fun u => (u.setMicro k none).complete k tok (u.pcOf k + 1) 0 0

/-! ## Accesses (R309) -/

/-- What an access of a routine gives. -/
inductive MicroAcc where
  /-- A response code, the value read, and the state after. -/
  | done (code v : Nat) (s : State)
  | misaligned
  /-- The target's domain must first be woken. -/
  | wake (d : Nat)

def State.microLoad (s : State) (k a n : Nat) : MicroAcc :=
  if a % n ≠ 0 then .misaligned
  else
    match s.u.dmap k a with
    | .none => .done respNoUnit 0 (s.onU fun u => u.dNone k false a)
    | .ram p => .done respOk (s.load p n) s
    | .phys p attr =>
      let hit (s : State) (code : Nat) : MicroAcc :=
        match s.u.hitDc k p n with
        | some r => .done respOk r.1 (s.onU fun _ => r.2)
        | none => .done code 0 s
      if attr ≠ 0 ∧ s.u.dcOn k ∧ (findLine (s.u.cpuOf k).dc p).isSome then hit s respOk
      else if s.u.mustWait p then .wake (physDomain p)
      else if attr ≠ 0 ∧ s.u.dcOn k then
        let r := s.fillDc k p .none
        if r.1 = respOk then hit r.2 respOk else .done r.1 0 r.2
      else let r := s.physRead (corePort k) .soft p n; .done r.1 r.2.1 r.2.2

def State.microStore (s : State) (k a n v : Nat) : MicroAcc :=
  if a % n ≠ 0 then .misaligned
  else
    let w := s.u.storeEnt k a n v
    if w.attr = 4 then .done respNoUnit 0 (s.onU fun u => u.dNone k true a)
    else if s.u.mustWait w.phys then .wake (physDomain w.phys)
    else
      let r := (s.onU fun u => u.killOwn k w.phys).storeTo k w .none
      .done r.1 0 r.2

def State.microIoRead (s : State) (k a : Nat) : MicroAcc :=
  if a % 4 ≠ 0 then .misaligned
  else if a < 0x1000 then .done respOk (s.u.coreRead k a) s
  else
    match s.u.ioWaits k a with
    | some d => .wake d
    | none => let r := s.ioRead k a; .done r.1 r.2.1 r.2.2

def State.microIoWrite (s : State) (k a v : Nat) : MicroAcc :=
  if a % 4 ≠ 0 then .misaligned
  else if a < 0x1000 then .done respOk 0 (s.coreWriteReg k a v)
  else
    match s.u.ioWaits k a with
    | some d => .wake d
    | none => let r := s.ioWrite k a v; .done r.1 0 r.2

/-! ## Nanowords (R315, R316) -/

/-- A source: S0 to S3, MT0 to MT3, MDR, LIT, UC, zero; none for an entry the routine may not read. -/
def Units.microSrc (u : Units) (k : Nat) (m : Micro) (lit c : Nat) : Option Nat :=
  if c < 4 then (if c < u.microRoom k m then some ((u.tops k (c + 1)).getD c 0) else none)
  else if c < 8 then some (m.mt.getD (c - 4) 0)
  else some (match c with | 8 => m.mdr | 9 => lit | 10 => m.uc | _ => 0)

/-- Codes of MEM: bytes, space, write. -/
def memShape (c : Nat) : Nat × Nat × Bool :=
  match c with
  | 1 => (4, 1, false) | 2 => (2, 1, false) | 3 => (1, 1, false) | 4 => (4, 1, true) | 5 => (2, 1, true) | 6 => (1, 1, true)
  | 7 => (4, 2, false) | _ => (4, 2, true)

def State.microMem (s : State) (k : Nat) (m : Micro) (c : Nat) : MicroAcc :=
  match c with
  | 0 => .done respOk 0 s
  | 7 => s.microIoRead k m.mar
  | 8 => s.microIoWrite k m.mar m.mdr
  | _ => if (memShape c).2.2 then s.microStore k m.mar (memShape c).1 m.mdr else s.microLoad k m.mar (memShape c).1

/-- What MDR holds after MEM. -/
def memMdr (c v old : Nat) : Nat := match c with | 1 | 3 | 7 => v | 2 => sext 16 v | _ => old

/-- DEST takes the result; none for a stack entry the routine may not write. -/
def Units.microDest (u : Units) (k : Nat) (m : Micro) (d r : Nat) : Option (Micro × Units) :=
  if d = 0 then some (m, u)
  else if d < 5 then
    if d - 1 < u.microRoom k m then some (m, u.put k d ((u.tops k d).set (d - 1) r)) else none
  else if d < 9 then some ({ m with mt := m.mt.set (d - 5) r }, u)
  else
    match d with
    | 9 => if u.stkDepth k (u.dsT k) < m.depth + 4 then some (m, u.put k 0 [r]) else none
    | 10 => some ({ m with mar := r }, u)
    | 11 => some ({ m with mdr := r }, u)
    | _ => some ({ m with uc := r % 2 ^ 16 }, u)

/-- What a microword leaves: the routine goes on, its fault has been raised, or a domain must first be woken. -/
inductive MicroStep where
  | next (m : Micro) (s : State)
  | ended (s : State)
  | wake (d : Nat)

/-- Steps 4 to 6 of R316. -/
def State.nanoRest (s : State) (k : Nat) (m : Micro) (v r : Nat) : MicroStep :=
  if s.u.microRoom k m < nPop v then .ended (s.microStack k m false)
  else
    let u := s.u.put k (nPop v) []
    match u.microDest k m (nDest v) r with
    | none => .ended ((s.onU fun _ => u).microStack k m (nDest v == 9))
    | some x =>
      let inc := match nInc v with | 0 => 0 | 1 => 1 | 2 => 2 | _ => 4
      let m := { x.1 with mar := w32 (x.1.mar + inc), uc := if nUc v = 1 then x.1.uc - 1 else x.1.uc }
      .next m (s.onU fun _ => x.2)

/-- R316: a nanoword's actions in their order. -/
def State.nano (s : State) (k : Nat) (m : Micro) (v lit : Nat) : MicroStep :=
  match s.u.microSrc k m lit (nA v), s.u.microSrc k m lit (nB v) with
  | some a, some b =>
    let op := nAlu v
    let o : AluOut := if op = 1 then plain a else if op = 2 then plain b else alu op a b (s.u.is (Reg.CORE_STATUS.C k))
    let s := if op ≠ 0 ∧ nFlagw v then s.onU fun u => u.setFlags k o else s
    let mar := m.mar
    match s.microMem k m (nMem v) with
    | .misaligned => .ended (s.microAlign k m (memShape (nMem v)).2.1 (memShape (nMem v)).2.2 mar)
    | .wake d => .wake d
    | .done code x s =>
      if code ≠ respOk then .ended (s.microBus k m (memShape (nMem v)).2.1 (memShape (nMem v)).2.2 code mar)
      else
        let m := if op = 0 then m else { m with zr := o.r == 0, ng := bit o.r 31 }
        s.nanoRest k { m with mdr := memMdr (nMem v) x m.mdr } v o.r
  | _, _ => .ended (s.microStack k m false)

/-! ## Sequencing (R311 to R314) -/

/-- Native conditions. -/
def Units.microCond (u : Units) (k : Nat) (m : Micro) (c : Nat) : Bool :=
  match c with
  | 0 => true | 1 => m.zr | 2 => !m.zr | 3 => m.ng | 4 => !m.ng
  | 5 => u.is (Reg.CORE_STATUS.C k) | 6 => !u.is (Reg.CORE_STATUS.C k)
  | 7 => u.is (Reg.CORE_STATUS.V k) | 8 => !u.is (Reg.CORE_STATUS.V k)
  | 9 => m.uc == 0 | _ => m.uc != 0

/-- Dorgen conditions 2 to 7. -/
def Units.dorgenCond (u : Units) (k : Nat) (m : Micro) (c : Nat) : Bool :=
  match c with
  | 2 => m.zr | 3 => !m.zr | 4 => m.ng | 5 => u.is (Reg.CORE_STATUS.C k) | 6 => u.is (Reg.CORE_STATUS.V k) | _ => m.uc == 0

/-- A branch micro-operation: where it goes. -/
def Units.microBranch (u : Units) (k : Nat) (m : Micro) (w : Nat) : Micro :=
  let on := u.microCond k m (mCond w)
  let next := m.addr + 1
  match mOp w with
  | 0 => { m with addr := if on then mTarget w else next }
  | 1 => if on then { m with addr := mTarget w, mret := next } else { m with addr := next }
  | 2 => { m with addr := if on then m.mret else next }
  | _ =>
    if m.uc = 0 then { m with addr := next }
    else { m with uc := m.uc - 1, addr := if m.uc - 1 = 0 then next else mTarget w }

/-- Where an execute microword goes: 0 on, 1 to an interruption point, 2 the routine is complete. -/
def Units.microGoes (u : Units) (k : Nat) (m : Micro) (w : Nat) : Nat × Micro :=
  if m.dorgen then
    match dCond w with
    | 0 => (0, { m with addr := dNext w })
    | 8 => (1, { m with addr := dNext w })
    | 1 => (2, m)
    | c => (0, { m with addr := dNext w / 2 * 2 + b2n (u.dorgenCond k m c) })
  else (if mEnd w then 2 else if mIp w then 1 else 0, { m with addr := m.addr + 1 })

/-- Run microwords to the next interruption point, the end or a fault, `tok` tokens having been spent. A span has at most 40
(R320). `none`: a domain must first be woken. -/
def State.microSpan (s : State) (k : Nat) (x : Wcs) : Nat → Nat → Micro → Nat ⊕ State
  | 0, tok, m => .inr (s.microPoint k tok m)
  | n + 1, tok, m =>
    let w := x.word m.addr
    if !m.dorgen && mBranch w then s.microSpan k x n (tok + 1) (s.u.microBranch k m w)
    else
      match s.nano k m ((x.nanoOf (mNano w)).getD 0) (if m.dorgen then 0 else mLit w) with
      | .ended s => .inr s
      | .wake d => .inl d
      | .next m s =>
        let g := s.u.microGoes k m w
        match g.1 with
        | 0 => s.microSpan k x n (tok + 1) g.2
        | 1 => .inr (s.microPoint k (tok + 1) g.2)
        | _ => .inr (s.microEnd k (tok + 1))

/-- A span from a point: a domain met asleep is woken and nothing else happens yet (s0). -/
def State.microGo (s0 : State) (k : Nat) (x : Wcs) (tok : Nat) (m : Micro) (s : State) : State :=
  match s.microSpan k x 41 tok m with
  | .inl d => s0.onU fun u => u.wakeDom d
  | .inr s => s

/-! ## Customer routines (R274, R323, R324) -/

/-- A control-store word fails its check at a fetch. -/
def State.wcsUpset (s : State) (k : Nat) (up : UpsetKind) : State :=
  let n := k / 8
  match up with
  | .clean => s
  | .single => s.onU fun u => u.count (Reg.BSN_WCS_CE.COUNT n) (Reg.BSN_WCS_CE.OVF n)
  | .double =>
    let s := match (s.u.cpuOf k).micro with | some m => s.onU fun u => u.microBack k m | none => s
    let s := s.onU fun u => (u.wcsClear n).wr (Reg.BSN_WCS_STATUS.UE n) 1
    (s.onU fun u => u.latchFault k 0 false false respUncorr (u.pcOf k)).raise k evBus (s.u.pcOf k)

/-- Code 0xF800 + i. `up`: what the check of the first word fetched finds. -/
def State.wcsRun (s : State) (k i : Nat) (up : UpsetKind) : State :=
  let w := 0xF800 + i
  let n := k / 8
  let x := s.u.wcsOf n
  let undef (s : State) : State := (s.onU fun u => u.setMicro k none).raise k evUndef w
  s.microIssue k w
    (fun s =>
      if 64 ≤ k ∨ s.u.wcsState n ≠ wcsReady ∨ ¬ x.isEntry i then undef s
      else if up = .double then s.wcsUpset k up
      else (s.wcsUpset k up).microStart k w (x.kOf i) i (x.fmt i) fun m t => s.microGo k x 2 m t)
    (fun m s =>
      if s.u.wcsState n ≠ wcsReady ∧ s.u.wcsState n ≠ wcsOpening then undef s
      else if up = .double then s.wcsUpset k up
      else s.microGo k x 0 m (s.wcsUpset k up))

/-! ## Built-in routines (R273, R319) -/

/-- Read units of n bytes at consecutive addresses, in order. -/
def State.microReads (s : State) (k n : Nat) : List Nat → List Nat → Nat ⊕ (List Nat × State) ⊕ (Nat × Nat × State)
  | [], got => .inr (.inl (got.reverse, s))
  | a :: as, got =>
    match s.microLoad k a n with
    | .wake d => .inl d
    | .misaligned => .inr (.inr (respOk, a, s))
    | .done code v s => if code = respOk then s.microReads k n as (v :: got) else .inr (.inr (code, a, s))

/-- Store units of n bytes at the addresses paired with them. -/
def State.microWrites (s : State) (k n : Nat) : List (Nat × Nat) → Nat ⊕ State ⊕ (Nat × Nat × State)
  | [] => .inr (.inl s)
  | p :: ps =>
    match s.microStore k p.1 n p.2 with
    | .wake d => .inl d
    | .misaligned => .inr (.inr (respOk, p.1, s))
    | .done code _ s => if code = respOk then s.microWrites k n ps else .inr (.inr (code, p.1, s))

/-- An access of a built-in fails: misaligned (code 0) or with an error response. -/
def State.builtinFault (s : State) (k : Nat) (m : Micro) (write : Bool) (f : Nat × Nat) : State :=
  if f.1 = respOk then s.microAlign k m 1 write f.2 else s.microBus k m 1 write f.1 f.2

/-- The operands after a chunk, top first: the routine ends when nothing is left, with what it leaves. -/
def State.builtinNext (s : State) (k tok : Nat) (m : Micro) (left : Nat) (ops res : List Nat) : State :=
  if left = 0 then (s.onU fun u => u.put k m.k res).microEnd k tok
  else (s.onU fun u => u.put k m.k ops).microPoint k tok m

/-- An interruptible built-in: its fixed tokens at entry, then one chunk. -/
def State.builtin (s : State) (k w kk fixed : Nat) (chunk : State → Nat → Micro → State → State) : State :=
  s.microIssue k w
    (fun s => s.microStart k w kk 0 false fun m t => chunk s fixed m t)
    (fun m s => chunk s 0 m s)

/-- Consecutive addresses, n bytes apart. -/
def addrs (a n count : Nat) : List Nat := (List.range count).map fun i => w32 (a + n * i)

/-- The chunk MOVE takes next: its length, and whether it comes from the end of the ranges. -/
def moveChunk (src dst n : Nat) : Nat × Bool :=
  let up := w32 (dst + 2 ^ 32 - src)
  let down := w32 (src + 2 ^ 32 - dst)
  let c := min 32 n
  if up ≠ 0 ∧ up < n then (min c up, true) else if down ≠ 0 ∧ down < n then (min c down, false) else (c, false)

/-- MOVE: one chunk is read whole and then stored. -/
def State.moveStep (s0 : State) (k tok : Nat) (m : Micro) (s : State) : State :=
  let l := s.u.tops k 3
  let n := l.getD 0 0
  let dst := l.getD 1 0
  let src := l.getD 2 0
  let c := moveChunk src dst n
  let off := if c.2 then n - c.1 else 0
  let unit := if w32 (src + off) % 4 = 0 ∧ w32 (dst + off) % 4 = 0 ∧ c.1 % 4 = 0 then 4 else 1
  let cost := 2 * ((n + 3) / 4) - 2 * ((n - c.1 + 3) / 4)
  match s.microReads k unit (addrs (src + off) unit (c.1 / unit)) [] with
  | .inl d => s0.onU fun u => u.wakeDom d
  | .inr (.inr f) => f.2.2.builtinFault k m false (f.1, f.2.1)
  | .inr (.inl r) =>
    match r.2.microWrites k unit ((addrs (dst + off) unit (c.1 / unit)).zip r.1) with
    | .inl d => s0.onU fun u => u.wakeDom d
    | .inr (.inr f) => f.2.2.builtinFault k m true (f.1, f.2.1)
    | .inr (.inl s) =>
      let fwd := if c.2 then 0 else c.1
      s.builtinNext k (tok + cost) m (n - c.1) [n - c.1, w32 (dst + fwd), w32 (src + fwd)] []

/-- FILL: up to eight words. -/
def State.fillStep (s0 : State) (k tok : Nat) (m : Micro) (s : State) : State :=
  let l := s.u.tops k 3
  let n := l.getD 0 0
  let v := l.getD 1 0
  let d := l.getD 2 0
  let c := min 8 n
  match s.microWrites k 4 ((addrs d 4 c).map fun a => (a, v)) with
  | .inl w => s0.onU fun u => u.wakeDom w
  | .inr (.inr f) => f.2.2.builtinFault k m true (f.1, f.2.1)
  | .inr (.inl s) => s.builtinNext k (tok + c) m (n - c) [n - c, v, w32 (d + 4 * c)] []

/-- CRC32C: up to eight bytes. -/
def State.crc32cStep (s0 : State) (k tok : Nat) (m : Micro) (s : State) : State :=
  let l := s.u.tops k 3
  let n := l.getD 0 0
  let a := l.getD 1 0
  let c := min 8 n
  match s.microReads k 1 (addrs a 1 c) [] with
  | .inl d => s0.onU fun u => u.wakeDom d
  | .inr (.inr f) => f.2.2.builtinFault k m false (f.1, f.2.1)
  | .inr (.inl r) =>
    let x := (r.1.foldl crc32cByte (BitVec.ofNat 32 (l.getD 2 0))).toNat
    r.2.builtinNext k (tok + c) m (n - c) [n - c, w32 (a + c), x] [x]

/-- CRC64: up to four bytes. -/
def State.crc64Step (s0 : State) (k tok : Nat) (m : Micro) (s : State) : State :=
  let l := s.u.tops k 4
  let n := l.getD 0 0
  let a := l.getD 1 0
  let c := min 4 n
  match s.microReads k 1 (addrs a 1 c) [] with
  | .inl d => s0.onU fun u => u.wakeDom d
  | .inr (.inr f) => f.2.2.builtinFault k m false (f.1, f.2.1)
  | .inr (.inl r) =>
    let x := (r.1.foldl crc64Byte (BitVec.ofNat 64 (l.getD 3 0 + l.getD 2 0 * 2 ^ 32))).toNat
    r.2.builtinNext k (tok + 2 * c) m (n - c) [n - c, w32 (a + c), x / 2 ^ 32, w32 x] [x / 2 ^ 32, w32 x]

/-- A built-in without an interruption point. -/
def State.builtinPure (s : State) (k w kk tok : Nat) (f : Units → List Nat → List Nat × Units) : State :=
  s.microIssue k w
    (fun s => s.microStart k w kk 0 false fun _ t =>
      let r := f t.u (t.u.tops k kk)
      (t.onU fun _ => r.2.put k kk r.1).microEnd k tok)
    (fun _ s => s)

/-- The integer square root of a word. -/
def isqrt (a : Nat) : Nat := (List.range 16).foldl (fun r i => let t := r + 2 ^ (15 - i); if t * t ≤ a then t else r) 0

/-! ## Meanings -/

def execWcsEntry (k i : Nat) (up : UpsetKind) (s : State) : Host.Outcome State Fault Refusal :=
  s.runS (coreOk k && decide (i < 256)) fun s => s.wcsRun k i up
def execMove (k : Nat) (s : State) : Host.Outcome State Fault Refusal :=
  s.runS (coreOk k) fun s => s.builtin k 0xF000 3 10 fun s0 tok m t => s0.moveStep k tok m t
def execFill (k : Nat) (s : State) : Host.Outcome State Fault Refusal :=
  s.runS (coreOk k) fun s => s.builtin k 0xF001 3 8 fun s0 tok m t => s0.fillStep k tok m t
def execCrc32c (k : Nat) (s : State) : Host.Outcome State Fault Refusal :=
  s.runS (coreOk k) fun s => s.builtin k 0xF002 3 8 fun s0 tok m t => s0.crc32cStep k tok m t
def execCrc64 (k : Nat) (s : State) : Host.Outcome State Fault Refusal :=
  s.runS (coreOk k) fun s => s.builtin k 0xF003 4 8 fun s0 tok m t => s0.crc64Step k tok m t
def execSqrtu (k : Nat) (s : State) : Host.Outcome State Fault Refusal :=
  s.runS (coreOk k) fun s => s.builtinPure k 0xF004 1 20 fun u l => ([isqrt (l.getD 0 0)], u)
/-- R273: MULQ; V says whether the result was saturated. -/
def execMulq (k : Nat) (s : State) : Host.Outcome State Fault Refusal :=
  s.runS (coreOk k) fun s => s.builtinPure k 0xF005 3 6 fun u l =>
    let x := roundShift (sgn (l.getD 2 0) * sgn (l.getD 1 0)) (l.getD 0 0 % 32)
    ([wd (satS32 x)], u.wrb (Reg.CORE_STATUS.V k) (!inS32 x))

end Sys2Proof.Machine
end

