-- ==== Sys2Proof/Machine/Thermal.lean ====
section
/-! DEFINITION. The thermal envelope, its governors and the thermal trip (22_connectors_electrical.md R528 to R537). -/
namespace Sys2Proof.Machine

/-- A temperature register's signed value in degrees Celsius. -/
def Units.celsius (u : Units) (f : Fld) : Int := toInt 8 (u.rd f)

/-- P > P_max(T_B) (R528, R530), the load in units of 10 mW: 88 W up to 75 degrees, 3.2 W less for each degree above, and no
load at all above 95 degrees. -/
def overEnvelope (load : Nat) (tb : Int) : Bool :=
  if tb ≤ 75 then decide (8800 < load) else if tb ≤ 95 then decide (8800 - 320 * (tb - 75) < (load : Int)) else true

/-- R531: one basin's thermal ceiling code, with the milliseconds it has spent at 115 degrees or below. -/
def Units.governBasin (u : Units) (n : Nat) : Units :=
  let tj := u.celsius (Reg.BSN_TJ.TEMP n)
  let code := SMap.get 100 u.pwr.tcode n
  let cool := SMap.get 0 u.pwr.cool n
  let set (code cool : Nat) : Units :=
    { u with pwr := { u.pwr with tcode := SMap.set 100 u.pwr.tcode n code, cool := SMap.set 0 u.pwr.cool n cool } }
  if 120 ≤ tj then set (code - 1) 0
  else if tj ≤ 115 then
    if code < 100 ∧ 10 ≤ cool + 1 then set (code + 1) 0 else set code (if code < 100 then cool + 1 else 0)
  else set code 0

/-- PWR_THERM.STATE and PWR_THERM_CEIL.GOV as the governors stand. -/
def Units.thermSync (u : Units) : Units :=
  let gov := (u.basins.map fun n => b2n (decide (SMap.get 100 u.pwr.tcode n < 100)) * 2 ^ n).sum
  let st := if gov ≠ 0 ∨ u.rsv.nandHold then 2 else b2n (overEnvelope (u.rd Reg.PWR_INPUT.LOAD) (u.celsius Reg.PWR_THERM.BASE_T))
  (u.wr Reg.PWR_THERM_CEIL.GOV gov).wr Reg.PWR_THERM.STATE st

/-- R531: the evaluation of every millisecond, with the temperatures measured. -/
def Units.govern (u : Units) (baseT nandT resT : Nat) : Units :=
  let u := ((u.wr Reg.PWR_THERM.BASE_T baseT).wr Reg.PWR_THERM.NAND_T nandT).wr Reg.PWR_THERM.RES_T resT
  ((u.each u.basins Units.governBasin).thermSync).ceilSync

/-- R532: the commit rate is held at half from 100 degrees until the NAND falls to 95. -/
def Units.nandThermal (u : Units) : Units :=
  let t := u.celsius Reg.PWR_THERM.NAND_T
  let hold : Bool := if 100 ≤ t then true else if t ≤ 95 then false else u.rsv.nandHold
  { u with rsv := { u.rsv with nandHold := hold } }.rsvSync.thermSync

/-- R533: a junction has been at 128 degrees for 10 ms, or T_B at 105 for 1 s: a thermal trip, outside a flush or drain and
outside the power states. BSN_TJ.TEMP, signed in eight bits, cannot read 128, so the command itself tells that the condition
holds (DEDUCED; log entry 5). -/
def State.thermalTrip (s : State) : State :=
  if s.u.awake ∧ s.u.pwr.flush = 0 ∧ s.u.pwr.drain.isNone then
    (s.onU fun u =>
      let u := (u.wr Reg.PWR_THERM.TRIPPED 1).count Reg.PWR_THERM_TRIPS.COUNT Reg.PWR_THERM_TRIPS.OVF
      { u with pwr := { u.pwr with hot := true } }).supplyLoss
  else s

/-! ## Meanings -/

def execThermalGovernor (baseT nandT resT : Nat) (s : State) : Host.Outcome State Fault Refusal :=
  s.run true fun u => if u.awake then u.govern baseT nandT resT else u
def execNandThermalHold (s : State) : Host.Outcome State Fault Refusal := s.run true Units.nandThermal
def execThermalTrip (s : State) : Host.Outcome State Fault Refusal := s.runS true State.thermalTrip

end Sys2Proof.Machine
end

