-- ==== Sys2Proof/Machine/Release.lean ====
section
/-! DEFINITION. Start-up: trim, the choice of a firmware slot, and the release order (21_reset.md R504 to R506,
17_steward_and_sessions.md R437, 18_persistent_config.md R445). -/
namespace Sys2Proof.Machine

/-! ## Trim (R505) -/

def Part.ofCode : Nat → Option Part
  | 0x7240 => some .swk7240 | 0x7220 => some .swk7220 | 0x7210 => some .swk7210 | _ => none

/-- The report of the trim-fault state. -/
def trimReport (cause : Nat) : List Nat :=
  [0x53, 0x57, 0x4B, 0x58] ++ leBytes 2 1 ++ leBytes 2 cause ++ leBytes 4 3 ++ leBytes 4 (Config.romVersion % 2 ^ 32)

/-- A load passed from copy A or copy B. -/
def Units.trimmed (u : Units) (p : Part) (stepping : Nat) (fromB : Bool) : Units :=
  let u := u.wrb Reg.RST_CAUSE.TRIM_B fromB
  { u with census := { part := p, stepping := stepping }, pwr := { u.pwr with loaded := true, trimWait := false } }

/-- A failed load: the first two are retried, the third leaves the module in trim fault. -/
def Units.trimFailed (u : Units) (cause : Nat) : Units :=
  let n := u.rd Reg.RST_CAUSE.TRIM_FAILS
  if n < 2 then { u with pwr := { u.pwr with trimWait := true } }.wr Reg.RST_CAUSE.TRIM_FAILS (n + 1)
  else { u with pwr := { u.pwr with trimWait := false, trimFault := cause } }

/-- One load: whether the store responded, and whether copies A and B passed their check. -/
def Units.trimLoad (u : Units) (copyA copyB resp : Bool) (p : Part) (stepping : Nat) : Units :=
  if ¬ resp then u.trimFailed 2
  else if copyA then u.trimmed p stepping false
  else if copyB then u.trimmed p stepping true else u.trimFailed 1

/-- Release step 3 is in progress and its load is due: the first one, or a retry. -/
def Units.trimDue (u : Units) (retry : Bool) : Bool :=
  u.awake && u.rd Reg.RST_STATUS.STEP == 2 && !u.pwr.loaded && u.pwr.trimFault == 0 && u.pwr.trimWait == retry

/-- Every second in trim fault, the service port sends the report. -/
def Units.trimFaultReport (u : Units) : Units :=
  if u.awake ∧ u.pwr.trimFault ≠ 0 then u.send (.trimFault (trimReport u.pwr.trimFault)) else u

/-! ## Choosing a firmware slot (17_steward_and_sessions.md R437) -/

/-- The image in a slot. -/
def Units.fwSlot (u : Units) (i : Nat) : FwSlot :=
  (SMap.get none u.stw.slots i).getD { version := (Config.slotShipped i).1 % 2 ^ 32, rollback := (Config.slotShipped i).2 % 2 ^ 32 }

/-- Steward firmware starts from a slot. -/
def Units.bootSlot (u : Units) (i : Nat) (trial : Bool) : Units :=
  let u := { u with stw := { u.stw with trial := trial, running := true, bootAt := u.clock } }
  let u := ((u.wr Reg.SES_STATUS.SLOT i).wrb Reg.SES_STATUS.TRIAL trial).wrb Reg.SES_STATUS.FALLBACK u.stw.fellBack
  (u.wr Reg.SES_FWVER.VERSION (u.fwSlot i).version).fpStart

/-- A watchdog reset has ended the trial of slot p. -/
def Units.trialLost (u : Units) (p : Nat) : Units :=
  let u := { u with stw := { u.stw with pending := none, active := 1 - p, trial := false, fellBack := true } }
  sesEvent u 0x06 (u.fwSlot p).version

/-- The slot logic of the steward ROM: `ok i` tells that the image in slot i verifies. -/
def Units.chooseSlot (u : Units) (ok : Nat → Bool) : Units :=
  let ended := u.stw.trial && u.rd Reg.RST_CAUSE.CAUSE == 4
  let u := match u.stw.pending with | some p => if ended then u.trialLost p else u | none => u
  let plain (u : Units) : Units :=
    let a := u.stw.active
    if ok a then u.bootSlot a false
    else if ok (1 - a) then u.bootSlot (1 - a) false
    else ({ u with stw := { u.stw with trial := false, running := true } }.wr Reg.SES_STATUS.RECOVERY 1).wrb Reg.SES_STATUS.FALLBACK u.stw.fellBack
  match u.stw.pending with
  | some p => if ok p then { u with stw := { u.stw with fellBack := false } }.bootSlot p true else plain u
  | none => plain u

/-! ## The start-up list (18_persistent_config.md R445) -/

/-- The addresses R431 permits. -/
def cfgAddr (a : Nat) : Bool :=
  a % 4 == 0 && (decide (0x20000 ≤ a ∧ a < 0x40000) || decide (0x100000 ≤ a ∧ a < 0x1A1000))

/-- One entry under the write rule of R431: whether it was permitted and every access of it returned OK. -/
def State.cfgEntry (s : State) (a mask value : Nat) : Bool × State :=
  if ¬ cfgAddr a then (false, s)
  else
    let s := s.onU fun u => u.ioWake 64 a
    if mask = 2 ^ 32 - 1 then let w := s.ioWrite 64 a value; (w.1 == respOk, w.2)
    else
      let r := s.ioRead 64 a
      if r.1 ≠ respOk then (false, r.2.2)
      else
        let v := (r.2.1 &&& (2 ^ 32 - 1 - mask)) ||| (value &&& mask)
        let w := r.2.2.ioWrite 64 a v
        (w.1 == respOk, w.2)

/-- Entries in order until one stops: the index of the one that did. -/
def State.cfgEntries (s : State) : List (Nat × Nat × Nat) → Nat → Option Nat × State
  | [], _ => (none, s)
  | e :: es, j =>
    let r := s.cfgEntry e.1 e.2.1 e.2.2
    if r.1 then r.2.cfgEntries es (j + 1) else (some j, r.2)

/-- The start-up list is applied. -/
def State.startList (s : State) : State :=
  let w := s.u.pstWord
  let n := w 0x100
  if 1265 < n then s.onU fun u => u.wr Reg.PST_STATUS.LIST_ERR 1
  else
    let r := s.cfgEntries ((List.range n).map fun j => (w (0x101 + 3 * j), w (0x102 + 3 * j), w (0x103 + 3 * j))) 0
    match r.1 with
    | none => r.2
    | some j => r.2.onU fun u => (u.wr Reg.PST_STATUS.LIST_ERR 1).wr Reg.PST_STATUS.LIST_IDX j

/-! ## The release order (R504) -/

/-- Step 5: the time base starts, and the domains whose units are all absent are OFF. -/
def Units.fabricUp (u : Units) : Units :=
  let u := u.startTime
  let u := { u with rsv := { u.rsv with startAt := u.now } }
  let gone (d : Nat) : Bool :=
    if 15 ≤ d ∧ d ≤ 18 then !u.portPresent (2 * (d - 15)) && !u.portPresent (2 * (d - 15) + 1)
    else if d = 21 then !(List.range 8).any u.camPresent
    else if d = 22 then !(List.range 8).any u.lanePresent else false
  u.each ((List.range 26).filter gone) fun u d => u.wr (Reg.XNG_DOMd.STATE d) domOff

/-- Step 7: the guardians take their permits, the start-up list is applied, and the reservoir begins its recovery. -/
def State.blocksUp (s : State) : State :=
  let s := s.onU fun u => u.each (List.range 12) fun u n => u.permitLoad n
  s.startList.onU fun u => u.wr Reg.RSV_STATUS.STATE rsvRecovering

/-- Step 8: cores whose RELMASK bits are set are released after a Deep sleep wake or a warm reset (R506). -/
def State.coresUp (s : State) : State :=
  let c := s.u.rd Reg.RST_CAUSE.CAUSE
  let mask := s.u.rd Reg.RST_RELMASK_LO.CORE + s.u.rd Reg.RST_RELMASK_HI.CORE * 2 ^ 32
  let s := if c = 2 ∨ 4 ≤ c then ((List.range 64).filter fun k => bit mask k).foldl (fun s k => s.coreRelease k) s else s
  s.onU fun u => rstEvent u 0x01 (c + u.pwr.first * 2 ^ 4 + u.rd Reg.RST_CAUSE.TRIM_FAILS * 2 ^ 8)

/-- The step in progress can complete. -/
def Units.stepReady (u : Units) (step : Nat) : Bool :=
  if step = 2 then !(u.pwr.hot && decide (85 ≤ u.celsius Reg.PWR_THERM.BASE_T))
  else if step = 3 then u.pwr.loaded
  else decide (step ≤ 8) && !(decide (5 ≤ step) && u.is Reg.SES_STATUS.RECOVERY)

/-- The step in progress completes: `ok i` tells that firmware slot i verifies. -/
def State.releaseStep (s : State) (ok : Nat → Bool) : State :=
  let step := s.u.rd Reg.RST_STATUS.STEP + 1
  if ¬ s.u.awake ∨ s.u.pwr.flush ≠ 0 ∨ s.u.pwr.drain.isSome ∨ ¬ s.u.stepReady step then s
  else
    let s := match step with
      | 2 => s.onU fun u => { u with pwr := { u.pwr with hot := false } }
      | 4 => s.onU fun u => (u.chooseSlot ok).kick u.clock
      | 5 => s.onU Units.fabricUp
      | 7 => s.blocksUp
      | 8 => s.coresUp
      | _ => s
    s.onU fun u => u.wr Reg.RST_STATUS.STEP step

/-! ## Meanings -/

/-- The two load commands name a part code and a stepping a part can have. -/
def trimOperands (part stepping : Nat) : Bool := (Part.ofCode part).isSome && decide (1 ≤ stepping ∧ stepping < 256)

def execTrimLoad (copyA copyB resp : Bool) (part stepping : Nat) (s : State) : Host.Outcome State Fault Refusal :=
  s.run (trimOperands part stepping) fun u =>
    if u.trimDue false then u.trimLoad copyA copyB resp ((Part.ofCode part).getD .swk7240) stepping else u
def execTrimRetry (copyA copyB resp : Bool) (part stepping : Nat) (s : State) : Host.Outcome State Fault Refusal :=
  s.run (trimOperands part stepping) fun u =>
    if u.trimDue true then u.trimLoad copyA copyB resp ((Part.ofCode part).getD .swk7240) stepping else u
def execTrimFaultReport (s : State) : Host.Outcome State Fault Refusal := s.run true Units.trimFaultReport
def execReleaseStepDone (verify0 verify1 : Bool) (s : State) : Host.Outcome State Fault Refusal :=
  s.runS true fun s => s.releaseStep fun i => if i = 0 then verify0 else verify1

end Sys2Proof.Machine
end

