-- ==== Sys2Proof/Machine/Twin.lean ====
section
/-! DEFINITION. Twin mode: partner presence, the pair, the angle-sync wire, and what crosses the twin link
(16_networks.md R409, R410; 19_twin_mode.md R453 to R476). -/
namespace Sys2Proof.Machine

def twnEvent (u : Units) (kind pay : Nat) : Units := u.emit 0xB004 kind pay
def Units.pairRole (u : Units) : Nat := u.rd Reg.TWN_PAIR.ROLE
def ownUnit : Nat := Config.unit % 2 ^ 32

/-- Engines of a mask. -/
def maskEngines (m : Nat) : List Nat := (List.range 4).filter fun n => bit m n
/-- The engines this follower slaves. -/
def Units.slaved (u : Units) : List Nat := (maskEngines (u.rd Reg.TWN_PAIR.ENGMASK)).filter fun n => u.angState n == stSlaved

/-- CYCMASK: bit n is ANG_CTRL.CYCLE of each engine of a mask (R474). -/
def Units.cycMask (u : Units) (m : Nat) : Nat := ((maskEngines m).map fun n => b2n (u.is (Reg.ANG_CTRL.CYCLE n)) * 2 ^ n).sum

/-- Send a twin-control frame (R474). -/
def Units.twinControl (u : Units) (op : Nat) (fields : List Nat) : Units := u.twinSend 0x02 ([op, 0, 0, 0] ++ fields)

/-- JOIN for a mask, with the present log session (R474). -/
def Units.sendJoin (u : Units) (mask : Nat) : Units :=
  let u := { u with pair := { u.pair with asked := some mask } }
  u.twinControl 0x01 (leBytes 4 ownUnit ++ leBytes 4 u.lsess ++ [mask, u.cycMask mask, 0, 0])

/-- ACCEPT with a status (R474). -/
def Units.sendAccept (u : Units) (status : Nat) : Units := u.twinControl 0x02 (leBytes 2 status)

/-- ACCEPT once the group with a token has committed: at once where there is nothing to wait for. -/
def Units.owe (u : Units) (tok : Option Nat) : Units :=
  match tok, u.pair.owed.getLast? with
  | none, none => u.sendAccept 0
  | none, some t => { u with pair := { u.pair with owed := u.pair.owed ++ [t] } }
  | some t, _ => { u with pair := { u.pair with owed := u.pair.owed ++ [t] } }.twinOwed

/-! ## Leaving (R471, R473) -/

/-- The module becomes standalone, with LEFT and its cause. -/
def Units.alone (u : Units) (cause : Nat) : Units :=
  let u := (((u.wr Reg.TWN_PAIR.ROLE 0).wr Reg.TWN_PAIR.ATTACHED 0).wr Reg.TWN_PAIR.ENGMASK 0).wr Reg.TWN_PAIR.WAIT 0
  let u := ((u.wr Reg.TWN_PARTNER_UNIT.UNIT 0).wr Reg.TWN_SYNC_STATUS.LOCK 0).wr Reg.TWN_SYNC_STATUS.DRIVE 0
  let u := { u with pair := { fseq := u.pair.fseq, owed := u.pair.owed, ftag := u.pair.ftag } }
  twnEvent u 0x04 cause

/-- R471: a follower leaves: its span ends, its slaved engines and its source are released. -/
def Units.followerLeave (u : Units) (cause : Nat) : Option Nat × Units :=
  let r := u.logEnd false
  let u := r.2.each (maskEngines (r.2.rd Reg.TWN_PAIR.ENGMASK)) fun u n => u.angDisable n
  let old := u.rd Reg.TIM_CTRL.SRC
  let u := (u.wr Reg.TIM_CTRL.SRC 0).srcChanged old
  let u := { u with stw := { u.stw with boxes := [], longs := u.stw.longs.map LongCmd.orphaned } }
  (r.1, u.alone cause)

/-! ## Presence (16_networks.md R409; R472, R473) -/

/-- The HELLO heard is the partner's: any while standalone, the pair's otherwise (R472). -/
def Units.partnerSeen (u : Units) : Bool :=
  match u.twl.hello with
  | none => false
  | some h => u.pairRole == 0 || (h.1 == u.rd Reg.TWN_PARTNER_UNIT.UNIT && h.2.1 == u.census.part.code)

/-- PARTNER follows the lanes and the last HELLO. A module that is standalone, or hears one that is, takes the order of
frames from its HELLO. -/
def Units.presence (u : Units) : Units :=
  match u.twl.hello with
  | none => u
  | some h =>
    if u.freeLane = 2 then u
    else if ¬ u.partnerSeen then u.partnerLost
    else
      let u := u.wr Reg.TWN_STATUS.PART h.2.1
      if u.is Reg.TWN_STATUS.PARTNER then u
      else
        let fresh := u.pairRole == 0 || h.2.2.1 == 0
        let u := if fresh then { u with twl := { u.twl with acked := (u.twl.helloSeq + 65535) % 65536 } } else u
        (u.wr Reg.TWN_STATUS.PARTNER 1).emit 0x9031 0x03 1

/-- What the partner's HELLO means to a pair: a restarted follower is asked again; a leader that has left releases its
follower. -/
def Units.pairHello (u : Units) : Units :=
  match u.twl.hello with
  | none => u
  | some h =>
    if ¬ u.is Reg.TWN_STATUS.PARTNER then u
    else if u.pairRole = 1 then
      if h.2.2.1 = 0 ∧ u.pair.asked.isNone then u.sendJoin (u.rd Reg.TWN_PAIR.ENGMASK) else u
    else if u.pairRole = 2 then
      if h.2.2.1 = 1 ∧ h.2.2.2 = ownUnit then u else (u.followerLeave 2).2
    else u

/-- R409: a lane gains FEC lock and has exchanged a HELLO. -/
def Units.twinLaneUp (u : Units) (l : Nat) : Units :=
  let lanes := u.rd Reg.TWN_STATUS.LANEUP
  if ¬ u.is Reg.TWN_CFG.EN ∨ ¬ bit (u.rd Reg.TWN_CFG.LANES) l ∨ bit lanes l then u
  else
    let u := { u with twl := { u.twl with missed := u.twl.missed.set l 0 } }
    let u := (u.wr Reg.TWN_STATUS.LANEUP (lanes + 2 ^ l)).emit 0x9031 0x01 l
    u.presence.pairHello.twinResume

/-- The payload of this module's HELLO (R474). -/
def Units.helloBytes (u : Units) : List Nat :=
  leBytes 4 ownUnit ++ leBytes 2 u.census.part.code ++ [u.pairRole, 0] ++ leBytes 4 (u.rd Reg.TWN_PARTNER_UNIT.UNIT)

/-- Every 10 ms a HELLO goes out on each enabled lane. It has no place in the order of frames: its SEQ is that of the
oldest frame not yet acknowledged. -/
def Units.helloTimer (u : Units) : Units :=
  let seq := match u.twl.unacked with | f :: _ => f.seq | [] => u.twl.seq
  if u.is Reg.TWN_CFG.EN then
    u.each ((List.range 2).filter fun l => bit (u.rd Reg.TWN_CFG.LANES) l) fun u l =>
      u.send (.twinFrame l (twinBytes 0x01 seq u.twl.acked u.helloBytes))
  else u

/-- A HELLO is missed on a lane; the third in a row takes it down. -/
def Units.helloMiss (u : Units) (l : Nat) : Units :=
  let n := u.twl.missed.getD l 0 + 1
  let u := { u with twl := { u.twl with missed := u.twl.missed.set l n } }
  if 3 ≤ n then u.twinLaneDown l else u

/-! ## Receiving frames (16_networks.md R410) -/

/-- Parts of a received frame: TYPE, SEQ, ACK, payload. -/
structure TwinRx where
  type : Nat
  seq : Nat
  ack : Nat
  payload : List Nat
  deriving DecidableEq, Repr

/-- The fields of a frame whose length and CRC hold. -/
def twinParse (b : List Nat) : Option TwinRx :=
  let n := b.length - 4
  if b.length < 12 ∨ leNat ((b.drop 4).take 2) ≠ n - 8 ∨ leNat (b.drop n) ≠ crc32c (b.take n) then none
  else some ⟨b.getD 0 0, leNat ((b.drop 2).take 2), leNat ((b.drop 6).take 2), (b.take n).drop 8⟩

/-- Frames up to ACK have arrived. -/
def Units.twinAck (u : Units) (ack : Nat) : Units :=
  { u with twl := { u.twl with unacked := u.twl.unacked.filter fun f => !decide ((ack + 65536 - f.seq) % 65536 < 32768) } }

/-- TWN_BADTYPE counts. -/
def Units.badType (u : Units) : Units := u.count Reg.TWN_BADTYPE.COUNT Reg.TWN_BADTYPE.OVF

/-- A reserved TYPE, or a reserved OP of twin control (R474). -/
def twinReserved (f : TwinRx) : Bool :=
  !(decide (1 ≤ f.type ∧ f.type ≤ 6)) || (f.type == 2 && !(decide (1 ≤ f.payload.getD 0 0 ∧ f.payload.getD 0 0 ≤ 7)))

/-- A frame arrives on a lane, as the row for TYPE and OP `row` describes: an error is counted, a frame out of order is
left to its retry, and what is in order is delivered. -/
def Units.twinArrive (u : Units) (l : Nat) (b : List Nat) (row : TwinRx → Bool) (k : List Nat → Units → Units) : Units :=
  match twinParse b with
  | none => u.count Reg.TWN_CRCERR.COUNT Reg.TWN_CRCERR.OVF
  | some f =>
    if ¬ (row f || twinReserved f) ∨ ¬ u.laneUp l then u
    else
      let u := u.twinAck f.ack
      if f.seq ≠ (u.twl.acked + 1) % 65536 then u
      else
        let u := { u with twl := { u.twl with acked := f.seq } }
        if twinReserved f then u.badType else k f.payload u

def isType (t : Nat) (f : TwinRx) : Bool := f.type == t
def isOp (op : Nat) (f : TwinRx) : Bool := f.type == 2 && f.payload.getD 0 0 == op

/-- A HELLO arrives (R474): it stands outside the order of frames. -/
def Units.helloRx (u : Units) (l : Nat) (b : List Nat) : Units :=
  match twinParse b with
  | none => u.count Reg.TWN_CRCERR.COUNT Reg.TWN_CRCERR.OVF
  | some f =>
    if f.type ≠ 1 ∨ ¬ u.is Reg.TWN_CFG.EN ∨ ¬ bit (u.rd Reg.TWN_CFG.LANES) l then u
    else
      let p := f.payload
      let h := (leNat (p.take 4), leNat ((p.drop 4).take 2), p.getD 6 0, leNat ((p.drop 8).take 4))
      let u := { u with twl := { u.twl with missed := u.twl.missed.set l 0, hello := some h, helloSeq := f.seq } }
      (if u.laneUp l then u.twinAck f.ack else u).presence.pairHello

/-- R434: a relayed frame reaches the follower, or a response the leader. -/
def Units.relayRx (p : List Nat) (u : Units) : Units :=
  if u.pairRole = 2 then u.mailboxRx 2 0 0 p
  else if u.pairRole = 1 then
    let g := mailboxFrame 2 0 0 p
    let same (f : MbFrame) : Bool := f.mbox == g.mbox && f.seq == g.seq && f.tag == g.tag && f.cmd == g.cmd
    match u.pair.relays.find? same with
    | some f => { u with pair := { u.pair with relays := u.pair.relays.erase f } }.mailboxReply f p
    | none => u
  else u

/-- R410: queue data: the queue number, then the frame. -/
def Units.queueDataRx (p : List Nat) (u : Units) : Units :=
  if p.getD 0 0 < 4 ∧ 2 ≤ p.length then u.queueRx true (p.getD 0 0) 0 0 (p.drop 1) else u

/-- R470: an entry of the partner; 64 pending are admitted at once. -/
def Units.indexRx (p : List Nat) (u : Units) : Units :=
  if u.pairRole = 0 then u
  else
    let u := { u with rsv := { u.rsv with index := u.rsv.index ++ [p] } }
    if 64 ≤ u.rsv.index.length then u.indexAdmit else u

/-! ## Joining (R457) -/

/-- The follower's part: refused, or the five steps. -/
def Units.joinRx (p : List Nat) (u : Units) : Units :=
  let unit := leNat ((p.drop 4).take 4)
  let lsess := leNat ((p.drop 8).take 4)
  let mask := p.getD 12 0 % 16
  let cyc := p.getD 13 0
  if u.pairRole ≠ 0 ∨ u.is Reg.SES_STATUS.OPEN ∨ u.lsess ≠ 0 then u.sendAccept sState
  else
    let u := ((u.wr Reg.TWN_PAIR.ROLE 2).wr Reg.TWN_PAIR.ATTACHED 0).wr Reg.TWN_PAIR.ENGMASK mask
    let u := u.wr Reg.TWN_PARTNER_UNIT.UNIT unit
    let u := u.each (maskEngines mask) fun u n =>
      (((u.angDisable n).wr (Reg.ANG_CTRL.MODE n) 4).wrb (Reg.ANG_CTRL.CYCLE n) (bit cyc n)).angEnable n
    let old := u.rd Reg.TIM_CTRL.SRC
    let u := (u.wr Reg.TIM_CTRL.SRC 4).srcChanged old
    let u := if lsess ≠ 0 ∧ u.openVol.isNone then u.volCreate.2 else u
    let u := match u.logVol with
      | some v => if lsess = 0 then u else u.logOpen v lsess
      | none => u.wr Reg.RSV_LSESS.LSESS lsess
    u.sendAccept 0

/-- A long command whose follower has answered: the leader's own part follows an acceptance, since a refusal changes no
state (17_steward_and_sessions.md R420). -/
def Units.longPeer (u : Units) (l : LongCmd) (status : Nat) : LongCmd × Units :=
  if status ≠ 0 then ({ l with peer := 2 }, u)
  else if l.frame.cmd = 0x0070 ∨ l.frame.cmd = 0x0071 then ({ l with peer := 0 }, u)
  else
    let r := u.ownPart l.frame.cmd
    match r.1 with
    | some (t, vals) => ({ l with peer := 0, token := t, vals := vals }, r.2)
    | none => ({ l with peer := 2 }, r.2)

/-- The first long command that waits for the follower's ACCEPT takes its answer: a TWIN_JOIN, or another. -/
def Units.longAccept (u : Units) (join : Bool) (status : Nat) : Units :=
  match u.stw.longs.find? fun l => l.peer == 1 && (l.frame.cmd == 0x0070) == join with
  | some l =>
    let r := u.longPeer l status
    { r.2 with stw := { r.2.stw with longs := r.2.stw.longs.map fun x => if x = l then r.1 else x } }
  | none => u

/-- ACCEPT at the leader: the answer to its JOIN, or to a PAIRCMD or LEAVE. -/
def Units.acceptRx (p : List Nat) (u : Units) : Units :=
  let status := leNat ((p.drop 4).take 2)
  match u.pair.asked with
  | none => u.longAccept false status
  | some mask =>
    let u := { u with pair := { u.pair with asked := none } }.longAccept true status
    if status ≠ 0 then (if u.pairRole = 1 then u.alone 1 else u)
    else
      let unit := match u.twl.hello with | some h => h.1 | none => u.rd Reg.TWN_PARTNER_UNIT.UNIT
      let u := ((u.wr Reg.TWN_PAIR.ROLE 1).wr Reg.TWN_PAIR.ENGMASK mask).wr Reg.TWN_PARTNER_UNIT.UNIT unit
      let u := (u.wr Reg.TWN_PAIR.ATTACHED 0).wr Reg.TWN_SYNC_STATUS.DRIVE 1
      twnEvent { u with pair := { u.pair with joinedAt := u.clock } } 0x01 (1 + mask * 2 ^ 4)

/-- R474: STATE, every 100 ms. -/
def Units.stateTx (u : Units) : Units :=
  if u.is Reg.TWN_STATUS.PARTNER then
    u.twinControl 0x03 [u.pairRole, u.rd Reg.TWN_PAIR.ATTACHED, u.pairWait,
      if u.pairRole = 1 then u.cycMask (u.rd Reg.TWN_PAIR.ENGMASK) else 0]
  else u

/-- STATE arrives: the leader shows its follower's state; the follower takes over a changed cycle length (R465). -/
def Units.stateRx (p : List Nat) (u : Units) : Units :=
  if u.pairRole = 1 ∧ p.getD 4 0 = 2 then (u.wr Reg.TWN_PAIR.ATTACHED (p.getD 5 0)).wr Reg.TWN_PAIR.WAIT (p.getD 6 0)
  else if u.pairRole = 2 ∧ p.getD 4 0 = 1 then
    u.each (maskEngines (u.rd Reg.TWN_PAIR.ENGMASK)) fun u n =>
      if u.is (Reg.ANG_CTRL.CYCLE n) == bit (p.getD 7 0) n then u
      else (((u.angDisable n).wrb (Reg.ANG_CTRL.CYCLE n) (bit (p.getD 7 0) n))).angEnable n
  else u

/-- R450: every 100 ms, while the partner is present. -/
def Units.fpSend (u : Units) : Units :=
  if u.is Reg.TWN_STATUS.PARTNER then u.twinControl 0x04 (leBytes 8 u.fpNow ++ leBytes 4 u.genNow) else u

/-- R450, R459: a fingerprint arrives; a comparison that finds a mismatch detaches. -/
def Units.fprintRx (stale : Bool) (p : List Nat) (u : Units) : Units :=
  let skip := stale || u.is Reg.PST_STATUS.STALE
  let u := u.fpCompare (leNat ((p.drop 4).take 8)) (leNat ((p.drop 12).take 4)) stale
  if !skip && u.pst.lastCmp == some false then u.twinDetach 1 else u

/-- DELAY at the follower (R463). -/
def Units.delayRx (p : List Nat) (u : Units) : Units :=
  if u.pairRole = 2 then (u.wr Reg.TWN_SYNC_DELAY.D (leNat ((p.drop 4).take 4))).wr Reg.TWN_SYNC_DELAY.VALID 1 else u

/-- R469: a pair command at the follower. -/
def Units.paircmdRx (p : List Nat) (u : Units) : Units :=
  let refuse := u.sendAccept sState
  if u.pairRole ≠ 2 then refuse
  else
    match leNat ((p.drop 4).take 2) with
    | 0x0040 =>
      match u.logVol with
      | some v => if u.lsess ≠ 0 then refuse else (u.logOpen v (leNat ((p.drop 8).take 4))).sendAccept 0
      | none => refuse
    | 0x0041 => if u.lsess = 0 then refuse else let r := u.logEnd false; r.2.owe r.1
    | 0x0042 => if u.logVol.isNone then refuse else let r := u.sealNow false; r.2.owe r.1
    | 0x0051 => let r := u.volCreate; r.2.sendAccept (if r.1.isSome then 0 else sState)
    | 0x0052 => let r := u.volClose; r.2.sendAccept (if r.1 then 0 else sState)
    | _ => u.sendAccept sUnknownCmd

/-- LEAVE at the follower: ACCEPT follows its closing seal (R471). -/
def Units.leaveRx (_ : List Nat) (u : Units) : Units :=
  if u.pairRole = 2 then let r := u.followerLeave 1; r.2.owe r.1 else u.sendAccept 0

/-! ## Attaching (R458) -/

def Units.pairAttach (u : Units) : Units :=
  if u.pairRole = 2 ∧ ¬ u.is Reg.TWN_PAIR.ATTACHED ∧ u.pairWait = 0 ∧ u.is Reg.TWN_STATUS.PARTNER then
    twnEvent ({ u with rsv := { u.rsv with rejoin := true } }.wr Reg.TWN_PAIR.ATTACHED 1) 0x02 0
  else u

/-! ## The angle-sync wire (R461 to R467) -/

/-- The bytes of one engine's field, at the present tick. -/
def Units.syncEngine (u : Units) (n : Nat) : List Nat :=
  let w := if bit (u.rd Reg.TWN_PAIR.ENGMASK) n then u.angleWord n u.clock else noAngle
  if w = noAngle then leBytes 4 noAngle ++ [0, 0, 0, 0, 0, 0]
  else
    let acc := max (-32768) (min 32767 (toInt 32 (u.rd (Reg.ANG_ACCEL.ACCEL n)) / 16))
    leBytes 4 w ++ leBytes 3 (u.rd (Reg.ANG_SPEED.SPEED n)) ++ leBytes 2 (ofInt 16 acc) ++
      [u.rd (Reg.ANG_STATUS.REV n) + 2 * u.rd (Reg.ANG_STATUS.OVERSPEED n)]

/-- R462: a frame of the leader, reference instant t. -/
def Units.syncTx (u : Units) (t : Nat) : Units :=
  let u := u.advance t
  if u.pairRole = 1 then
    let f := u.pair.fseq
    let b := f % 256 :: (List.range 4).flatMap u.syncEngine
    let u := { u with pair := { u.pair with fseq := (f + 1) % 2 ^ 32, sent := some (f, u.now) } }
    u.send (.syncFrame (b ++ leBytes 4 (crc32c b)))
  else u

/-- R468: the time of the last frame sent. -/
def Units.timeTx (u : Units) : Units :=
  match u.pair.sent with
  | some s => if u.pairRole = 1 ∧ u.is Reg.TWN_STATUS.PARTNER then u.twinSend 0x05 (leBytes 4 s.1 ++ leBytes 8 s.2) else u
  | none => u

/-- A slaved angle becomes invalid (R465). -/
def Units.slaveLost (u : Units) (n : Nat) : Units :=
  if u.angValid n then (u.syncLost n 7).wr (Reg.ANG_STATUS.STATE n) stSlaved else u

/-- R464: the wire is unlocked, and every slaved angle invalid. -/
def Units.wireUnlock (u : Units) : Units :=
  let u := { u with pair := { u.pair with good := 0, bad := 0, lastSeq := none } }.wr Reg.TWN_SYNC_STATUS.LOCK 0
  u.each u.slaved Units.slaveLost

/-- The absolute angle of a word: the one nearest the angle shown, within 4,096 cycles. -/
def Units.slaveAbs (u : Units) (n w : Nat) : Int :=
  let c := u.cycleLen n
  let x := (w / 2 ^ 20 : Nat) * c + (w % 2 ^ 20 : Nat)
  match u.absAngle n u.clock with
  | some y => nearest (4096 * c) y x
  | none => x

/-- R465: engine n takes a valid word dated t0, with the frame's speed, acceleration and flags. -/
def Units.slaveTake (u : Units) (n : Nat) (x t0 : Int) (speed : Nat) (acc : Int) (flags : Nat) : Units :=
  let back := bit flags 0
  let w0 : Rat := (speed * 384 : Nat) / 400000000
  let a : Rat := clampR aMax ((acc * 98304 : Int) / (400000000 * 400000000))
  let next := ((x : Rat) + w0 * 800 + a * 800 * 800 / 2).floor
  let fresh := !u.angValid n
  let shown := match u.absAngle n u.clock with | some y => y | none => x
  let u := u.setRev n back
  let u := ((u.wr (Reg.ANG_SPEED.SPEED n) speed).wr (Reg.ANG_ACCEL.ACCEL n) (ofInt 32 (acc * 16))).wr (Reg.ANG_STATUS.OVERSPEED n) (flags / 2)
  let u := if back then (u.pushSeg n (stillSeg x true true)).rearm n x
    else u.pushSeg n { start := 0, theta := x, t0 := t0, w0 := w0, a := a, cap := max next shown, floor := shown, full := true, crank := true }
  if fresh then
    (u.enterFull n (match u.absAngle n u.clock with | some y => y | none => x)).wr (Reg.ANG_STATUS.STATE n) stSlaved
  else u

/-- One engine's field of a good frame. -/
def Units.slaveFrame (u : Units) (n : Nat) (t0 : Int) (b : List Nat) : Units :=
  let w := leNat (b.take 4)
  if w = noAngle ∨ u.cycleLen n ≤ ((w % 2 ^ 20 : Nat) : Int) then u.slaveLost n
  else u.slaveTake n (u.slaveAbs n w) t0 (leNat ((b.drop 4).take 3)) (toInt 16 (leNat ((b.drop 7).take 2))) (b.getD 9 0)

/-- A bad frame (R464): the fourth in a row unlocks the wire. -/
def Units.syncBad (u : Units) : Units :=
  let n := u.pair.bad + 1
  let u := { u with pair := { u.pair with bad := n, good := 0 } }.count Reg.TWN_SYNC_CRC.COUNT Reg.TWN_SYNC_CRC.OVF
  if 4 ≤ n then u.wireUnlock else u

/-- The extended number of a frame: the one after the last known with that FSEQ. -/
def extendSeq (last f : Nat) : Nat := (last + (f + 256 - last % 256) % 256) % 2 ^ 32

/-- R464, R465: a frame reaches the follower, its comma at tick t: the bytes after the comma. -/
def Units.syncRx (u : Units) (t : Nat) (b : List Nat) : Units :=
  let u := u.advance t
  if u.pairRole ≠ 2 then u
  else if b.length ≠ 45 ∨ leNat (b.drop 41) ≠ crc32c (b.take 41) then u.syncBad
  else
    let seq := b.getD 0 0
    let inRow : Bool := match u.pair.lastSeq with | some l => decide (seq = (l + 1) % 256) | none => false
    let good := if inRow then u.pair.good + 1 else 1
    let t0 : Int := (t : Int) - (u.rd Reg.TWN_SYNC_DELAY.D * 2 / 5 : Nat)
    let ext := extendSeq u.pair.fseq seq
    let dated := ((ext, t0.toNat) :: u.pair.dated).take 600
    let u := { u with pair := { u.pair with good := min good 16, bad := 0, lastSeq := some seq, fseq := ext, dated := dated } }
    let u := u.wr Reg.TWN_SYNC_STATUS.FRAME ext
    let lock := u.is Reg.TWN_SYNC_STATUS.LOCK || (decide (16 ≤ good) && u.is Reg.TWN_SYNC_DELAY.VALID)
    let u := u.wrb Reg.TWN_SYNC_STATUS.LOCK lock
    if lock then u.each u.slaved fun u n => u.slaveFrame n t0 ((b.drop (1 + 10 * n)).take 10) else u

/-- R468: time transfer at the follower: its offset at that frame's dated comma. The frame's extended number corrects the
follower's count of frames. -/
def Units.timeRx (p : List Nat) (u : Units) : Units :=
  let ext := leNat (p.take 4)
  match (if u.pairRole = 2 ∧ u.rd Reg.TIM_CTRL.SRC = 4 then u.pair.dated.find? fun d => d.1 % 256 == ext % 256 else none) with
  | some d =>
    let fix (x : Nat) : Nat := (x + ext + 2 ^ 32 - d.1) % 2 ^ 32
    let u := { u with pair := { u.pair with fseq := fix u.pair.fseq, dated := u.pair.dated.map fun (e : Nat × Nat) => (fix e.1, e.2) } }
    let off : Int := (u.timeAt d.2 : Int) - leNat ((p.drop 4).take 8)
    (u.setActive 4).servo off
  | none => u

/-- R463: the probe symbol goes out in place of a frame. -/
def Units.probeTx (u : Units) (t : Nat) : Units :=
  let u := u.advance t
  if u.pairRole = 1 then { u with pair := { u.pair with probe := some u.clock } }.send .syncProbe else u

/-- The probe's answer, its round trip in ns, or none within 500 ns. -/
def Units.probeReturn (u : Units) (rt : Option Nat) : Units :=
  if u.pairRole ≠ 1 ∨ u.pair.probe.isNone then u
  else
    let u := { u with pair := { u.pair with probe := none } }
    match rt with
    | none => u
    | some ns =>
      let d := (ns - 200) / 2
      if 500 < ns then u
      else if 100 < d then
        let c := u.contactOf 8 0
        u.setReported 8 0 (c.rep ||| 2 ^ 5) (2 ^ 5)
      else ((u.wr Reg.TWN_SYNC_DELAY.D d).wr Reg.TWN_SYNC_DELAY.VALID 1).twinControl 0x05 (leBytes 4 d)

/-! ## TWIN_JOIN waits no longer (R455) -/

/-- The response of TWIN_JOIN. -/
def Units.joinData (u : Units) (attached wait : Nat) : List Nat :=
  leBytes 4 ownUnit ++ leBytes 4 (u.rd Reg.TWN_PARTNER_UNIT.UNIT) ++ [attached, wait, 0, 0]

/-- 10 s after the follower accepted, at tick t. -/
def Units.joinTimeout (u : Units) (t : Nat) : Units :=
  let u := u.advance t
  match u.stw.longs.find? fun l => l.frame.cmd == 0x0070 && l.peer == 0 with
  | some l =>
    if u.pair.joinedAt + 4000000000 ≤ u.clock ∧ ¬ u.is Reg.TWN_PAIR.ATTACHED then u.longEnd l sOk 0 (u.joinData 0 u.pairWait) else u
  | none => u

/-! ## Meanings -/

def laneOk (l : Nat) : Bool := decide (l < 2)

def execTwinLaneUp (l : Nat) (s : State) : Host.Outcome State Fault Refusal := s.run (laneOk l) fun u => u.twinLaneUp l
def execTwinHelloTimer (s : State) : Host.Outcome State Fault Refusal := s.run true Units.helloTimer
def execTwinHelloMiss (l : Nat) (s : State) : Host.Outcome State Fault Refusal := s.run (laneOk l) fun u => u.helloMiss l
def execTwinHelloRx (l : Nat) (bytes : List Nat) (s : State) : Host.Outcome State Fault Refusal := s.run (laneOk l) fun u => u.helloRx l bytes
def execTwinMailboxRelayRx (l : Nat) (bytes : List Nat) (s : State) : Host.Outcome State Fault Refusal :=
  s.run (laneOk l) fun u => u.twinArrive l bytes (isType 3) Units.relayRx
def execTwinQueueDataRx (l : Nat) (bytes : List Nat) (s : State) : Host.Outcome State Fault Refusal :=
  s.run (laneOk l) fun u => u.twinArrive l bytes (isType 4) Units.queueDataRx
def execTwinTimeTransferTx (s : State) : Host.Outcome State Fault Refusal := s.run true Units.timeTx
def execTwinTimeTransferRx (l : Nat) (bytes : List Nat) (s : State) : Host.Outcome State Fault Refusal :=
  s.run (laneOk l) fun u => u.twinArrive l bytes (isType 5) Units.timeRx
def execTwinPartnerIndexRx (l : Nat) (bytes : List Nat) (s : State) : Host.Outcome State Fault Refusal :=
  s.run (laneOk l) fun u => u.twinArrive l bytes (isType 6) Units.indexRx
def execTwinJoinFrameRx (l : Nat) (bytes : List Nat) (s : State) : Host.Outcome State Fault Refusal :=
  s.run (laneOk l) fun u => u.twinArrive l bytes (isOp 1) Units.joinRx
def execTwinAcceptRx (l : Nat) (bytes : List Nat) (s : State) : Host.Outcome State Fault Refusal :=
  s.run (laneOk l) fun u => u.twinArrive l bytes (isOp 2) Units.acceptRx
def execTwinStateTx (s : State) : Host.Outcome State Fault Refusal := s.run true Units.stateTx
def execTwinStateRx (l : Nat) (bytes : List Nat) (s : State) : Host.Outcome State Fault Refusal :=
  s.run (laneOk l) fun u => u.twinArrive l bytes (isOp 3) Units.stateRx
def execFpExchangeTimer (s : State) : Host.Outcome State Fault Refusal := s.run true Units.fpSend
def execTwinFprintRx (l : Nat) (bytes : List Nat) (stale : Bool) (s : State) : Host.Outcome State Fault Refusal :=
  s.run (laneOk l) fun u => u.twinArrive l bytes (isOp 4) (Units.fprintRx stale)
def execTwinDelayRx (l : Nat) (bytes : List Nat) (s : State) : Host.Outcome State Fault Refusal :=
  s.run (laneOk l) fun u => u.twinArrive l bytes (isOp 5) Units.delayRx
def execTwinPaircmdRx (l : Nat) (bytes : List Nat) (s : State) : Host.Outcome State Fault Refusal :=
  s.run (laneOk l) fun u => u.twinArrive l bytes (isOp 6) Units.paircmdRx
def execTwinLeaveFrameRx (l : Nat) (bytes : List Nat) (s : State) : Host.Outcome State Fault Refusal :=
  s.run (laneOk l) fun u => u.twinArrive l bytes (isOp 7) Units.leaveRx
def execTwinJoinTimeout (t : Nat) (s : State) : Host.Outcome State Fault Refusal := s.run true fun u => u.joinTimeout t
def execTwinAttach (s : State) : Host.Outcome State Fault Refusal := s.run true Units.pairAttach
def execSyncFrameTx (t : Nat) (s : State) : Host.Outcome State Fault Refusal := s.run true fun u => u.syncTx t
def execSyncFrameRx (t : Nat) (bytes : List Nat) (s : State) : Host.Outcome State Fault Refusal := s.run true fun u => u.syncRx t bytes
/-- R464: four consecutive frames are missing or bad by tick t. -/
def execSyncWireUnlock (t : Nat) (s : State) : Host.Outcome State Fault Refusal :=
  s.run true fun u => let u := u.advance t; if u.pairRole = 2 then u.wireUnlock else u
def execSyncProbe (t : Nat) (s : State) : Host.Outcome State Fault Refusal := s.run true fun u => u.probeTx t
def execSyncProbeAnswer (s : State) : Host.Outcome State Fault Refusal := s.run true fun u => if u.pairRole = 2 then u.send .syncProbe else u
def execSyncProbeReturn (roundTrip : Option Nat) (s : State) : Host.Outcome State Fault Refusal := s.run true fun u => u.probeReturn roundTrip

end Sys2Proof.Machine
end

