-- ==== Sys2Proof/Machine/Steward.lean ====
section
/-! DEFINITION. The command set of steward firmware, and its sessions (17_steward_and_sessions.md R423 to R438, 19_twin_mode.md
R455, R469, R471, 20_power.md R489). Each command row serves the frame at the head of the arrival queue when the frame's CMD
is the row's. -/
namespace Sys2Proof.Machine

/-! ## Payload checks (R420) -/

/-- What a short command answers: STATUS, DETAIL, data. -/
abbrev Reply := Nat × Nat × List Nat

def refuse (st detail : Nat) : Reply := (st, detail, [])
def done (data : List Nat) : Reply := (sOk, 0, data)

/-- The first of `n` payload bytes from `off` that is not the 0 it must be. -/
def MbFrame.reserved (f : MbFrame) (off n : Nat) : Option Nat := ((List.range n).find? fun i => f.payload.getD (off + i) 0 != 0).map (off + ·)

/-- The first check of a list that fails: each is a condition for refusal with its STATUS and DETAIL. -/
def firstOf : List (Bool × Nat × Nat) → Option (Nat × Nat)
  | [] => none
  | c :: cs => if c.1 then some c.2 else firstOf cs

/-- Refuse by the first check that fails, else go on. -/
def guarded (u : Units) (checks : List (Bool × Nat × Nat)) (k : Reply × Units) : Nat × Nat × List Nat × Units :=
  match firstOf checks with
  | some c => (c.1, c.2, [], u)
  | none => (k.1.1, k.1.2.1, k.1.2.2, k.2)

/-- A reserved run of payload bytes that is not 0. -/
def MbFrame.zeros (f : MbFrame) (off n : Nat) : Bool × Nat × Nat := ((f.reserved off n).isSome, sBadParam, (f.reserved off n).getD 0)

/-! ## Sessions (R424 to R428) -/

/-- SESSION_HELLO. -/
def Units.hello (u : Units) (f : MbFrame) : Units :=
  let k := f.payload.getD 0 0
  if u.stw.backoff ∧ u.clock < u.stw.backAt + 400000000 then u.reply f sBackoff (1000 - (u.clock - u.stw.backAt) / 400000) []
  else
    match firstOf [(f.payload.length != 4, sBadLength, 0), (decide (1 < k), sBadParam, 0), f.zeros 1 3] with
    | some c => u.reply f c.1 c.2 []
    | none =>
      let d := u.draw
      let nonce := leBytes 32 (Config.freeWord d.1)
      let u := d.2
      let u := { u with stw := { u.stw with nonce := some (k, nonce), nonceAt := u.clock } }
      u.reply f sOk 0 (nonce ++ leBytes 4 ownUnit ++ leBytes 2 u.census.part.code ++ [0, 0] ++ leBytes 4 (u.rd Reg.SES_FWVER.VERSION))

/-- The bytes of a key: the session unit's path to words that no firmware reads (18_persistent_config.md R442). -/
def Units.key (u : Units) (k : Nat) : List Nat := (List.range 8).flatMap fun i => leBytes 4 (u.pstWord (8 * k + i))

/-- The idle limit in seconds. -/
def Units.idleLimit (u : Units) : Nat := u.pstWord 0x34

/-- SESSION_OPEN. -/
def Units.openSession (u : Units) (f : MbFrame) : Units :=
  let k := f.payload.getD 0 0
  let held : Option (List Nat) := match u.stw.nonce with
    | some n => if n.1 = k ∧ u.clock < u.stw.nonceAt + 4000000000 then some n.2 else none
    | none => none
  match firstOf [(f.payload.length != 36, sBadLength, 0), (decide (1 < k), sBadParam, 0), f.zeros 1 3,
      (u.is Reg.SES_STATUS.RECOVERY && k == 0, sState, 0)] with
  | some c => u.reply f c.1 c.2 []
  | none =>
    match held with
    | none => u.reply f sNonce 0 []
    | some nonce =>
      let u := { u with stw := { u.stw with nonce := none } }
      if f.payload.drop 4 ≠ hmacSha256 (u.key k) nonce then
        let u := { u with stw := { u.stw with backoff := true, backAt := u.clock } }
        (sesEvent (u.count Reg.SES_AUTHFAIL.COUNT Reg.SES_AUTHFAIL.OVF) 0x03 k).reply f sAuthFail 0 []
      else
        let u := u.sessionBegin (k == 1) f.transport
        u.reply f sOk 0 (leBytes 4 u.stw.tag ++ [k, 0, 0, 0] ++ leBytes 4 u.idleLimit)

/-- R424: 10 s after it was drawn, a nonce is no longer valid. -/
def Units.nonceExpire (u : Units) (t : Nat) : Units :=
  let u := u.advance t
  if u.stw.nonceAt + 4000000000 ≤ u.clock then { u with stw := { u.stw with nonce := none } } else u

/-- R425: 1 s after a failure, SESSION_HELLO is served again. -/
def Units.backoffEnd (u : Units) (t : Nat) : Units :=
  let u := u.advance t
  if u.stw.backAt + 400000000 ≤ u.clock then { u with stw := { u.stw with backoff := false } } else u

/-- R428: no frame with the current tag for the idle limit. -/
def Units.idleTimeout (u : Units) (t : Nat) : Units :=
  let u := u.advance t
  let n := u.idleLimit
  if u.stw.running ∧ n ≠ 0 ∧ u.stw.heard + n * 400000000 ≤ u.clock then u.sessionEnd 2 else u

/-- SESSION_CLOSE: answered, then the session ends. -/
def Units.closeSession (u : Units) (f : MbFrame) : Units :=
  if f.payload.length ≠ 0 then u.answer f sBadLength 0 [] else (u.answer f sOk 0 []).sessionEnd 1

/-- R430: a reserved CMD, whatever its TAG; no mailbox changes. -/
def State.unknownCmd (s : State) (known : Nat → Bool) : State :=
  match s.u.frontFrame with
  | none => s
  | some f =>
    if known f.cmd then s
    else
      let a := s.u.popFrame.doorJudge f
      s.onU fun _ => if a.1 then a.2.reply f sUnknownCmd 0 [] else a.2

/-- The codes of R430. -/
def cmdCodes : List Nat :=
  [0x01, 0x02, 0x03, 0x04, 0x10, 0x11, 0x12, 0x20, 0x21, 0x22, 0x23, 0x24, 0x25, 0x30, 0x31, 0x32, 0x33, 0x34, 0x35] ++
  [0x40, 0x41, 0x42, 0x43, 0x50, 0x51, 0x52, 0x53, 0x54, 0x55, 0x60, 0x61, 0x70, 0x71, 0x80, 0x81, 0x82, 0x83]

/-! ## Identity and status -/

/-- A register as the steward reads it. -/
def Units.peek (u : Units) (a : Nat) : Nat := (u.regReadAt 64 a).1 % 2 ^ 32

/-- HELD, bit k for core k. -/
def Units.heldMask (u : Units) : Nat := u.peek Reg.RST_HELD_LO.CORE.addr + u.peek Reg.RST_HELD_HI.CORE.addr * 2 ^ 32

/-- This module's entry of IDENTIFY. -/
def Units.identity (u : Units) : List Nat :=
  leBytes 4 ownUnit ++ leBytes 4 (u.peek 0x1A0000) ++ leBytes 4 (u.peek 0x1A0004) ++ leBytes 4 (u.peek 0x1A0008) ++
    leBytes 4 (u.rd Reg.SES_FWVER.VERSION) ++ leBytes 4 u.pairRole

/-- A leader with its partner present reports both modules. -/
def Units.reportsPartner (u : Units) : Bool := u.pairRole == 1 && u.is Reg.TWN_STATUS.PARTNER

def identifyCmd (partner : List Nat) : ShortCmd := fun _ u =>
  (sOk, 0, u.identity ++ (if u.reportsPartner then partner else []), u)

/-- CERT_READ: an OFFSET past the certificate's end leaves no byte to return. -/
def certRead : ShortCmd := fun f u =>
  let total := Config.certSize % 2 ^ 32
  let off := f.num 0 4
  (sOk, 0, leBytes 4 total ++ (List.range (min 1024 (total - off))).map (fun i => Config.certByte (off + i) % 256), u)

def statusRead : ShortCmd := fun _ u =>
  let regs := [Reg.RSV_STATUS.STATE, Reg.RSV_HEALTH.DIES, Reg.RSV_FREE.GIB, Reg.RSV_COMMIT_LO.GSEQ, Reg.RSV_COMMIT_HI.GSEQ,
    Reg.WEIR_STATUS.LIMIT, Reg.WEIR_DEPTH.DEPTH, Reg.WEIR_ROOM.KIB, Reg.TIM_STATUS.ACTIVE]
  (sOk, 0, regs.flatMap (fun (r : Fld) => leBytes 4 (u.peek r.addr)) ++ leBytes 8 u.fpNow ++ leBytes 4 u.genNow ++ leBytes 8 u.heldMask, u)

/-! ## Registers (R431) -/

/-- ANG_CTRL of an engine that a follower slaves (19_twin_mode.md R454). -/
def Units.slavedCtrl (u : Units) (a : Nat) : Bool :=
  u.pairRole == 2 && (maskEngines (u.rd Reg.TWN_PAIR.ENGMASK)).any fun n => a == (Reg.ANG_CTRL.EN n).addr

/-- Entries in order up to the first that stops: its index. -/
def State.applyEntries (s : State) : List (Nat × Nat × Nat) → Nat → Option Nat × State
  | [], _ => (none, s)
  | e :: es, j =>
    if s.u.slavedCtrl e.1 then (some j, s)
    else
      let r := s.cfgEntry e.1 e.2.1 e.2.2
      if r.1 then r.2.applyEntries es (j + 1) else (some j, r.2)

/-- CONFIG_APPLY. -/
def State.configApply (f : MbFrame) (s : State) : State :=
  let n := f.payload.length / 12
  if f.payload.length % 12 ≠ 0 then s.onU fun u => u.answer f sBadLength 0 []
  else if n = 0 then s.onU fun u => u.answer f sBadParam 0 []
  else
    let r := s.applyEntries ((List.range n).map fun j => (f.num (12 * j) 4, f.num (12 * j + 4) 4, f.num (12 * j + 8) 4)) 0
    match r.1 with
    | some j => r.2.onU fun u => u.answer f sAccess j []
    | none => r.2.onU fun u => u.answer f sOk 0 (leBytes 4 n)

/-- Reads in order up to the first that stops: its index, or the values. -/
def State.readEntries (s : State) : List Nat → Nat → List Nat → Option Nat × List Nat × State
  | [], _, vs => (none, vs, s)
  | a :: as, j, vs =>
    if ¬ cfgAddr a then (some j, vs, s)
    else
      let r := (s.onU fun u => u.ioWake 64 a).ioRead 64 a
      if r.1 ≠ respOk then (some j, vs, r.2.2) else r.2.2.readEntries as (j + 1) (vs ++ leBytes 4 r.2.1)

/-- CONFIG_READ. -/
def State.configRead (f : MbFrame) (s : State) : State :=
  let n := f.payload.length / 4
  if f.payload.length % 4 ≠ 0 then s.onU fun u => u.answer f sBadLength 0 []
  else if n = 0 ∨ 256 < n then s.onU fun u => u.answer f sBadParam 0 []
  else
    let r := s.readEntries ((List.range n).map fun j => f.num (4 * j) 4) 0 []
    match r.1 with
    | some j => r.2.2.onU fun u => u.answer f sAccess j []
    | none => r.2.2.onU fun u => u.answer f sOk 0 r.2.1

/-! ## Persistent settings (R423, R438; 18_persistent_config.md R441 to R444) -/

def pstReadCmd : ShortCmd := fun f u =>
  let first := f.num 0 2
  let n := f.num 2 2
  guarded u [(n == 0 || decide (128 < n), sBadParam, 2), (decide (4096 < first + n), sBadParam, 0)]
    (done ((List.range n).flatMap (fun i => leBytes 4 (u.pstRead true (first + i))) ++
      (List.range n).flatMap (fun i => leBytes 4 (u.pstWear (first + i)))), u)

/-- Words PST_WRITE does not write. -/
def pstOwned (i : Nat) : Bool := decide (i < 0x34) || (decide (0x35 ≤ i) && decide (i < 0x40)) || (decide (0x50 ≤ i) && decide (i < 0x100))

/-- Write words unless one that would change is worn. -/
def Units.pstPut (u : Units) (first : Nat) (vs : List Nat) (data : Nat → List Nat) : Reply × Units :=
  match u.pstWornIn first vs with
  | some i => (refuse sWear i, u)
  | none => let r := u.pstUpdates first vs; (done (data r.1), r.2)

/-- The words of a payload from an offset on. -/
def MbFrame.words (f : MbFrame) (off n : Nat) : List Nat := (List.range n).map fun i => f.num (off + 4 * i) 4

def pstWriteCmd : ShortCmd := fun f u =>
  let first := f.num 0 2
  let n := f.num 2 2
  let owned := (List.range n).find? fun i => pstOwned (first + i)
  guarded u [(n == 0 || decide (256 < n), sBadParam, 2), (f.payload.length != 4 + 4 * n, sBadLength, 0),
      (decide (4096 < first + n), sBadParam, 0), (owned.isSome, sBadParam, first + owned.getD 0)]
    (u.pstPut first (f.words 4 n) (leBytes 4))

def keySetCmd : ShortCmd := fun f u =>
  let k := f.payload.getD 0 0
  guarded u [(decide (1 < k), sBadParam, 0), f.zeros 1 3] (u.pstPut (8 * k) (f.words 4 8) fun _ => [])

/-- PERMIT_SET: the reserved bits of a permit's words (16_networks.md R413) are 0. -/
def permitSetCmd : ShortCmd := fun f u =>
  let c := f.payload.getD 0 0
  guarded u [(decide (11 < c), sBadParam, 0), f.zeros 1 3, (decide (2 ^ 28 ≤ f.num 4 4), sBadParam, 4),
      (decide (2 ^ 29 ≤ f.num 8 4), sBadParam, 8), (decide (2 ^ 29 ≤ f.num 12 4), sBadParam, 12)]
    (u.pstPut (0x10 + 3 * c) (f.words 4 3) fun _ => [])

/-! ## Cores and control stores (R432) -/

/-- Cores of a mask. -/
def maskCores (m : Nat) : List Nat := (List.range 64).filter fun k => bit m k

/-- CORE_HOLD and CORE_RELEASE: a mask bit of an absent core refuses both. -/
def State.coreMask (f : MbFrame) (act : State → Nat → State) (s : State) : State :=
  let m := f.num 0 8
  if f.payload.length ≠ 8 then s.onU fun u => u.answer f sBadLength 0 []
  else
    match (maskCores m).find? fun k => !s.u.corePresent k with
    | some k => s.onU fun u => u.answer f sUnitAbsent k []
    | none => ((maskCores m).foldl act s).onU fun u => u.answer f sOk 0 (leBytes 8 u.heldMask)

/-- Hold a core; the hold is complete at once where nothing is in its way (21_reset.md R508). -/
def State.holdNow (s : State) (k : Nat) : State := (s.onU fun u => u.coreHold k).coreHeld k

/-- PROG_WRITE. -/
def State.progWrite (f : MbFrame) (s : State) : State :=
  let k := f.payload.getD 0 0
  let sp := f.payload.getD 1 0
  let off := f.num 4 4
  let n := f.payload.length - 8
  let size := if sp = 1 then 65536 else 131072
  match firstOf [(decide (f.payload.length < 8), sBadLength, 0), (decide (63 < k), sBadParam, 0), (!s.u.corePresent k, sUnitAbsent, k),
      (decide (1 < sp), sBadParam, 1), f.zeros 2 2, (n % 4 != 0 || n == 0 || decide (1024 < n), sBadParam, 8), (!s.u.held_ k, sState, 0),
      (off % 4 != 0 || decide (size < off + n), sBadParam, 4)] with
  | some c => s.onU fun u => u.answer f c.1 c.2 []
  | none => (s.storeBytes ((if sp = 1 then instrRam k else dataRam k) + off) (f.payload.drop 8)).onU fun u => u.answer f sOk 0 []

/-- A BASIN that is out of range or absent. -/
def Units.basinChecks (u : Units) (n : Nat) : List (Bool × Nat × Nat) := [(decide (7 < n), sBadParam, 0), (!u.basinPresent n, sUnitAbsent, n)]

/-- A long command is validated and started, or refused. -/
def Units.startLong (u : Units) (f : MbFrame) (len : Nat) (checks : List (Bool × Nat × Nat)) (k : LongCmd × Units) : Units :=
  match firstOf ((f.payload.length != len, sBadLength, 0) :: checks) with
  | some c => u.answer f c.1 c.2 []
  | none => k.2.longStart k.1

/-- WCS_OPEN: step 1 of 12_microcode.md R322. -/
def Units.wcsOpenCmd (u : Units) (f : MbFrame) : Units :=
  let n := f.payload.getD 0 0
  u.startLong f 4 (u.basinChecks n ++ [f.zeros 1 3]) ({ frame := f, res := [2, n] }, u.wcsOpen n)

/-- Steps 2 and 3 of R322 for one word: address, data, WRITE. -/
def Units.wcsPut (n sp : Nat) (u : Units) (x : Nat × Nat × Nat × Nat) : Units :=
  let u := ((u.wr (Reg.BSN_WCS_ADDR.SPACE n) sp).wr (Reg.BSN_WCS_ADDR.INDEX n) x.1).wr (Reg.BSN_WCS_ADDR.AUTOINC n) 0
  let u := u.wr (Reg.BSN_WCS_DATA0.WORD n) x.2.1
  let u := if sp = 1 then (u.wr (Reg.BSN_WCS_DATA1.WORD n) x.2.2.1).wr (Reg.BSN_WCS_DATA2.WORD n) x.2.2.2 else u
  u.wcsWrite n

def wcsWriteCmd : ShortCmd := fun f u =>
  let n := f.payload.getD 0 0
  let sp := f.payload.getD 1 0
  let i := f.payload.getD 2 0
  let c := f.payload.getD 3 0
  let xs := (List.range c).map fun j => (i + j, f.num (4 + 12 * j) 4, f.num (8 + 12 * j) 4, f.num (12 + 12 * j) 4)
  guarded u (u.basinChecks n ++ [(decide (1 < sp), sBadParam, 1), (c == 0 || decide (64 < c), sBadParam, 3),
      (f.payload.length != 4 + 12 * c, sBadLength, 0), (decide ((if sp = 1 then 64 else 256) < i + c), sBadParam, 2),
      (u.wcsState n != wcsLoading, sState, 0)])
    (done [], xs.foldl (Units.wcsPut n sp) u)

/-- WCS_COMMIT: step 4 of R322, up to the end of the check. -/
def wcsCommitCmd : ShortCmd := fun f u =>
  let n := f.payload.getD 0 0
  let v := (u.wcsCommit n).wcsChecked n
  guarded u (u.basinChecks n ++ [f.zeros 1 3, (u.wcsState n != wcsLoading, sState, 0)])
    (done (leBytes 4 (v.peek (Reg.BSN_WCS_STATUS.STATE n).addr)), v)

/-! ## Logs and volumes (R433, 19_twin_mode.md R469) -/

/-- One of the commands that act on both modules of a pair. The leader carries it to its follower; a follower refuses it.
Alone, a short one answers at once. -/
def Units.logCmd (u : Units) (f : MbFrame) (long : Bool) : Units :=
  let r := u.ownPart f.cmd
  if f.payload.length ≠ 0 then u.answer f sBadLength 0 []
  else if u.pairRole = 2 then u.answer f sState 0 []
  else
    match r.1 with
    | none => u.answer f sState 0 []
    | some (t, vals) =>
      let l : LongCmd := { frame := f, res := openRes u f, token := t, vals := vals }
      if u.pairRole = 1 then
        let extra := if f.cmd = 0x0040 then leBytes 4 (vals.getD 0 0) else []
        (u.twinControl 0x06 (leBytes 2 f.cmd ++ [0, 0] ++ extra)).longStart { l with token := none, vals := [], peer := 1 }
      else if long then r.2.longStart l else r.2.answer f sOk 0 vals

/-- ANNOTATE. -/
def Units.annotateCmd (u : Units) (f : MbFrame) : Units :=
  let n := f.num 2 2
  match firstOf [(decide (f.payload.length < 4), sBadLength, 0), (decide (3 < f.num 0 2), sBadParam, 0), (decide (1024 < n), sBadParam, 2),
      (f.payload.length != 4 + n, sBadLength, 0)] with
  | some c => u.answer f c.1 c.2 []
  | none =>
    match u.logVol with
    | none => u.answer f sState 0 []
    | some v =>
      let r := u.askGroup v.id [annotationRecord u.now (f.num 0 2) (f.payload.drop 4)] true true true
      r.2.longStart { frame := f, token := some r.1, res := openRes u f }

/-- One entry of VOL_LIST; the first time of a volume without a group is not stated. -/
def Volume.listed (free : Nat) (v : Volume) : List Nat :=
  v.id ++ leBytes 4 ownUnit ++ leBytes 4 (b2n (!v.isOpen)) ++ leBytes 8 v.groups.length ++
    leBytes 8 (v.groups.map fun (g : Group) => g.bytes.length).sum ++ leBytes 8 ((v.groups.head?.map Group.tMin).getD free)

def volListCmd (partner : List (List Nat)) : ShortCmd := fun f u =>
  let d := u.draw
  let own := u.rsv.vols.map (Volume.listed (Config.freeWord d.1 % 2 ^ 64))
  let all := own ++ (if u.reportsPartner then partner else [])
  (sOk, 0, leBytes 2 all.length ++ ((all.drop (f.num 0 2)).take 24).flatten, d.2)

/-- VOL_DELETE: a download of the volume has no bytes left to stream. -/
def Units.volDeleteCmd (u : Units) (f : MbFrame) : Units :=
  let id := f.payload.take 16
  let v := u.findVol id
  let isOpen : Bool := match v with | some x => x.isOpen | none => false
  u.startLong f 16 [(v.isNone, sBadParam, 0), (isOpen, sState, 0)]
    ({ frame := f, res := 1 :: id }, (u.stopStreams fun d => d.vol == id).volDelete id)

/-- DOWNLOAD_START. -/
def downloadStartCmd : ShortCmd := fun f u =>
  let id := f.payload.take 16
  let off := f.num 16 8
  let n := f.num 24 8
  let path := f.payload.getD 34 0
  let size := match u.findVol id with | some v => (v.groups.map fun (g : Group) => g.bytes.length).sum | none => 0
  let lanes := if path = 1 then [0] else (List.range 8).filter fun l => u.dockUp l && (SMap.get none u.stw.laneHost l).isSome
  let num := u.stw.nextStream
  let d : Download := { num := num, vol := id, off := off, dport := f.num 32 2, path := path,
                        lanes := dealTo lanes 0 (chunksOf (n / 1048576 + 1) 0 n) (lanes.map fun l => { lane := l, host := if path = 1 then f.src else (SMap.get none u.stw.laneHost l).getD 0, todo := [] }) }
  let v : Units := { u with stw := { u.stw with nextStream := num % 65535 + 1 }, downs := u.downs ++ [d] }
  let mask := if path = 1 then 0 else (lanes.map fun l => 2 ^ l).sum
  guarded u [(decide (1 < path), sBadParam, 34), f.zeros 35 1, (path == 0 && !(List.range 8).any u.lanePresent, sUnitAbsent, 0),
      ((u.findVol id).isNone, sBadParam, 0), (decide (size < off), sBadParam, 16), (decide (size < off + n), sBadParam, 24),
      (decide (4 ≤ u.downs.length), sResource, 0), (lanes.isEmpty, sState, 0)]
    (done (leBytes 2 num ++ [mask, 0]), v.endStreams)

def downloadStopCmd : ShortCmd := fun f u =>
  let n := f.num 0 2
  guarded u [(!u.downs.any fun d => d.num == n, sBadParam, 0)] (done [], u.stopStreams fun d => d.num == n)

/-! ## Power and reset (20_power.md R489, 21_reset.md R501) -/

/-- POWER_STATE: the response leaves before entry begins. -/
def State.powerStateCmd (f : MbFrame) (s : State) : State :=
  let st := f.payload.getD 0 0
  let alarm := f.num 4 4
  let u := s.u
  match firstOf [(f.payload.length != 8, sBadLength, 0), (decide (st < 2) || decide (4 < st), sBadParam, 0), f.zeros 1 3,
      (alarm != 0 && (st == 4 || decide (alarm ≤ u.rtcNow / 32768)), sBadParam, 4),
      (u.lsess != 0 || !u.downs.isEmpty || u.pairRole != 0 || u.is Reg.WEIR_STATUS.DIP || u.pwr.flush != 0, sState, 0),
      (st == 3 && decide (2000 < u.aoLoad), sResource, 0)] with
  | some c => s.onU fun u => u.answer f c.1 c.2 []
  | none => (s.onU fun u => (if alarm ≠ 0 then u.wr Reg.TIM_RTC_ALARM.SEC alarm else u).answer f sOk 0 []).beginEntry st f.mbox

/-- MODULE_RESET: the response leaves before the drain begins. -/
def State.moduleResetCmd (f : MbFrame) (s : State) : State :=
  if f.payload.length ≠ 0 then s.onU fun u => u.answer f sBadLength 0 []
  else if s.u.lsess ≠ 0 then s.onU fun u => u.answer f sState 0 []
  else (s.onU fun u => u.answer f sOk 0 []).warmReset 5

/-! ## Twin (19_twin_mode.md R455, R456, R471) -/

/-- TWIN_JOIN. -/
def Units.twinJoinCmd (u : Units) (f : MbFrame) : Units :=
  let h := u.twl.hello.getD (0, 0, 0, 0)
  let mask := f.payload.getD 4 0
  u.startLong f 8 [(!u.is Reg.TWN_STATUS.PARTNER, sPartnerAbsent, 0), (f.num 0 4 != h.1, sBadParam, 0), (decide (16 ≤ mask), sBadParam, 4),
      f.zeros 5 3, (u.pairRole != 0 || h.2.1 != u.census.part.code, sState, 0)]
    ({ frame := f, res := [5], peer := 1 }, u.sendJoin mask)

/-- TWIN_LEAVE at the leader; an absent partner leaves under R473. -/
def Units.twinLeaveCmd (u : Units) (f : MbFrame) : Units :=
  let v := if u.is Reg.TWN_STATUS.PARTNER then (u.twinControl 0x07 [], 1) else (u, 0)
  u.startLong f 0 [(u.pairRole != 1, sState, 0)] ({ frame := f, res := [5], peer := v.2 }, v.1.alone 1)

/-! ## Firmware (R435 to R437) -/

/-- The slot that is not running. -/
def Units.otherSlot (u : Units) : Nat := if u.is Reg.SES_STATUS.RECOVERY then 1 - u.stw.active else 1 - u.rd Reg.SES_STATUS.SLOT

def Units.setSlot (u : Units) (i : Nat) (x : FwSlot) : Units := { u with stw := { u.stw with slots := SMap.set none u.stw.slots i (some x) } }

/-- FW_BEGIN: the inactive slot is erased; what VERSION and ROLLBACK an erased slot shows is not stated. -/
def Units.fwBegin (u : Units) (size : Nat) : Units :=
  let a := u.draw
  let b := a.2.draw
  let i := u.otherSlot
  let u := b.2.setSlot i { version := Config.freeWord a.1 % 2 ^ 32, rollback := Config.freeWord b.1 % 2 ^ 32 }
  { u with stw := { u.stw with stage := some { size := size }, pending := if u.stw.pending = some i then none else u.stw.pending } }

def Units.fwBeginCmd (u : Units) (f : MbFrame) : Units :=
  let n := f.num 0 4
  u.startLong f 4 [(decide (n < 129) || decide (4194304 < n), sBadParam, 0), (u.lsess != 0, sState, 0)]
    ({ frame := f, res := [3] }, u.fwBegin n)

/-- Put bytes into a staged image. -/
def FwStage.put (x : FwStage) : Nat → List Nat → FwStage
  | _, [] => x
  | off, b :: bs => { x with bytes := SMap.set none x.bytes off (some b) }.put (off + 1) bs

def fwDataCmd : ShortCmd := fun f u =>
  let off := f.num 0 4
  let n := f.payload.length - 4
  match u.stw.stage with
  | none => (sState, 0, [], u)
  | some x =>
    guarded u [(off % 4 != 0 || decide (x.size < off), sBadParam, 0), (n % 4 != 0 || n == 0 || decide (1024 < n) || decide (x.size < off + n), sBadParam, 4)]
      (done [], { u with stw := { u.stw with stage := some (x.put off (f.payload.drop 4)) } })

/-- The checks of R436 step 3, in order. -/
def Units.fwCheck (u : Units) (x : FwStage) : List (Bool × Nat × Nat) :=
  let cell (i : Nat) : Option Nat := SMap.get none x.bytes i
  let b := (List.range x.size).map fun i => (cell i).getD 0
  let n (off k : Nat) : Nat := leNat ((b.drop off).take k)
  let counter := u.pstWord 0x35
  [(!(List.range x.size).all fun i => (cell i).isSome, sImage, 1),
   (b.take 4 != ascii "SWKF" || n 4 2 != 1 || n 6 2 != 0 || n 0x14 12 != 0 || n 0x10 4 != x.size - 128, sImage, 1),
   ((b.drop 0x20).take 32 != sha256 (b.drop 128), sImage, 2),
   (!Config.firmwareSigned (b.take 0x40) ((b.drop 0x40).take 64), sImage, 3),
   (decide (n 0x0C 4 < counter), sRollback, counter % 65536)]

/-- FW_COMMIT: the image is marked pending. -/
def Units.fwCommitCmd (u : Units) (f : MbFrame) : Units :=
  match u.stw.stage with
  | none => u.answer f (if f.payload.length = 4 then sState else sBadLength) 0 []
  | some x =>
    let n (off k : Nat) : Nat := leNat ((List.range k).map fun i => (SMap.get none x.bytes (off + i)).getD 0)
    let i := u.otherSlot
    let v := u.setSlot i { version := n 8 4, rollback := n 0x0C 4 }
    let v := { v with stw := { v.stw with pending := some i, stage := none } }
    u.startLong f 4 ([(decide (1 < f.payload.getD 0 0), sBadParam, 0), f.zeros 1 3, (u.lsess != 0, sState, 0)] ++ u.fwCheck x)
      ({ frame := f, res := [3], vals := [n 8 4, f.payload.getD 0 0] }, sesEvent v 0x05 (n 8 4))

def fwStatusCmd : ShortCmd := fun _ u =>
  let slot (i : Nat) : List Nat := leBytes 4 (u.fwSlot i).version ++ leBytes 4 (u.fwSlot i).rollback
  (sOk, 0, leBytes 4 (u.peek Reg.SES_STATUS.OPEN.addr) ++ slot 0 ++ slot 1 ++ leBytes 4 (u.pstWord 0x35), u)

/-- R437: 30 s of running without a watchdog reset confirm the trial. -/
def Units.trialConfirm (u : Units) (t : Nat) : Units :=
  let u := u.advance t
  let i := u.rd Reg.SES_STATUS.SLOT
  if u.stw.running ∧ u.stw.trial ∧ u.stw.bootAt + 12000000000 ≤ u.clock then
    let u := { u with stw := { u.stw with active := i, pending := none, trial := false } }.wr Reg.SES_STATUS.TRIAL 0
    let r := (u.fwSlot i).rollback
    if u.pstWord 0x35 < r then (u.pstUpdates 0x35 [r]).2 else u
  else u

/-! ## Long commands complete (R422) -/

/-- GSEQ of the group a long command waited for, once it has committed. -/
def Units.tokenGroup (u : Units) (t : Nat) : Option Nat :=
  if t ≤ u.rsv.doneTok then (u.rsv.done.find? fun x => x.1 == t).map Prod.snd else none

/-- SSEQ of the seal in group g of a volume. -/
def Units.sealNumber (u : Units) (id : List Nat) (g : Nat) : Nat :=
  match u.findVol id with
  | some v => (v.groups.filter fun x => x.sealed && decide (x.gseq < g)).length
  | none => 0

/-- What a running long command answers now, none while it still runs: STATUS and data. -/
def Units.longResult (u : Units) (l : LongCmd) : Option (Nat × List Nat) :=
  let v (i : Nat) : Nat := l.vals.getD i 0
  let group (k : Nat → List Nat) (empty : List Nat) : Option (Nat × List Nat) :=
    match l.token with
    | none => some (sOk, empty)
    | some t => (u.tokenGroup t).map fun g => (sOk, k g)
  if l.peer = 1 then none
  else if l.peer = 2 then some (sState, [])
  else
    match l.frame.cmd with
    | 0x0033 =>
      let st := u.wcsState (l.frame.payload.getD 0 0)
      if st = wcsOpening then none else some (if st = wcsLoading then sOk else sState, [])
    | 0x0040 => some (sOk, leBytes 4 (v 0))
    | 0x0041 => group (fun g => leBytes 4 (v 0) ++ leBytes 8 (g - 1)) (leBytes 4 (v 0) ++ leBytes 8 (v 1))
    | 0x0042 => group (fun g => leBytes 8 (u.sealNumber (l.res.drop 1) g) ++ leBytes 8 (g - 1)) (leBytes 8 (v 0) ++ leBytes 8 (v 1))
    | 0x0043 => group (leBytes 8) []
    | 0x0051 => some (sOk, l.vals)
    | 0x0070 => if u.is Reg.TWN_PAIR.ATTACHED then some (sOk, u.joinData 1 0) else none
    | 0x0082 => some (sOk, leBytes 4 (v 0))
    | _ => some (sOk, [])

/-- The long command in place i completes, if it can: FW_COMMIT with REBOOT then resets the module. -/
def State.longComplete (s : State) (i : Nat) : State :=
  if ¬ s.u.stw.running then s
  else
    match s.u.stw.longs[i]? with
    | none => s
    | some l =>
      match s.u.longResult l with
      | none => s
      | some r =>
        let s := s.onU fun u => u.longEnd l r.1 0 r.2
        if l.frame.cmd = 0x0082 ∧ l.vals.getD 1 0 = 1 then s.warmReset 6 else s

/-! ## Meanings -/

/-- A frame reaches the steward over the service port (0) or a dock lane that is up (1). -/
def Units.frameRx (u : Units) (transport src lane : Nat) (b : List Nat) : Units :=
  if transport = 1 ∧ ¬ u.dockUp lane then u else u.mailboxRx transport src lane b

def execMailboxFrameRx (transport src lane : Nat) (bytes : List Nat) (s : State) : Host.Outcome State Fault Refusal :=
  s.run (decide (transport < 2 ∧ lane < 8)) fun u => u.frameRx transport src lane bytes
def execUnknownCmd (s : State) : Host.Outcome State Fault Refusal := s.runS true fun s => s.unknownCmd cmdCodes.contains
def execLongCmdComplete (i : Nat) (s : State) : Host.Outcome State Fault Refusal := s.runS true fun s => s.longComplete i
def execSessionHello (s : State) : Host.Outcome State Fault Refusal := s.runS true fun s => s.serveOpen 0x0001 fun f u => u.hello f
def execSessionOpen (s : State) : Host.Outcome State Fault Refusal := s.runS true fun s => s.serveOpen 0x0002 fun f u => u.openSession f
def execNonceExpire (t : Nat) (s : State) : Host.Outcome State Fault Refusal := s.run true fun u => u.nonceExpire t
def execAuthBackoffEnd (t : Nat) (s : State) : Host.Outcome State Fault Refusal := s.run true fun u => u.backoffEnd t
def execSessionIdleTimeout (t : Nat) (s : State) : Host.Outcome State Fault Refusal := s.run true fun u => u.idleTimeout t
def execSessionClose (s : State) : Host.Outcome State Fault Refusal :=
  s.runS true fun s => s.serve 0x0003 0 noRes fun f s => s.onU fun u => u.closeSession f
def execPing (s : State) : Host.Outcome State Fault Refusal :=
  s.runS true fun s => s.serveShort 0x0004 0 (· == 0) noRes fun _ u => (sOk, 0, leBytes 8 u.now, u)
def execIdentify (partner : List Nat) (s : State) : Host.Outcome State Fault Refusal :=
  s.runS (partner.length == 24) fun s => s.serveShort 0x0010 0 (· == 0) noRes (identifyCmd partner)
def execCertRead (s : State) : Host.Outcome State Fault Refusal := s.runS true fun s => s.serveShort 0x0011 0 (· == 4) noRes certRead
def execStatusRead (s : State) : Host.Outcome State Fault Refusal := s.runS true fun s => s.serveShort 0x0012 0 (· == 0) noRes statusRead
def execConfigApply (s : State) : Host.Outcome State Fault Refusal := s.runS true fun s => s.serve 0x0020 0 noRes State.configApply
def execConfigRead (s : State) : Host.Outcome State Fault Refusal := s.runS true fun s => s.serve 0x0021 0 noRes State.configRead
def execPstRead (s : State) : Host.Outcome State Fault Refusal := s.runS true fun s => s.serveShort 0x0022 0 (· == 4) noRes pstReadCmd
def execPstWrite (s : State) : Host.Outcome State Fault Refusal := s.runS true fun s => s.serveShort 0x0023 1 (decide <| 4 ≤ ·) noRes pstWriteCmd
def execKeySet (s : State) : Host.Outcome State Fault Refusal := s.runS true fun s => s.serveShort 0x0024 1 (· == 36) noRes keySetCmd
def execPermitSet (s : State) : Host.Outcome State Fault Refusal := s.runS true fun s => s.serveShort 0x0025 1 (· == 16) noRes permitSetCmd
def execCoreHold (s : State) : Host.Outcome State Fault Refusal :=
  s.runS true fun s => s.serve 0x0030 0 noRes fun f => State.coreMask f State.holdNow
def execCoreRelease (s : State) : Host.Outcome State Fault Refusal :=
  s.runS true fun s => s.serve 0x0031 0 noRes fun f => State.coreMask f State.coreRelease
def execProgWrite (s : State) : Host.Outcome State Fault Refusal := s.runS true fun s => s.serve 0x0032 0 noRes State.progWrite
def execWcsOpen (s : State) : Host.Outcome State Fault Refusal :=
  s.runS true fun s => s.serve 0x0033 0 basinRes fun f s => s.onU fun u => u.wcsOpenCmd f
def execWcsWrite (s : State) : Host.Outcome State Fault Refusal := s.runS true fun s => s.serveShort 0x0034 0 (decide <| 4 ≤ ·) basinRes wcsWriteCmd
def execWcsCommit (s : State) : Host.Outcome State Fault Refusal := s.runS true fun s => s.serveShort 0x0035 0 (· == 4) basinRes wcsCommitCmd
def execLogStart (s : State) : Host.Outcome State Fault Refusal :=
  s.runS true fun s => s.serve 0x0040 0 openRes fun f s => s.onU fun u => u.logCmd f true
def execLogStop (s : State) : Host.Outcome State Fault Refusal :=
  s.runS true fun s => s.serve 0x0041 0 openRes fun f s => s.onU fun u => u.logCmd f true
def execSealNow (s : State) : Host.Outcome State Fault Refusal :=
  s.runS true fun s => s.serve 0x0042 0 openRes fun f s => s.onU fun u => u.logCmd f true
def execAnnotate (s : State) : Host.Outcome State Fault Refusal :=
  s.runS true fun s => s.serve 0x0043 0 openRes fun f s => s.onU fun u => u.annotateCmd f
def execVolList (partner : List (List Nat)) (s : State) : Host.Outcome State Fault Refusal :=
  s.runS (partner.all fun e => e.length == 48) fun s => s.serveShort 0x0050 0 (· == 2) noRes (volListCmd partner)
def execVolCreate (s : State) : Host.Outcome State Fault Refusal :=
  s.runS true fun s => s.serve 0x0051 0 openRes fun f s => s.onU fun u => u.logCmd f false
def execVolClose (s : State) : Host.Outcome State Fault Refusal :=
  s.runS true fun s => s.serve 0x0052 0 openRes fun f s => s.onU fun u => u.logCmd f false
def execVolDelete (s : State) : Host.Outcome State Fault Refusal :=
  s.runS true fun s => s.serve 0x0053 1 volRes fun f s => s.onU fun u => u.volDeleteCmd f
def execDownloadStart (s : State) : Host.Outcome State Fault Refusal := s.runS true fun s => s.serveShort 0x0054 0 (· == 36) volRes downloadStartCmd
def execDownloadStop (s : State) : Host.Outcome State Fault Refusal := s.runS true fun s => s.serveShort 0x0055 0 (· == 2) noRes downloadStopCmd
def execPowerState (s : State) : Host.Outcome State Fault Refusal := s.runS true fun s => s.serve 0x0060 0 powerRes State.powerStateCmd
def execModuleReset (s : State) : Host.Outcome State Fault Refusal := s.runS true fun s => s.serve 0x0061 1 noRes State.moduleResetCmd
def execTwinJoin (s : State) : Host.Outcome State Fault Refusal :=
  s.runS true fun s => s.serve 0x0070 0 pairRes fun f s => s.onU fun u => u.twinJoinCmd f
def execTwinLeave (s : State) : Host.Outcome State Fault Refusal :=
  s.runS true fun s => s.serve 0x0071 0 pairRes fun f s => s.onU fun u => u.twinLeaveCmd f
def execFwBegin (s : State) : Host.Outcome State Fault Refusal :=
  s.runS true fun s => s.serve 0x0080 1 fwRes fun f s => s.onU fun u => u.fwBeginCmd f
def execFwData (s : State) : Host.Outcome State Fault Refusal := s.runS true fun s => s.serveShort 0x0081 1 (decide <| 4 ≤ ·) fwRes fwDataCmd
def execFwCommit (s : State) : Host.Outcome State Fault Refusal :=
  s.runS true fun s => s.serve 0x0082 1 fwRes fun f s => s.onU fun u => u.fwCommitCmd f
def execFwStatus (s : State) : Host.Outcome State Fault Refusal := s.runS true fun s => s.serveShort 0x0083 0 (· == 0) noRes fwStatusCmd
def execFwTrialConfirm (t : Nat) (s : State) : Host.Outcome State Fault Refusal := s.run true fun u => u.trialConfirm t

end Sys2Proof.Machine
end

