-- ==== Sys2Proof/Machine/TimeStep.lean ====
section
/-! DEFINITION. A time step takes effect (03_time_and_stamps.md R81): in the time base and every echo at one instant, with
what it does to open packets and records (04_acquisition.md R97, R98; 16_networks.md R392, R393). -/
namespace Sys2Proof.Machine

/-- The step actually taken from time `now`: the result stays within 0 and 2^64 − 1 (R81). -/
def stepTaken (now : Nat) (d : Int) : Int :=
  let x := (now : Int) + d
  (if x < 0 then 0 else if x > 2 ^ 64 - 1 then 2 ^ 64 - 1 else x) - now

/-- The time base and every echo take a step of d ns; what d sums to otherwise leaves them alone. -/
def Units.timeMove (u : Units) (d : Int) : Units :=
  let acc := timeAcc u.tbase u.clock
  let u := u.rebase ((acc : Int) + d * 10 ^ 12).toNat
  { u.echoRealign with tim := { u.echoRealign.tim with steps := u.tim.steps + 1 } }

/-- R539: ACTIVE reads 6 until the host sets the time, which it does by a step. -/
def Units.hostTime (u : Units) : Units := if u.active = 6 then u.setActive 0 else u

/-- R81: the pending step takes effect at tick t. A sum of 0 is no step. -/
def State.timeStep (s : State) (t : Nat) : State :=
  let u := s.u.advance t
  if ¬ u.is Reg.TIM_STATUS.STEP_PEND then s
  else
    let d := u.tim.pendStep
    let u := { u with tim := { u.tim with pendStep := 0 } }.wr Reg.TIM_STATUS.STEP_PEND 0
    let s := { s with u := u }
    let d' := stepTaken u.now d
    if d = 0 then s
    else
      let s := s.sinksClose
      s.onU fun u =>
        let u := (u.timeMove d').hostTime.streamsStep
        (u.count Reg.TIM_STEPS.COUNT Reg.TIM_STEPS.OVF).timEvent 0x01 (ofInt 32 (clampI 2147483647 d'))

/-! ## Meanings -/

def execTimeStepApply (t : Nat) (s : State) : Host.Outcome State Fault Refusal := s.runS true fun s => s.timeStep t

end Sys2Proof.Machine
end

