-- ==== Sys2Proof/Machine/Dispatch.lean ====
section
/-! DEFINITION. The dispatch of commands: one arm per constructor, one meaning per arm. -/
namespace Sys2Proof.Machine

def exec (i : Instr) (s : State) : Host.Outcome State Fault Refusal :=
  match i with
  | .registerWrite who a v => Sys2Proof.Machine.execRegisterWrite who a v s
  | .coreAccessResponse k e => Sys2Proof.Machine.execCoreAccessResponse k e s
  | .storeDrain k e => Sys2Proof.Machine.execStoreDrain k e s
  | .reservationExpire k => Sys2Proof.Machine.execReservationExpire k s
  | .eventEntry k => Sys2Proof.Machine.execEventEntry k s
  | .eventRecordArrive src => Sys2Proof.Machine.execEventRecordArrive src s
  | .evtRingRdWrite k fast v => Sys2Proof.Machine.execEvtRingRdWrite k fast v s
  | .evtRingEnable k fast w => Sys2Proof.Machine.execEvtRingEnable k fast w s
  | .evtSend k w => Sys2Proof.Machine.execEvtSend k w s
  | .nop k => Sys2Proof.Machine.execNop k s
  | .dup k => Sys2Proof.Machine.execDup k s
  | .drop k => Sys2Proof.Machine.execDrop k s
  | .swap k => Sys2Proof.Machine.execSwap k s
  | .over k => Sys2Proof.Machine.execOver k s
  | .rot k => Sys2Proof.Machine.execRot k s
  | .nip k => Sys2Proof.Machine.execNip k s
  | .tuck k => Sys2Proof.Machine.execTuck k s
  | .pick k => Sys2Proof.Machine.execPick k s
  | .toR k => Sys2Proof.Machine.execToR k s
  | .rFrom k => Sys2Proof.Machine.execRFrom k s
  | .rFetch k => Sys2Proof.Machine.execRFetch k s
  | .depth k => Sys2Proof.Machine.execDepth k s
  | .rdrop k => Sys2Proof.Machine.execRdrop k s
  | .add k => Sys2Proof.Machine.execAdd k s
  | .sub k => Sys2Proof.Machine.execSub k s
  | .adc k => Sys2Proof.Machine.execAdc k s
  | .sbc k => Sys2Proof.Machine.execSbc k s
  | .neg k => Sys2Proof.Machine.execNeg k s
  | .abs k => Sys2Proof.Machine.execAbs k s
  | .inc k => Sys2Proof.Machine.execInc k s
  | .dec k => Sys2Proof.Machine.execDec k s
  | .adds k => Sys2Proof.Machine.execAdds k s
  | .subs k => Sys2Proof.Machine.execSubs k s
  | .min k => Sys2Proof.Machine.execMin k s
  | .max k => Sys2Proof.Machine.execMax k s
  | .minu k => Sys2Proof.Machine.execMinu k s
  | .maxu k => Sys2Proof.Machine.execMaxu k s
  | .slt k => Sys2Proof.Machine.execSlt k s
  | .sltu k => Sys2Proof.Machine.execSltu k s
  | .and k => Sys2Proof.Machine.execAnd k s
  | .or k => Sys2Proof.Machine.execOr k s
  | .xor k => Sys2Proof.Machine.execXor k s
  | .not k => Sys2Proof.Machine.execNot k s
  | .shl k => Sys2Proof.Machine.execShl k s
  | .shr k => Sys2Proof.Machine.execShr k s
  | .sar k => Sys2Proof.Machine.execSar k s
  | .rol k => Sys2Proof.Machine.execRol k s
  | .ror k => Sys2Proof.Machine.execRor k s
  | .clz k => Sys2Proof.Machine.execClz k s
  | .popc k => Sys2Proof.Machine.execPopc k s
  | .bswap k => Sys2Proof.Machine.execBswap k s
  | .sexb k => Sys2Proof.Machine.execSexb k s
  | .sexh k => Sys2Proof.Machine.execSexh k s
  | .zexb k => Sys2Proof.Machine.execZexb k s
  | .zexh k => Sys2Proof.Machine.execZexh k s
  | .mul k => Sys2Proof.Machine.execMul k s
  | .mulh k => Sys2Proof.Machine.execMulh k s
  | .mulhu k => Sys2Proof.Machine.execMulhu k s
  | .muld k => Sys2Proof.Machine.execMuld k s
  | .muldu k => Sys2Proof.Machine.execMuldu k s
  | .div k => Sys2Proof.Machine.execDiv k s
  | .divu k => Sys2Proof.Machine.execDivu k s
  | .rem k => Sys2Proof.Machine.execRem k s
  | .remu k => Sys2Proof.Machine.execRemu k s
  | .divmod k => Sys2Proof.Machine.execDivmod k s
  | .divmodu k => Sys2Proof.Machine.execDivmodu k s
  | .ret k => Sys2Proof.Machine.execRet k s
  | .calli k => Sys2Proof.Machine.execCalli k s
  | .jmpi k => Sys2Proof.Machine.execJmpi k s
  | .lit k imm => Sys2Proof.Machine.execLit k imm s
  | .litx k imm => Sys2Proof.Machine.execLitx k imm s
  | .fld k imm => Sys2Proof.Machine.execFld k imm s
  | .fst k imm => Sys2Proof.Machine.execFst k imm s
  | .fadr k imm => Sys2Proof.Machine.execFadr k imm s
  | .br k off => Sys2Proof.Machine.execBr k off s
  | .call k off => Sys2Proof.Machine.execCall k off s
  | .sk k cond keep => Sys2Proof.Machine.execSk k cond keep s
  | .skf k cond => Sys2Proof.Machine.execSkf k cond s
  | .skc k cond keep => Sys2Proof.Machine.execSkc k cond keep s
  | .ski k cond imm keep => Sys2Proof.Machine.execSki k cond imm keep s
  | .inp k off => Sys2Proof.Machine.execInp k off s
  | .out k off => Sys2Proof.Machine.execOut k off s
  | .ldw k => Sys2Proof.Machine.execLdw k s
  | .ldh k => Sys2Proof.Machine.execLdh k s
  | .ldhu k => Sys2Proof.Machine.execLdhu k s
  | .ldb k => Sys2Proof.Machine.execLdb k s
  | .ldbu k => Sys2Proof.Machine.execLdbu k s
  | .stw k => Sys2Proof.Machine.execStw k s
  | .sth k => Sys2Proof.Machine.execSth k s
  | .stb k => Sys2Proof.Machine.execStb k s
  | .ldwInc k => Sys2Proof.Machine.execLdwInc k s
  | .stwInc k => Sys2Proof.Machine.execStwInc k s
  | .ldhInc k => Sys2Proof.Machine.execLdhInc k s
  | .sthInc k => Sys2Proof.Machine.execSthInc k s
  | .ldbuInc k => Sys2Proof.Machine.execLdbuInc k s
  | .stbInc k => Sys2Proof.Machine.execStbInc k s
  | .lr k => Sys2Proof.Machine.execLr k s
  | .sc k => Sys2Proof.Machine.execSc k s
  | .rep k => Sys2Proof.Machine.execRep k s
  | .repi k => Sys2Proof.Machine.execRepi k s
  | .wait k => Sys2Proof.Machine.execWait k s
  | .fence k => Sys2Proof.Machine.execFence k s
  | .rete k => Sys2Proof.Machine.execRete k s
  | .brk k => Sys2Proof.Machine.execBrk k s
  | .swe k => Sys2Proof.Machine.execSwe k s
  | .ldi k => Sys2Proof.Machine.execLdi k s
  | .sti k => Sys2Proof.Machine.execSti k s
  | .iord k => Sys2Proof.Machine.execIord k s
  | .iowr k => Sys2Proof.Machine.execIowr k s
  | .getfp k => Sys2Proof.Machine.execGetfp k s
  | .setfp k => Sys2Proof.Machine.execSetfp k s
  | .getiob k => Sys2Proof.Machine.execGetiob k s
  | .setiob k => Sys2Proof.Machine.execSetiob k s
  | .getcnt k => Sys2Proof.Machine.execGetcnt k s
  | .getst k => Sys2Proof.Machine.execGetst k s
  | .setst k => Sys2Proof.Machine.execSetst k s
  | .dcwb k => Sys2Proof.Machine.execDcwb k s
  | .dcinv k => Sys2Proof.Machine.execDcinv k s
  | .icinv k => Sys2Proof.Machine.execIcinv k s
  | .move k => Sys2Proof.Machine.execMove k s
  | .fill k => Sys2Proof.Machine.execFill k s
  | .crc32c k => Sys2Proof.Machine.execCrc32c k s
  | .crc64 k => Sys2Proof.Machine.execCrc64 k s
  | .sqrtu k => Sys2Proof.Machine.execSqrtu k s
  | .mulq k => Sys2Proof.Machine.execMulq k s
  | .wcsEntry k ix up => Sys2Proof.Machine.execWcsEntry k ix up s
  | .undef k w => Sys2Proof.Machine.execUndef k w s
  | .jcfg k => Sys2Proof.Machine.execJcfg k s
  | .jldc k => Sys2Proof.Machine.execJldc k s
  | .jclr k => Sys2Proof.Machine.execJclr k s
  | .jfir k => Sys2Proof.Machine.execJfir k s
  | .jfft k => Sys2Proof.Machine.execJfft k s
  | .jxcm k => Sys2Proof.Machine.execJxcm k s
  | .pkcfg k => Sys2Proof.Machine.execPkcfg k s
  | .pkenc k => Sys2Proof.Machine.execPkenc k s
  | .pkdec k => Sys2Proof.Machine.execPkdec k s
  | .shinit k => Sys2Proof.Machine.execShinit k s
  | .shblk k => Sys2Proof.Machine.execShblk k s
  | .shchn k => Sys2Proof.Machine.execShchn k s
  | .coreModeWrite k v => Sys2Proof.Machine.execCoreModeWrite k v s
  | .coreApWrite k a v => Sys2Proof.Machine.execCoreApWrite k a v s
  | .coreSpillCfgWrite k t w => Sys2Proof.Machine.execCoreSpillCfgWrite k t w s
  | .bsnMonitorReading n now tj => Sys2Proof.Machine.execBsnMonitorReading n now tj s
  | .bsnVctrlUpdate n => Sys2Proof.Machine.execBsnVctrlUpdate n s
  | .bsnVctrlWrite n v => Sys2Proof.Machine.execBsnVctrlWrite n v s
  | .bsnVlimWrite n v => Sys2Proof.Machine.execBsnVlimWrite n v s
  | .bsnTokmaxClr n => Sys2Proof.Machine.execBsnTokmaxClr n s
  | .bsnWcsOpen n => Sys2Proof.Machine.execBsnWcsOpen n s
  | .wcsLoadingReached n => Sys2Proof.Machine.execWcsLoadingReached n s
  | .bsnWcsWrite n => Sys2Proof.Machine.execBsnWcsWrite n s
  | .bsnWcsRead n => Sys2Proof.Machine.execBsnWcsRead n s
  | .bsnWcsCommit n => Sys2Proof.Machine.execBsnWcsCommit n s
  | .wcsCommitDone n => Sys2Proof.Machine.execWcsCommitDone n s
  | .bsnWcsAbort n => Sys2Proof.Machine.execBsnWcsAbort n s
  | .angEnable n => Sys2Proof.Machine.execAngEnable n s
  | .angDisable n => Sys2Proof.Machine.execAngDisable n s
  | .angResync n => Sys2Proof.Machine.execAngResync n s
  | .angToothEdge n t fwd => Sys2Proof.Machine.execAngToothEdge n t fwd s
  | .angCamEdge n t => Sys2Proof.Machine.execAngCamEdge n t s
  | .angCycleWrap n t => Sys2Proof.Machine.execAngCycleWrap n t s
  | .angStallTimeout n t => Sys2Proof.Machine.execAngStallTimeout n t s
  | .angDirPulseEnd n t => Sys2Proof.Machine.execAngDirPulseEnd n t s
  | .resLoopUpdate n t angle err ampl => Sys2Proof.Machine.execResLoopUpdate n t angle err ampl s
  | .hallTransition n t uvw => Sys2Proof.Machine.execHallTransition n t uvw s
  | .encStep n t mv => Sys2Proof.Machine.execEncStep n t mv s
  | .encZEdge n t => Sys2Proof.Machine.execEncZEdge n t s
  | .angSchedBWrite n b w => Sys2Proof.Machine.execAngSchedBWrite n b w s
  | .angSchedCommit n => Sys2Proof.Machine.execAngSchedCommit n s
  | .angSortDone n => Sys2Proof.Machine.execAngSortDone n s
  | .angDoneWrite n ix w => Sys2Proof.Machine.execAngDoneWrite n ix w s
  | .schedEventOnly n t => Sys2Proof.Machine.execSchedEventOnly n t s
  | .schedAinGroup n t => Sys2Proof.Machine.execSchedAinGroup n t s
  | .schedFinConvert n t => Sys2Proof.Machine.execSchedFinConvert n t s
  | .schedTrgHigh n t => Sys2Proof.Machine.execSchedTrgHigh n t s
  | .schedTrgLow n t => Sys2Proof.Machine.execSchedTrgLow n t s
  | .schedTrgToggle n t => Sys2Proof.Machine.execSchedTrgToggle n t s
  | .schedSluiceRequest n t => Sys2Proof.Machine.execSchedSluiceRequest n t s
  | .schedDinSnapshot n t => Sys2Proof.Machine.execSchedDinSnapshot n t s
  | .schedOpen n t => Sys2Proof.Machine.execSchedOpen n t s
  | .schedDeadline n t => Sys2Proof.Machine.execSchedDeadline n t s
  | .timeStepWrite hi => Sys2Proof.Machine.execTimeStepWrite hi s
  | .timeStepApply t => Sys2Proof.Machine.execTimeStepApply t s
  | .timeEchoRealign => Sys2Proof.Machine.execTimeEchoRealign s
  | .ppsEdge t sub => Sys2Proof.Machine.execPpsEdge t sub s
  | .ppsHoldover t => Sys2Proof.Machine.execPpsHoldover t s
  | .gptpSyncRx port t offset => Sys2Proof.Machine.execGptpSyncRx port t offset s
  | .gptpPdelay port delay => Sys2Proof.Machine.execGptpPdelay port delay s
  | .gptpAnnounce port a => Sys2Proof.Machine.execGptpAnnounce port a s
  | .timNowLoRead who => Sys2Proof.Machine.execTimNowLoRead who s
  | .rtcSecondWrite t => Sys2Proof.Machine.execRtcSecondWrite t s
  | .rtcAlarm t => Sys2Proof.Machine.execRtcAlarm t s
  | .streamEnable ix => Sys2Proof.Machine.execStreamEnable ix s
  | .streamDisable ix => Sys2Proof.Machine.execStreamDisable ix s
  | .ainGo g t => Sys2Proof.Machine.execAinGo g t s
  | .finGo n t => Sys2Proof.Machine.execFinGo n t s
  | .finCreset n => Sys2Proof.Machine.execFinCreset n s
  | .dinSnapGo g t => Sys2Proof.Machine.execDinSnapGo g t s
  | .streamGridPoint ix t => Sys2Proof.Machine.execStreamGridPoint ix t s
  | .conversionRequestArrive ix t => Sys2Proof.Machine.execConversionRequestArrive ix t s
  | .ainDinTrigger g t => Sys2Proof.Machine.execAinDinTrigger g t s
  | .conversionResult ix codes exc => Sys2Proof.Machine.execConversionResult ix codes exc s
  | .aclkPoint n t => Sys2Proof.Machine.execAclkPoint n t s
  | .finBurstNext n t => Sys2Proof.Machine.execFinBurstNext n t s
  | .packetAgeExpire ix => Sys2Proof.Machine.execPacketAgeExpire ix s
  | .bufferToRunnel ix => Sys2Proof.Machine.execBufferToRunnel ix s
  | .dinEdge n t level => Sys2Proof.Machine.execDinEdge n t level s
  | .dinDropRecord g => Sys2Proof.Machine.execDinDropRecord g s
  | .dinMeasTimeout n => Sys2Proof.Machine.execDinMeasTimeout n s
  | .overrunReport ix => Sys2Proof.Machine.execOverrunReport ix s
  | .excEnable n => Sys2Proof.Machine.execExcEnable n s
  | .excDisable n => Sys2Proof.Machine.execExcDisable n s
  | .excReady n => Sys2Proof.Machine.execExcReady n s
  | .excMeasure mv cur mw => Sys2Proof.Machine.execExcMeasure mv cur mw s
  | .excShed => Sys2Proof.Machine.execExcShed s
  | .trgEnable n => Sys2Proof.Machine.execTrgEnable n s
  | .trgDisable n => Sys2Proof.Machine.execTrgDisable n s
  | .trgSetHigh n => Sys2Proof.Machine.execTrgSetHigh n s
  | .trgSetLow n => Sys2Proof.Machine.execTrgSetLow n s
  | .trgSetToggle n => Sys2Proof.Machine.execTrgSetToggle n s
  | .trgActionApply q t => Sys2Proof.Machine.execTrgActionApply q t s
  | .trgWidthReturn n t => Sys2Proof.Machine.execTrgWidthReturn n t s
  | .trgDeferredChange n t => Sys2Proof.Machine.execTrgDeferredChange n t s
  | .diagScan found => Sys2Proof.Machine.execDiagScan found s
  | .openWireTest cls n pos neg => Sys2Proof.Machine.execOpenWireTest cls n pos neg s
  | .outputFaultDetect trg n code => Sys2Proof.Machine.execOutputFaultDetect trg n code s
  | .excFoldback n => Sys2Proof.Machine.execExcFoldback n s
  | .excFoldbackEnd n => Sys2Proof.Machine.execExcFoldbackEnd n s
  | .excLatchOff n => Sys2Proof.Machine.execExcLatchOff n s
  | .excRetry n => Sys2Proof.Machine.execExcRetry n s
  | .excSenseRestore n => Sys2Proof.Machine.execExcSenseRestore n s
  | .trgLatchOff n t => Sys2Proof.Machine.execTrgLatchOff n t s
  | .trgRetry n t => Sys2Proof.Machine.execTrgRetry n t s
  | .runClaim r who => Sys2Proof.Machine.execRunClaim r who s
  | .runRelease r who => Sys2Proof.Machine.execRunRelease r who s
  | .runOpen r who => Sys2Proof.Machine.execRunOpen r who s
  | .runPush r who w window => Sys2Proof.Machine.execRunPush r who w window s
  | .runPushTimeout r => Sys2Proof.Machine.execRunPushTimeout r s
  | .runClose r who ce ue => Sys2Proof.Machine.execRunClose r who ce ue s
  | .runPop r port err => Sys2Proof.Machine.execRunPop r port err s
  | .runTailRequest r => Sys2Proof.Machine.execRunTailRequest r s
  | .runFlush r => Sys2Proof.Machine.execRunFlush r s
  | .slcGo c => Sys2Proof.Machine.execSlcGo c s
  | .slcPause c => Sys2Proof.Machine.execSlcPause c s
  | .slcResume c => Sys2Proof.Machine.execSlcResume c s
  | .slcAbort c => Sys2Proof.Machine.execSlcAbort c s
  | .slcClrreq c => Sys2Proof.Machine.execSlcClrreq c s
  | .slcRequest c => Sys2Proof.Machine.execSlcRequest c s
  | .slcRequestWithdraw c => Sys2Proof.Machine.execSlcRequestWithdraw c s
  | .slcBurstStart c => Sys2Proof.Machine.execSlcBurstStart c s
  | .slcReadResponse c => Sys2Proof.Machine.execSlcReadResponse c s
  | .slcWriteAck c => Sys2Proof.Machine.execSlcWriteAck c s
  | .slcReadbackReturn c => Sys2Proof.Machine.execSlcReadbackReturn c s
  | .slcError c dir e => Sys2Proof.Machine.execSlcError c dir e s
  | .weirGrantWaiting => Sys2Proof.Machine.execWeirGrantWaiting s
  | .weirReserve who r n => Sys2Proof.Machine.execWeirReserve who r n s
  | .refusalIntervalTimeout => Sys2Proof.Machine.execRefusalIntervalTimeout s
  | .weirRgnEnable r => Sys2Proof.Machine.execWeirRgnEnable r s
  | .weirRgnDisable r => Sys2Proof.Machine.execWeirRgnDisable r s
  | .weirRgnRewind r => Sys2Proof.Machine.execWeirRgnRewind r s
  | .weirGraceWrite v => Sys2Proof.Machine.execWeirGraceWrite v s
  | .weirDepthUpdate => Sys2Proof.Machine.execWeirDepthUpdate s
  | .ringDoorbell n => Sys2Proof.Machine.execRingDoorbell n s
  | .ringResume n => Sys2Proof.Machine.execRingResume n s
  | .ringAbort n => Sys2Proof.Machine.execRingAbort n s
  | .ringFetchFault n timeout => Sys2Proof.Machine.execRingFetchFault n timeout s
  | .ringIdleFetch n => Sys2Proof.Machine.execRingIdleFetch n s
  | .descPost n unc => Sys2Proof.Machine.execDescPost n unc s
  | .descRelease n => Sys2Proof.Machine.execDescRelease n s
  | .descRead n => Sys2Proof.Machine.execDescRead n s
  | .descReadDone n ce lost => Sys2Proof.Machine.execDescReadDone n ce lost s
  | .descLink n => Sys2Proof.Machine.execDescLink n s
  | .descNop n => Sys2Proof.Machine.execDescNop n s
  | .descFence n => Sys2Proof.Machine.execDescFence n s
  | .sealSignatureDone => Sys2Proof.Machine.execSealSignatureDone s
  | .stripePadTimeout => Sys2Proof.Machine.execStripePadTimeout s
  | .groupCommit => Sys2Proof.Machine.execGroupCommit s
  | .eraseStart die block => Sys2Proof.Machine.execEraseStart die block s
  | .eraseDone die block => Sys2Proof.Machine.execEraseDone die block s
  | .eraseAllowanceRefill die => Sys2Proof.Machine.execEraseAllowanceRefill die s
  | .flashOpFail die block erase => Sys2Proof.Machine.execFlashOpFail die block erase s
  | .dieTimeout die => Sys2Proof.Machine.execDieTimeout die s
  | .rebuildDone die => Sys2Proof.Machine.execRebuildDone die s
  | .reservoirRecoveryDone kept torn => Sys2Proof.Machine.execReservoirRecoveryDone kept torn s
  | .dipStart => Sys2Proof.Machine.execDipStart s
  | .dipEnd low => Sys2Proof.Machine.execDipEnd low s
  | .supplyLossDeclare => Sys2Proof.Machine.execSupplyLossDeclare s
  | .flushGraceEnd => Sys2Proof.Machine.execFlushGraceEnd s
  | .flushComplete t input => Sys2Proof.Machine.execFlushComplete t input s
  | .fabricTimeout kind ix => Sys2Proof.Machine.execFabricTimeout kind ix s
  | .fabricLateResponse ix performed => Sys2Proof.Machine.execFabricLateResponse ix performed s
  | .pulseDeliver line => Sys2Proof.Machine.execPulseDeliver line s
  | .pulseAck line => Sys2Proof.Machine.execPulseAck line s
  | .domainWakeRequest d => Sys2Proof.Machine.execDomainWakeRequest d s
  | .domainWakeDone d ns => Sys2Proof.Machine.execDomainWakeDone d ns s
  | .domainAutoStop d => Sys2Proof.Machine.execDomainAutoStop d s
  | .dormantReport d => Sys2Proof.Machine.execDormantReport d s
  | .fabDbgWrite on => Sys2Proof.Machine.execFabDbgWrite on s
  | .debugAccess write a v => Sys2Proof.Machine.execDebugAccess write a v s
  | .switchFrameRx p f err t => Sys2Proof.Machine.execSwitchFrameRx p f err t s
  | .switchFrameTx p t => Sys2Proof.Machine.execSwitchFrameTx p t s
  | .gateIntervalEnd p => Sys2Proof.Machine.execGateIntervalEnd p s
  | .gclActivate p => Sys2Proof.Machine.execGclActivate p s
  | .macAgeing => Sys2Proof.Machine.execMacAgeing s
  | .netLinkUp p rate master => Sys2Proof.Machine.execNetLinkUp p rate master s
  | .netLinkDown p => Sys2Proof.Machine.execNetLinkDown p s
  | .tc10Sleep p => Sys2Proof.Machine.execTc10Sleep p s
  | .tc10Wake p wur => Sys2Proof.Machine.execTc10Wake p wur s
  | .netPdiagRun p => Sys2Proof.Machine.execNetPdiagRun p s
  | .netPdiagDone p result dist => Sys2Proof.Machine.execNetPdiagDone p result dist s
  | .sqiLow p sqi => Sys2Proof.Machine.execSqiLow p sqi s
  | .endpointDatagram f => Sys2Proof.Machine.execEndpointDatagram f s
  | .sinkEnable x => Sys2Proof.Machine.execSinkEnable x s
  | .sinkDisable x => Sys2Proof.Machine.execSinkDisable x s
  | .sinkPiece x => Sys2Proof.Machine.execSinkPiece x s
  | .sinkAgeExpire x => Sys2Proof.Machine.execSinkAgeExpire x s
  | .canFrameSeen n f t => Sys2Proof.Machine.execCanFrameSeen n f t s
  | .canRxpop n => Sys2Proof.Machine.execCanRxpop n s
  | .canTxpush n w => Sys2Proof.Machine.execCanTxpush n w s
  | .canTxGo n tag => Sys2Proof.Machine.execCanTxGo n tag s
  | .canFrameStart n => Sys2Proof.Machine.execCanFrameStart n s
  | .canTxDone n => Sys2Proof.Machine.execCanTxDone n s
  | .canTokenRefill n => Sys2Proof.Machine.execCanTokenRefill n s
  | .canDominantTimeout n => Sys2Proof.Machine.execCanDominantTimeout n s
  | .canPermitLoad n => Sys2Proof.Machine.execCanPermitLoad n s
  | .canErrorState n st tec rec => Sys2Proof.Machine.execCanErrorState n st tec rec s
  | .camPacketRx n vc p bad t => Sys2Proof.Machine.execCamPacketRx n vc p bad t s
  | .camLockChange n gear => Sys2Proof.Machine.execCamLockChange n gear s
  | .camI2cGo n => Sys2Proof.Machine.execCamI2cGo n s
  | .camI2cDone n data nack => Sys2Proof.Machine.execCamI2cDone n data nack s
  | .dockPresent => Sys2Proof.Machine.execDockPresent s
  | .dockAbsent => Sys2Proof.Machine.execDockAbsent s
  | .dockLaneUp l => Sys2Proof.Machine.execDockLaneUp l s
  | .dockLaneDown l => Sys2Proof.Machine.execDockLaneDown l s
  | .downloadDatagram num l => Sys2Proof.Machine.execDownloadDatagram num l s
  | .dockDatagramRx l host src port b => Sys2Proof.Machine.execDockDatagramRx l host src port b s
  | .dockPauseFrame l quanta => Sys2Proof.Machine.execDockPauseFrame l quanta s
  | .queuePop twin q => Sys2Proof.Machine.execQueuePop twin q s
  | .queuePush twin q w => Sys2Proof.Machine.execQueuePush twin q w s
  | .twinLaneUp l => Sys2Proof.Machine.execTwinLaneUp l s
  | .twinHelloTimer => Sys2Proof.Machine.execTwinHelloTimer s
  | .twinHelloMiss l => Sys2Proof.Machine.execTwinHelloMiss l s
  | .twinRetryTimeout => Sys2Proof.Machine.execTwinRetryTimeout s
  | .twinHelloRx l bytes => Sys2Proof.Machine.execTwinHelloRx l bytes s
  | .twinMailboxRelayRx l bytes => Sys2Proof.Machine.execTwinMailboxRelayRx l bytes s
  | .twinQueueDataRx l bytes => Sys2Proof.Machine.execTwinQueueDataRx l bytes s
  | .twinTimeTransferTx => Sys2Proof.Machine.execTwinTimeTransferTx s
  | .twinTimeTransferRx l bytes => Sys2Proof.Machine.execTwinTimeTransferRx l bytes s
  | .twinPartnerIndexRx l bytes => Sys2Proof.Machine.execTwinPartnerIndexRx l bytes s
  | .partnerIndexAdmit => Sys2Proof.Machine.execPartnerIndexAdmit s
  | .twinJoinFrameRx l bytes => Sys2Proof.Machine.execTwinJoinFrameRx l bytes s
  | .twinAcceptRx l bytes => Sys2Proof.Machine.execTwinAcceptRx l bytes s
  | .twinStateTx => Sys2Proof.Machine.execTwinStateTx s
  | .twinStateRx l bytes => Sys2Proof.Machine.execTwinStateRx l bytes s
  | .fpExchangeTimer => Sys2Proof.Machine.execFpExchangeTimer s
  | .twinFprintRx l bytes stale => Sys2Proof.Machine.execTwinFprintRx l bytes stale s
  | .twinDelayRx l bytes => Sys2Proof.Machine.execTwinDelayRx l bytes s
  | .twinPaircmdRx l bytes => Sys2Proof.Machine.execTwinPaircmdRx l bytes s
  | .twinLeaveFrameRx l bytes => Sys2Proof.Machine.execTwinLeaveFrameRx l bytes s
  | .twinJoinTimeout t => Sys2Proof.Machine.execTwinJoinTimeout t s
  | .twinAttach => Sys2Proof.Machine.execTwinAttach s
  | .syncFrameTx t => Sys2Proof.Machine.execSyncFrameTx t s
  | .syncFrameRx t bytes => Sys2Proof.Machine.execSyncFrameRx t bytes s
  | .syncWireUnlock t => Sys2Proof.Machine.execSyncWireUnlock t s
  | .syncProbe t => Sys2Proof.Machine.execSyncProbe t s
  | .syncProbeAnswer => Sys2Proof.Machine.execSyncProbeAnswer s
  | .syncProbeReturn roundTrip => Sys2Proof.Machine.execSyncProbeReturn roundTrip s
  | .mailboxFrameRx transport src lane bytes => Sys2Proof.Machine.execMailboxFrameRx transport src lane bytes s
  | .unknownCmd => Sys2Proof.Machine.execUnknownCmd s
  | .longCmdComplete ix => Sys2Proof.Machine.execLongCmdComplete ix s
  | .sessionHello => Sys2Proof.Machine.execSessionHello s
  | .sessionOpen => Sys2Proof.Machine.execSessionOpen s
  | .nonceExpire t => Sys2Proof.Machine.execNonceExpire t s
  | .authBackoffEnd t => Sys2Proof.Machine.execAuthBackoffEnd t s
  | .sessionIdleTimeout t => Sys2Proof.Machine.execSessionIdleTimeout t s
  | .sessionClose => Sys2Proof.Machine.execSessionClose s
  | .ping => Sys2Proof.Machine.execPing s
  | .identify partner => Sys2Proof.Machine.execIdentify partner s
  | .certRead => Sys2Proof.Machine.execCertRead s
  | .statusRead => Sys2Proof.Machine.execStatusRead s
  | .configApply => Sys2Proof.Machine.execConfigApply s
  | .configRead => Sys2Proof.Machine.execConfigRead s
  | .pstRead => Sys2Proof.Machine.execPstRead s
  | .pstWrite => Sys2Proof.Machine.execPstWrite s
  | .keySet => Sys2Proof.Machine.execKeySet s
  | .permitSet => Sys2Proof.Machine.execPermitSet s
  | .coreHold => Sys2Proof.Machine.execCoreHold s
  | .coreRelease => Sys2Proof.Machine.execCoreRelease s
  | .progWrite => Sys2Proof.Machine.execProgWrite s
  | .wcsOpen => Sys2Proof.Machine.execWcsOpen s
  | .wcsWrite => Sys2Proof.Machine.execWcsWrite s
  | .wcsCommit => Sys2Proof.Machine.execWcsCommit s
  | .logStart => Sys2Proof.Machine.execLogStart s
  | .logStop => Sys2Proof.Machine.execLogStop s
  | .sealNow => Sys2Proof.Machine.execSealNow s
  | .annotate => Sys2Proof.Machine.execAnnotate s
  | .volList partner => Sys2Proof.Machine.execVolList partner s
  | .volCreate => Sys2Proof.Machine.execVolCreate s
  | .volClose => Sys2Proof.Machine.execVolClose s
  | .volDelete => Sys2Proof.Machine.execVolDelete s
  | .downloadStart => Sys2Proof.Machine.execDownloadStart s
  | .downloadStop => Sys2Proof.Machine.execDownloadStop s
  | .powerState => Sys2Proof.Machine.execPowerState s
  | .moduleReset => Sys2Proof.Machine.execModuleReset s
  | .twinJoin => Sys2Proof.Machine.execTwinJoin s
  | .twinLeave => Sys2Proof.Machine.execTwinLeave s
  | .fwBegin => Sys2Proof.Machine.execFwBegin s
  | .fwData => Sys2Proof.Machine.execFwData s
  | .fwCommit => Sys2Proof.Machine.execFwCommit s
  | .fwStatus => Sys2Proof.Machine.execFwStatus s
  | .fwTrialConfirm t => Sys2Proof.Machine.execFwTrialConfirm t s
  | .pstWordWrite ix v => Sys2Proof.Machine.execPstWordWrite ix v s
  | .fpPublish => Sys2Proof.Machine.execFpPublish s
  | .powerSample mv load vres mw reverse => Sys2Proof.Machine.execPowerSample mv load vres mw reverse s
  | .ignChange on => Sys2Proof.Machine.execIgnChange on s
  | .chargerPhaseChange vres cap => Sys2Proof.Machine.execChargerPhaseChange vres cap s
  | .capTest mf => Sys2Proof.Machine.execCapTest mf s
  | .powerEntryDrained => Sys2Proof.Machine.execPowerEntryDrained s
  | .powerPrepTimeout => Sys2Proof.Machine.execPowerPrepTimeout s
  | .basinStop => Sys2Proof.Machine.execBasinStop s
  | .basinStopTimeout => Sys2Proof.Machine.execBasinStopTimeout s
  | .powerEntryComplete => Sys2Proof.Machine.execPowerEntryComplete s
  | .wake src idx => Sys2Proof.Machine.execWake src idx s
  | .brownout => Sys2Proof.Machine.execBrownout s
  | .releaseStepDone verify0 verify1 => Sys2Proof.Machine.execReleaseStepDone verify0 verify1 s
  | .trimLoad copyA copyB resp part stepping => Sys2Proof.Machine.execTrimLoad copyA copyB resp part stepping s
  | .trimRetry copyA copyB resp part stepping => Sys2Proof.Machine.execTrimRetry copyA copyB resp part stepping s
  | .trimFaultReport => Sys2Proof.Machine.execTrimFaultReport s
  | .commitDrainDone => Sys2Proof.Machine.execCommitDrainDone s
  | .watchdogKick t => Sys2Proof.Machine.execWatchdogKick t s
  | .watchdogExpire t => Sys2Proof.Machine.execWatchdogExpire t s
  | .rstHeldWrite hi v => Sys2Proof.Machine.execRstHeldWrite hi v s
  | .coreHoldDone k => Sys2Proof.Machine.execCoreHoldDone k s
  | .rstBlockGo v => Sys2Proof.Machine.execRstBlockGo v s
  | .blockResetDone => Sys2Proof.Machine.execBlockResetDone s
  | .thermalGovernor baseT nandT resT => Sys2Proof.Machine.execThermalGovernor baseT nandT resT s
  | .nandThermalHold => Sys2Proof.Machine.execNandThermalHold s
  | .thermalTrip => Sys2Proof.Machine.execThermalTrip s
  | .powerOn => Sys2Proof.Machine.execPowerOn s
  | .chargeResetDone n => Sys2Proof.Machine.execChargeResetDone n s
  | .coprocessorOpDone unit kind delay pos => Sys2Proof.Machine.execCoprocessorOpDone unit kind delay pos s
  | .canLineFault n code => Sys2Proof.Machine.execCanLineFault n code s
  | .gptpMessageTx port kind => Sys2Proof.Machine.execGptpMessageTx port kind s

end Sys2Proof.Machine
end

