-- ==== Sys2Proof/Machine/Step.lean ====
section
/-! DEFINITION. One step of the block: the command at the front of the queue, or one tick of CD03 when nothing waits. -/
namespace Sys2Proof.Machine

/-- With no command waiting, time goes on by one CD03 tick of 2.5 ns (02_angle_bases.md R35) and nothing else happens.
DESIGN CHOICE: what the passing of time brings about is a command of its own (a row of the table), so a tick moves only the
clock. -/
def State.idle (s : State) : State := s.onU fun u => u.advance (u.clock + 1)

/-- The command at the front of the queue takes effect on the state with the rest of the queue. -/
def step (s : State) : Host.Outcome State Fault Refusal :=
  match s.pending with
  | [] => .next s.idle
  | c :: rest => exec c { s with pending := rest }

/-- The state with the command that a table word spells put at the front of its queue; unchanged where the word spells
none. -/
def State.withFetchWord (s : State) (nbits w : Nat) : State :=
  match decodeTableWord nbits w with
  | some c => { s with pending := c :: s.pending }
  | none => s

end Sys2Proof.Machine
end

