-- ==== Sys2Proof/Safety.lean ====
section
/-! DEFINITION. What counts as a safe run of the block, in the terms statements use. -/
namespace Sys2Proof.Machine

/-- The machine's standing invariant: memory is in its canonical form, so that equal memories are equal data. -/
def State.Inv (s : State) : Prop := Memory.wf s.mem = true

/-- Every waiting command is one a sender can send. -/
def State.Fed (s : State) : Prop := ∀ c ∈ s.pending, c.wf = true

/-- A command completes, and its next state satisfies P. -/
def Completes (c : Instr) (s : State) (P : State → Prop) : Prop := ∃ t, exec c s = .next t ∧ P t

/-- A run of n steps from s ends in no fault and no refusal. -/
def RunsSafely : Nat → State → Prop
  | 0, _ => True
  | n + 1, s => ∃ t, step s = .next t ∧ RunsSafely n t

end Sys2Proof.Machine
end

