-- ==== Sys2Proof/Certificates/Slice0/Obligations.lean ====
section
/-! DEFINITION. The statements for the provers, and the vocabulary they are written in. A statement of what a command does
has as its conclusion that exec answers a next state, and says what that state holds. -/

namespace Sys2Proof.Machine

/-! ## Vocabulary -/

/-- Every register field outside a list reads as before. -/
def RegsKept (u v : Units) (except : List Fld) : Prop := ∀ f : Fld, f.key ∉ except.map Fld.key → v.rd f = u.rd f

/-- Every byte of memory reads as before, and the commands waiting are the same. -/
def MemKept (s t : State) : Prop := (∀ a, t.byte a = s.byte a) ∧ t.pending = s.pending

/-- Nothing but register fields of a list has changed. -/
def OnlyRegs (s t : State) (except : List Fld) : Prop :=
  MemKept s t ∧ RegsKept s.u t.u except ∧ { t.u with regs := s.u.regs } = s.u

/-- Command c completes: the fields of `vals` read as given, every other field but those of `other` reads as before, memory and
the waiting commands are as before, and the rest of the next state satisfies P. -/
def Sets (c : Instr) (s : State) (vals : List (Fld × Nat)) (other : List Fld := []) (P : State → Prop := fun _ => True) : Prop :=
  Completes c s fun t => (∀ p ∈ vals, t.u.rd p.1 = p.2) ∧ RegsKept s.u t.u (vals.map Prod.fst ++ other) ∧ MemKept s t ∧ P t

/-- Every register outside some address ranges reads as before. -/
def KeptOutside (u v : Units) (zs : List (Nat × Nat)) : Prop :=
  ∀ f : Fld, (∀ z ∈ zs, f.key / 32 < z.1 ∨ z.2 ≤ f.key / 32) → v.rd f = u.rd f

/-- Command c completes: the fields of `vals` read as given, memory and the waiting commands are as before, and the rest of the
next state satisfies P. -/
def Gives (c : Instr) (s : State) (vals : List (Fld × Nat)) (P : State → Prop := fun _ => True) : Prop :=
  Completes c s fun t => (∀ p ∈ vals, t.u.rd p.1 = p.2) ∧ MemKept s t ∧ P t

/-- The registers of angle engine n. -/
def angZone (n : Nat) : Nat × Nat := (0x100000 + 0x1000 * n, 0x101000 + 0x1000 * n)

/-- No fast input has an angle-clock window in progress, so that losing the angle closes none (R114). -/
def NoWindows (s : State) : Prop := ∀ i, i < 16 → (s.u.strm (32 + i)).win = none

/-- What a counter of the common layout reads after n more (01_architecture.md R12): it stops at 0x7FFF_FFFF and sets OVF. -/
def Units.counted (u : Units) (c o : Fld) (n : Nat) : List (Fld × Nat) :=
  if u.rd c + n ≤ 0x7FFFFFFF then [(c, u.rd c + n), (o, u.rd o)] else [(c, 0x7FFFFFFF), (o, 1)]

/-- The record of an event at tick t, as it joins its source's queue (13_events.md R333, R341). -/
def Units.eventAt (u : Units) (t src kind pay : Nat) : EvRec :=
  ⟨src, kind, pay % 2 ^ 32, u.timeAt t % 2 ^ 32, [u.angleWord 0 t, u.angleWord 1 t, u.angleWord 2 t, u.angleWord 3 t]⟩

/-- Between s and t a source emits exactly these records, or finds its queue full and remembers the loss (R341). -/
def Emits (s t : State) (src : Nat) (rs : List EvRec) : Prop :=
  if (s.u.evQueue src).q.length + rs.length ≤ evDepth src then (t.u.evQueue src).q = (s.u.evQueue src).q ++ rs
  else (t.u.evQueue src).lost = true

/-- One event of the present instant. -/
def EmitsNow (s t : State) (src kind pay : Nat) : Prop := Emits s t src [s.u.eventAt s.u.clock src kind pay]

/-- No source has emitted anything. -/
def Silent (s t : State) : Prop := t.u.evq = s.u.evq

/-! ## Cores: an instruction issues and completes -/

/-- Counters and STATUS.RS, which every completed instruction may write. -/
def retireRegs (k : Nat) : List Fld :=
  [Reg.CORE_INSNS.COUNT k, Reg.CORE_INSNS.OVF k, Reg.CORE_TOKS.COUNT k, Reg.CORE_TOKS.OVF k, Reg.CORE_PAIRS.COUNT k,
   Reg.CORE_PAIRS.OVF k, Reg.CORE_STATUS.RS k]

/-- Core k issues an instruction whose operands `args` (top first) lie in its stack registers above `rest`, and whose n
results fit them beside the rest. -/
def Issues (s : State) (k : Nat) (args rest : List Nat) (n : Nat) : Prop :=
  k < 65 ∧ s.u.coreFresh k = true ∧ s.u.stk k (s.u.dsT k) = args ++ rest ∧ n + rest.length ≤ 16

/-- The other cores are as they were. -/
def OthersKept (s t : State) (k : Nat) : Prop := ∀ j, j ≠ k → t.u.cpuOf j = s.u.cpuOf j

/-- A flag after an instruction: the value written, or as before. -/
def FlagIs (s t : State) (f : Fld) (w : Option Bool) : Prop := t.u.rd f = match w with | some b => b2n b | none => s.u.rd f

/-- The instruction completes with its results (top first) in place of its operands, the pc on the next word, C and V as
given, and nothing else changed. -/
def StackStep (s : State) (k : Nat) (i : Instr) (rest res : List Nat) (c v : Option Bool) : Prop :=
  Completes i s fun t =>
    t.u.stk k (s.u.dsT k) = res ++ rest ∧ (∀ n, n < 4 → n ≠ s.u.dsT k → t.u.stk k n = s.u.stk k n) ∧
    t.u.pcOf k = (s.u.pcOf k + 1) % 2 ^ 32 ∧ FlagIs s t (Reg.CORE_STATUS.C k) c ∧ FlagIs s t (Reg.CORE_STATUS.V k) v ∧
    RegsKept s.u t.u (retireRegs k ++ [Reg.CORE_STATUS.C k, Reg.CORE_STATUS.V k]) ∧ OthersKept s t k ∧ MemKept s t

/-- One line of the instruction table: the instruction, its results (top first), C and V where it writes them. -/
structure Law where
  instr : Instr
  res : List Nat
  c : Option Bool := none
  v : Option Bool := none

def Law.holds (l : Law) (s : State) (k : Nat) (rest : List Nat) : Prop := StackStep s k l.instr rest l.res l.c l.v

/-- What an instruction of core k leaves: the entries of the operand and the return stack of the bank in use, the next pc, the
other cores, memory, and every register field but the core's counters and those of `fl`. -/
def CoreAfter (s t : State) (k : Nat) (ds rs : List Nat) (pc : Nat) (fl : List Fld) : Prop :=
  t.u.stk k (s.u.dsT k) = ds ∧ t.u.stk k (s.u.rsT k) = rs ∧ t.u.pcOf k = pc % 2 ^ 32 ∧ OthersKept s t k ∧
    RegsKept s.u t.u (retireRegs k ++ fl) ∧ MemKept s t

/-- As Issues, for both stacks of the bank in use. -/
def IssuesBoth (s : State) (k : Nat) (args rest : List Nat) (n : Nat) (rargs rrest : List Nat) (m : Nat) : Prop :=
  Issues s k args rest n ∧ s.u.stk k (s.u.rsT k) = rargs ++ rrest ∧ m + rrest.length ≤ 8

/-- A synchronous fast-class event of core k: it awaits entry as the cause, or, with the fast class active, stops the core
(13_events.md R329, R332). -/
def Raises (s t : State) (k kind pay : Nat) : Prop :=
  if s.u.is (Reg.EVT_ACTIVE.FACT k) then (t.u.cpuOf k).stopped = true
  else (t.u.cpuOf k).sync = some ⟨kind, pay % 2 ^ 32, false⟩

/-- A signed number of w bits. -/
def signedOf (w v : Nat) : Int := if v < 2 ^ (w - 1) then v else (v : Int) - 2 ^ w
/-- An integer modulo 2^32. -/
def word32 (i : Int) : Nat := (i % 4294967296).toNat

/-- An integer lies outside the signed 32-bit range. -/
def wide (i : Int) : Bool := decide (i < -2147483648) || decide (2147483647 < i)
/-- An integer held to the signed 32-bit range, as a word. -/
def saturated (i : Int) : Word := BitVec.ofInt 32 (if 2147483647 < i then 2147483647 else if i < -2147483648 then -2147483648 else i)

end Sys2Proof.Machine

open Sys2Proof Sys2Proof.Machine

/-! ## The block: its queue, its memory, its reset -/

/-- With a command at the front of the queue, a step is the command's meaning on the state with the rest of the queue. With none
waiting, a step is one tick of CD03 and changes nothing but the clock (the model's choice, log entry 2). -/
def Obligations.StepTakesFront : Prop :=
  ∀ (s : State), (∀ c rest, s.pending = c :: rest → step s = exec c { s with pending := rest }) ∧
    (s.pending = [] → step s = .next { s with u := { s.u with clock := s.u.clock + 1 } })

/-- Every command a sender can send completes and leaves the waiting commands as they are; one that names a unit no variant has
stops with the fault noSuchUnit. -/
def Obligations.WellFormedCompletes : Prop :=
  ∀ (c : Instr) (s : State), (c.wf = true → Completes c s fun t => t.pending = s.pending) ∧
    (c.wf = false → exec c s = .fault .noSuchUnit)

/-- The memory table keeps its canonical form in every step, whatever the command. -/
def Obligations.MemoryStaysCanonical : Prop :=
  ∀ (s t : State), s.Inv → step s = .next t → t.Inv

/-- A run whose waiting commands are all well-formed never faults and is never refused, however long it goes on. -/
def Obligations.FedRunsAreSafe : Prop :=
  ∀ (n : Nat) (s : State), s.Fed → RunsSafely n s

/-- The registers hold the values of a list. -/
def Sys2Proof.Machine.Holds (u : Units) (l : List (Fld × Nat)) : Prop := ∀ p ∈ l, u.rd p.1 = p.2

/-- After reset no command waits, memory lists nothing and is canonical, every core is held with empty stacks at word 0, and registers
of every group of which the spec gives a value other than 0 hold it: cores and event controllers, basins, angle, time, acquisition,
outputs, runnels, sluices, weir, reservoir, crossings, networks and sinks, twin, persistent store, power and reset. -/
def Obligations.ResetState : Prop :=
  let u := State.reset.u
  State.reset.pending = [] ∧ State.reset.mem = [] ∧ State.reset.Inv ∧
    (∀ k, k < 64 → u.held_ k = true) ∧ (∀ k, k < 65 → u.pcOf k = 0 ∧ ∀ n, n < 4 → u.stk k n = []) ∧
    (∀ k, k < 65 → Holds u [(Reg.CORE_STATUS.C k, 0), (Reg.CORE_STATUS.BANK k, 0), (Reg.CORE_CNT.CNT k, 0), (Reg.CORE_FP.ADDR k, 0), (Reg.CORE_RES.VALID k, 0),
      (Reg.CORE_NDS_CFG.BASE k, 0x1E000), (Reg.CORE_NDS_CFG.WORDS k, 1024), (Reg.CORE_NRS_CFG.BASE k, 0x1F000), (Reg.CORE_NRS_CFG.WORDS k, 256),
      (Reg.CORE_FDS_CFG.BASE k, 0x1F400), (Reg.CORE_FDS_CFG.WORDS k, 256), (Reg.CORE_FRS_CFG.BASE k, 0x1F800), (Reg.CORE_FRS_CFG.WORDS k, 128),
      (Reg.CORE_MODE.ICE k, 1), (Reg.CORE_MODE.DCE k, 1), (Reg.CORE_MODE.DUAL k, 1), (Reg.CORE_MODE.PRED k, 1), (Reg.EVT_NVEC.PC k, 2), (Reg.EVT_FVEC.PC k, 1),
      (Reg.EVT_CTRL.NIE k, 0), (Reg.EVT_CTRL.SBASE k, 4), (Reg.EVT_ACTIVE.FACT k, 0), (Reg.EVT_NRING_CFG.BASE k, 0x1D800), (Reg.EVT_FRING_CFG.BASE k, 0x1DC00),
      (Reg.EVT_NRING_CFG.EN k, 1), (Reg.EVT_FRING_CFG.EN k, 1)]) ∧
    (∀ n, n < 8 → Holds u [(Reg.BSN_VLIM.VMAX n, 100), (Reg.BSN_VSET.VFIX n, 50), (Reg.BSN_VSET.VFB n, 100), (Reg.BSN_TARGET.PERIOD n, 220),
      (Reg.BSN_BUDGET.LOOKAHEAD n, 1), (Reg.BSN_VSTATUS.VNOW n, 50), (Reg.BSN_VSTATUS.CEIL n, 100), (Reg.BSN_TREQ.T n, 65535), (Reg.BSN_WCS_STATUS.STATE n, 0),
      (Reg.EXC_FAULT.RETRY_MAX n, 3), (Reg.EXC_FAULT.DIAG n, 1), (Reg.CAM_CFG.GEAR n, 5), (Reg.RSV_RING_STATUS.STATE n, 0)]) ∧
    (∀ n, n < 4 → Holds u [(Reg.ANG_CTRL.EN n, 0), (Reg.ANG_CTRL.ACC_EN n, 1), (Reg.ANG_WORD.WORD n, 0xFFFFFFFF), (Reg.ANG_PERIOD.TICKS n, 0xFFFFFFFF),
      (Reg.ANG_WHEEL_CFG.CONFIRM n, 1), (Reg.ANG_RATIO.TOOTH_LO n, 8), (Reg.ANG_RATIO.TOOTH_HI n, 24), (Reg.ANG_RATIO.GAP_LO n, 12), (Reg.ANG_RATIO.GAP_HI n, 24),
      (Reg.ANG_CAM_CFG.VOTE n, 2), (Reg.ANG_CAM_CFG.MISS_LIMIT n, 4), (Reg.ANG_STALL.STALL n, 2000), (Reg.ANG_STALL.MIN_RPM n, 40), (Reg.ANG_RES_CFG.FREQ n, 6),
      (Reg.ANG_RES_CFG.AMP n, 4), (Reg.ANG_RES_CFG.FN n, 3)]) ∧
    (∀ g, g < 32 → Holds u [(Reg.AIN_GPERIOD.NS g, 1000), (Reg.AIN_GSTREAM.BASE g, 4), (Reg.AIN_GSTREAM.PKT_WORDS g, 1024)]) ∧
    (∀ n, n < 16 → Holds u [(Reg.FIN_PERIOD.NS n, 250), (Reg.FIN_STEP.AC n, 1024), (Reg.FIN_BURST.COUNT n, 1), (Reg.FIN_STREAM.PKT_WORDS n, 1024),
      (Reg.TRG_FAULT.RETRY_MAX n, 3), (Reg.TRG_FAULT.DIAG n, 1), (Reg.WEIR_RGN_RESERVE.N n, 0xFFFFFFFF)]) ∧
    (∀ n, n < 48 → Holds u [(Reg.DIN_CFG.THRESH n, 2), (Reg.DIN_CFG.ARM n, 2), (Reg.DIN_CFG.FILT n, 2), (Reg.DIN_MEAS.VALUE n, 0xFFFFFFFF)]) ∧
    (∀ r, r < 64 → Holds u [(Reg.RUN_CFG.BURST r, 4), (Reg.RUN_CFG.TAIL r, 2), (Reg.RUN_STATUS.STALLED r, 1), (Reg.RUN_OWNER.CLASS r, 0), (Reg.SLC_CFG.BURST r, 4),
      (Reg.SLC_STATUS.STATE r, 0)]) ∧
    (∀ n, n < 12 → Holds u [(Reg.CAN_CFG.EN n, 0), (Reg.CAN_CFG.FD n, 1), (Reg.CAN_DBT.TDC n, 1), (Reg.CAN_STATUS.STATE n, 3)]) ∧
    (∀ x, x < 3 → Holds u [(Reg.SINK_CFG.REG1 x, 1), (Reg.SINK_CFG.BASE x, 4), (Reg.SINK_CFG.MAXREC x, 16), (Reg.SINK_CFG.AGE x, 10), (Reg.SINK_NOTIFY.KIB x, 1024)]) ∧
    (∀ d, 1 ≤ d → d ≤ 25 → u.rd (Reg.XNG_DOMd.WAKEEN d) = 1) ∧ (∀ p, p < 13 → u.rd (Reg.NET_PCFG.ROLE p) = 2) ∧
    Holds u [(Reg.TIM_CTRL.STEP_LIMIT, 10), (Reg.TIM_STATUS.ACTIVE, 6), (Reg.TIM_GPTP_CFG.PRIORITY1, 0xF8), (Reg.TIM_GPTP_CFG.PRIORITY2, 0xF8),
      (Reg.TIM_GPTP_STATUS.SLAVE_PORT, 15), (Reg.RSV_HEALTH.LIFE, 100), (Reg.WEIR_CFG.GRACE, 100), (Reg.WEIR_CFG.DIP_PCT, 4), (Reg.RSV_ADMIT_LO.GSEQ, 0xFFFFFFFF),
      (Reg.RSV_ADMIT_HI.GSEQ, 0xFFFFFFFF), (Reg.RSV_COMMIT_LO.GSEQ, 0xFFFFFFFF), (Reg.RSV_COMMIT_HI.GSEQ, 0xFFFFFFFF), (Reg.RSV_STATUS.STATE, 0),
      (Reg.DOCK_CFG.LANES, 0xFF), (Reg.TWN_CFG.LANES, 3), (Reg.TWN_PAIR.ROLE, 0), (Reg.PST_STATUS.STALE, 1), (Reg.SES_STATUS.OPEN, 0), (Reg.PWR_CFG.PREP, 500),
      (Reg.PWR_CFG.BASIN_TO, 20), (Reg.RST_WDOG.TIMEOUT, 1000), (Reg.PWR_THERM_CEIL.LCODE, 100), (Reg.RST_HELD_LO.CORE, 0xFFFFFFFF), (Reg.RST_HELD_HI.CORE, 0xFFFFFFFF)]

/-! ## Instructions on the operand stack (10_ehrel_isa.md R252 to R258) -/

namespace Sys2Proof.Machine

def shuffleLaws0 (k depth : Nat) : List Law := [{ instr := .nop k, res := [] }, { instr := .depth k, res := [depth] }]
def shuffleLaws1 (k a : Nat) : List Law := [{ instr := .dup k, res := [a, a] }, { instr := .drop k, res := [] }]
def shuffleLaws2 (k a b : Nat) : List Law :=
  [{ instr := .swap k, res := [a, b] }, { instr := .over k, res := [a, b, a] }, { instr := .nip k, res := [b] },
   { instr := .tuck k, res := [b, a, b] }]
def shuffleLaws3 (k a b c : Nat) : List Law := [{ instr := .rot k, res := [a, c, b] }]

def arithLaws1 (k : Nat) (a : Word) : List Law :=
  [{ instr := .neg k, res := [(-a).toNat], c := some (a != 0), v := some (a == 0x80000000#32) },
   { instr := .abs k, res := [(if a.toInt < 0 then -a else a).toNat], v := some (a == 0x80000000#32) },
   { instr := .inc k, res := [(a + 1).toNat], c := some (decide (2 ^ 32 ≤ a.toNat + 1)), v := some (wide (a.toInt + 1)) },
   { instr := .dec k, res := [(a - 1).toNat], c := some (decide (a.toNat < 1)), v := some (wide (a.toInt - 1)) }]

def arithLaws2 (k : Nat) (a b : Word) (cin : Bool) : List Law :=
  let c : Word := if cin then 1 else 0
  [{ instr := .add k, res := [(a + b).toNat], c := some (decide (2 ^ 32 ≤ a.toNat + b.toNat)), v := some (wide (a.toInt + b.toInt)) },
   { instr := .sub k, res := [(a - b).toNat], c := some (decide (a.toNat < b.toNat)), v := some (wide (a.toInt - b.toInt)) },
   { instr := .adc k, res := [(a + b + c).toNat], c := some (decide (2 ^ 32 ≤ a.toNat + b.toNat + c.toNat)),
     v := some (wide (a.toInt + b.toInt + c.toNat)) },
   { instr := .sbc k, res := [(a - b - c).toNat], c := some (decide (a.toNat < b.toNat + c.toNat)),
     v := some (wide (a.toInt - b.toInt - c.toNat)) },
   { instr := .mul k, res := [(a * b).toNat], c := some (decide (2 ^ 32 ≤ a.toNat * b.toNat)), v := some (wide (a.toInt * b.toInt)) },
   { instr := .adds k, res := [(saturated (a.toInt + b.toInt)).toNat], v := some (wide (a.toInt + b.toInt)) },
   { instr := .subs k, res := [(saturated (a.toInt - b.toInt)).toNat], v := some (wide (a.toInt - b.toInt)) }]

def logicLaws (k : Nat) (a b : Word) : List Law :=
  [{ instr := .min k, res := [(if a.slt b then a else b).toNat] }, { instr := .max k, res := [(if a.slt b then b else a).toNat] },
   { instr := .minu k, res := [(if a.ult b then a else b).toNat] }, { instr := .maxu k, res := [(if a.ult b then b else a).toNat] },
   { instr := .slt k, res := [if a.slt b then 1 else 0] }, { instr := .sltu k, res := [if a.ult b then 1 else 0] },
   { instr := .and k, res := [(a &&& b).toNat] }, { instr := .or k, res := [(a ||| b).toNat] }, { instr := .xor k, res := [(a ^^^ b).toNat] }]

def shiftLaws (k : Nat) (a n : Word) : List Law :=
  [{ instr := .shl k, res := [(a <<< (n.toNat % 64)).toNat] }, { instr := .shr k, res := [(a >>> (n.toNat % 64)).toNat] },
   { instr := .sar k, res := [(a.sshiftRight (n.toNat % 64)).toNat] }, { instr := .rol k, res := [(a.rotateLeft (n.toNat % 32)).toNat] },
   { instr := .ror k, res := [(a.rotateRight (n.toNat % 32)).toNat] }]

/-- The number of bits set in a word, and the zeros above its highest set bit. -/
def bitsSet (a : Word) : Nat := ((List.range 32).filter fun i => a.getLsbD i).length
def zerosAbove (a : Word) : Nat := ((List.range 32).takeWhile fun i => !a.getLsbD (31 - i)).length

def bitLaws (k : Nat) (a : Word) : List Law :=
  [{ instr := .not k, res := [(~~~a).toNat] }, { instr := .clz k, res := [zerosAbove a] }, { instr := .popc k, res := [bitsSet a] },
   { instr := .bswap k, res := [(a.extractLsb' 0 8 ++ a.extractLsb' 8 8 ++ a.extractLsb' 16 8 ++ a.extractLsb' 24 8 : BitVec 32).toNat] },
   { instr := .sexb k, res := [((a.setWidth 8).signExtend 32).toNat] }, { instr := .sexh k, res := [((a.setWidth 16).signExtend 32).toNat] },
   { instr := .zexb k, res := [(a.setWidth 8).toNat] }, { instr := .zexh k, res := [(a.setWidth 16).toNat] }]

def mulLaws (k : Nat) (a b : Word) : List Law :=
  let sp : BitVec 64 := a.signExtend 64 * b.signExtend 64
  let up : BitVec 64 := a.setWidth 64 * b.setWidth 64
  [{ instr := .mulh k, res := [(sp.extractLsb' 32 32).toNat] }, { instr := .mulhu k, res := [(up.extractLsb' 32 32).toNat] },
   { instr := .muld k, res := [(sp.extractLsb' 32 32).toNat, (sp.extractLsb' 0 32).toNat] },
   { instr := .muldu k, res := [(up.extractLsb' 32 32).toNat, (up.extractLsb' 0 32).toNat] }]

def divLaws (k : Nat) (a b : Word) : List Law :=
  let v := some (a == 0x80000000#32 && b == 0xFFFFFFFF#32)
  [{ instr := .div k, res := [(a.sdiv b).toNat], v := v }, { instr := .divu k, res := [(a.udiv b).toNat], v := some false },
   { instr := .rem k, res := [(a.srem b).toNat], v := v }, { instr := .remu k, res := [(a.umod b).toNat], v := some false },
   { instr := .divmod k, res := [(a.sdiv b).toNat, (a.srem b).toNat], v := v },
   { instr := .divmodu k, res := [(a.udiv b).toNat, (a.umod b).toNat], v := some false }]

end Sys2Proof.Machine

/-- R252: the stack operations NOP, DEPTH, DUP, DROP, SWAP, OVER, NIP, TUCK and ROT leave the entries their stack effect names,
in its order, and no flag changes. DEPTH counts the entries before its push, the spilled ones included. -/
def Obligations.StackShuffles : Prop :=
  ∀ (s : State) (k a b c : Nat) (rest : List Nat),
    (Issues s k [] rest 1 → ∀ l ∈ shuffleLaws0 k (s.u.stkDepth k (s.u.dsT k)), l.holds s k rest) ∧
    (Issues s k [a] rest 2 → ∀ l ∈ shuffleLaws1 k a, l.holds s k rest) ∧
    (Issues s k [b, a] rest 3 → ∀ l ∈ shuffleLaws2 k a b, l.holds s k rest) ∧
    (Issues s k [c, b, a] rest 3 → ∀ l ∈ shuffleLaws3 k a b c, l.holds s k rest)

/-- R252 to R254: NEG, ABS, INC, DEC, ADD, SUB, ADC, SBC, MUL, ADDS and SUBS: results modulo 2^32 (saturated for ADDS and SUBS), C
and V by the flag rules. -/
def Obligations.Arithmetic : Prop :=
  ∀ (s : State) (k : Nat) (a b : Word) (rest : List Nat),
    (Issues s k [a.toNat] rest 1 → ∀ l ∈ arithLaws1 k a, l.holds s k rest) ∧
    (Issues s k [b.toNat, a.toNat] rest 1 → ∀ l ∈ arithLaws2 k a b (s.u.is (Reg.CORE_STATUS.C k)), l.holds s k rest)


/-- R258: shifts and rotates take their count from bits 5:0 of n, rotates modulo 32. -/
def Obligations.Shifts : Prop :=
  ∀ (s : State) (k : Nat) (a n : Word) (rest : List Nat),
    Issues s k [n.toNat, a.toNat] rest 1 → ∀ l ∈ shiftLaws k a n, l.holds s k rest



/-- R256: DIV, DIVU, REM, REMU, DIVMOD and DIVMODU with a divisor that is not zero: truncation toward zero, V only for
0x8000_0000 by -1, whose quotient is 0x8000_0000 and remainder 0. -/
def Obligations.Division : Prop :=
  ∀ (s : State) (k : Nat) (a b : Word) (rest : List Nat),
    b ≠ 0 → Issues s k [b.toNat, a.toNat] rest 2 → ∀ l ∈ divLaws k a b, l.holds s k rest

/-- R252: MIN, MAX, MINU, MAXU, SLT, SLTU, AND, OR, XOR; NOT, CLZ, POPC, BSWAP and the extensions; the high halves of the signed and
the unsigned product, and the double products. No flag changes. -/
def Obligations.LogicBitsProducts : Prop :=
  ∀ (s : State) (k : Nat) (a b : Word) (rest : List Nat),
    (Issues s k [b.toNat, a.toNat] rest 1 → ∀ l ∈ logicLaws k a b, l.holds s k rest) ∧
    (Issues s k [a.toNat] rest 1 → ∀ l ∈ bitLaws k a, l.holds s k rest) ∧
    (Issues s k [b.toNat, a.toNat] rest 2 → ∀ l ∈ mulLaws k a b, l.holds s k rest)

/-! ## Return stack, constants, branches, skips (10_ehrel_isa.md R252, R257, R259 to R262) -/

namespace Sys2Proof.Machine

/-- The results of the divisions of a dividend by zero, top first, and their instruction words. -/
def divZeroLaws (k a : Nat) : List (Instr × List Nat × Nat) :=
  [(.div k, [0], 0x35), (.divu k, [0], 0x36), (.rem k, [a], 0x37), (.remu k, [a], 0x38), (.divmod k, [0, a], 0x39), (.divmodu k, [0, a], 0x3A)]

/-- The conditions of SK, and those of SKC and SKI (R262). -/
def testCond (c : Nat) (a : Word) : Bool :=
  match c with
  | 0 => a == 0 | 1 => a != 0 | 2 => decide (a.toInt < 0) | 3 => decide (0 ≤ a.toInt) | 4 => decide (0 < a.toInt)
  | 5 => decide (a.toInt ≤ 0) | 6 => a.getLsbD 0 | _ => !a.getLsbD 0
def compareCond (c : Nat) (a b : Word) : Bool :=
  match c with
  | 0 => a == b | 1 => a != b | 2 => a.slt b | 3 => !a.slt b | 4 => a.ult b | 5 => !a.ult b | 6 => b.slt a | 7 => !b.slt a
  | 8 => b.ult a | _ => !b.ult a

def flagTest (c v af : Bool) (n : Nat) : Bool :=
  match n with
  | 0 => c | 1 => !c | 2 => v | 3 => !v | 4 => af | _ => !af

/-- A skip of core k completes with `left` above `rest`: past the next instruction when taken. That is one word, two when a REP
or REPI stands there; a word that cannot be fetched counts as one. -/
def SkipStep (s : State) (k : Nat) (i : Instr) (left rest : List Nat) (taken : Bool) : Prop :=
  let next := (s.u.pcOf k + 1) % 2 ^ 32
  Completes i s fun t =>
    t.u.stk k (s.u.dsT k) = left ++ rest ∧ OthersKept s t k ∧ t.mem = s.mem ∧ t.pending = s.pending ∧
      (taken = false → t.u.pcOf k = next ∧ RegsKept s.u t.u (retireRegs k)) ∧
      (taken = true → t.u.pcOf k = (s.u.pcOf k + 2) % 2 ^ 32 ∨ t.u.pcOf k = (s.u.pcOf k + 3) % 2 ^ 32) ∧
      (taken = true → next < 0x8000 → RegsKept s.u t.u (retireRegs k) ∧
        t.u.pcOf k = (s.u.pcOf k + (if s.load (instrRam k + 2 * next) 2 = 0x9000 ∨ s.load (instrRam k + 2 * next) 2 = 0x9001 then 3 else 2)) % 2 ^ 32) ∧
      (taken = true → 0x8000 ≤ next → next < 0x40000000 → t.u.pcOf k = (s.u.pcOf k + 2) % 2 ^ 32)

end Sys2Proof.Machine

/-- R257: a division by zero gives quotient 0 and the dividend as remainder, clears V and sets AF; with AFT = 0 nothing else
happens, with AFT = 1 the instruction completes and then raises ARITH with its instruction word, resuming at the following one. -/
def Obligations.DivisionByZero : Prop :=
  ∀ (s : State) (k a : Nat) (rest : List Nat), Issues s k [0, a] rest 2 →
    ∀ l ∈ divZeroLaws k a, Completes l.1 s fun t =>
      t.u.stk k (s.u.dsT k) = l.2.1 ++ rest ∧ t.u.rd (Reg.CORE_STATUS.V k) = 0 ∧ t.u.rd (Reg.CORE_STATUS.AF k) = 1 ∧
        t.u.pcOf k = (s.u.pcOf k + 1) % 2 ^ 32 ∧
        (s.u.is (Reg.CORE_STATUS.AFT k) = false → OthersKept s t k ∧
          MemKept s t ∧ RegsKept s.u t.u (retireRegs k ++ [Reg.CORE_STATUS.V k, Reg.CORE_STATUS.AF k]) ∧
          (t.u.cpuOf k).sync = (s.u.cpuOf k).sync) ∧
        (s.u.is (Reg.CORE_STATUS.AFT k) = true → Raises s t k 0x05 l.2.2)

/-- R252: >R, R>, R@ and RDROP move entries between the two stacks of the bank in use; PICK copies the entry n places below
n, where it lies in the registers. -/
def Obligations.ReturnStackMoves : Prop :=
  ∀ (s : State) (k a n : Nat) (rest rrest : List Nat),
    (IssuesBoth s k [a] rest 0 [] rrest 1 → Completes (.toR k) s fun t => CoreAfter s t k rest (a :: rrest) (s.u.pcOf k + 1) []) ∧
    (IssuesBoth s k [] rest 1 [a] rrest 0 → Completes (.rFrom k) s fun t => CoreAfter s t k (a :: rest) rrest (s.u.pcOf k + 1) []) ∧
    (IssuesBoth s k [] rest 1 [a] rrest 1 → Completes (.rFetch k) s fun t => CoreAfter s t k (a :: rest) (a :: rrest) (s.u.pcOf k + 1) []) ∧
    (IssuesBoth s k [] rest 0 [a] rrest 0 → Completes (.rdrop k) s fun t => CoreAfter s t k rest rrest (s.u.pcOf k + 1) []) ∧
    (IssuesBoth s k [n] rest 1 [] rrest 0 → n < rest.length → n ≤ 15 →
      Completes (.pick k) s fun t => CoreAfter s t k (rest.getD n 0 :: rest) rrest (s.u.pcOf k + 1) [])

/-- R252, R259, R260: RET, CALLI, JMPI, BR and CALL set the pc modulo 2^32; CALL and CALLI push the address behind them on the
return stack; LIT and LITX build constants. -/
def Obligations.ConstantsAndBranches : Prop :=
  ∀ (s : State) (k a v : Nat) (rest rrest : List Nat), v < 4096 →
    (IssuesBoth s k [] rest 0 [a] rrest 0 → Completes (.ret k) s fun t => CoreAfter s t k rest rrest a []) ∧
    (IssuesBoth s k [a] rest 0 [] rrest 1 → Completes (.calli k) s fun t => CoreAfter s t k rest ((s.u.pcOf k + 1) % 2 ^ 32 :: rrest) a []) ∧
    (IssuesBoth s k [a] rest 0 [] rrest 0 → Completes (.jmpi k) s fun t => CoreAfter s t k rest rrest a []) ∧
    (IssuesBoth s k [] rest 0 [] rrest 0 →
      Completes (.br k v) s fun t => CoreAfter s t k rest rrest (word32 (s.u.pcOf k + 1 + signedOf 12 v)) []) ∧
    (IssuesBoth s k [] rest 0 [] rrest 1 → Completes (.call k v) s fun t =>
      CoreAfter s t k rest ((s.u.pcOf k + 1) % 2 ^ 32 :: rrest) (word32 (s.u.pcOf k + 1 + signedOf 12 v)) []) ∧
    (IssuesBoth s k [] rest 1 [] rrest 0 →
      Completes (.lit k v) s fun t => CoreAfter s t k (word32 (signedOf 12 v) :: rest) rrest (s.u.pcOf k + 1) []) ∧
    (IssuesBoth s k [a] rest 1 [] rrest 0 →
      Completes (.litx k v) s fun t => CoreAfter s t k ((a * 4096 + v) % 2 ^ 32 :: rest) rrest (s.u.pcOf k + 1) [])

/-- R261, R262: SK, SKF, SKC and SKI take their condition, pop or keep their operands, and pass over one instruction when it
is true. -/
def Obligations.Skips : Prop :=
  ∀ (s : State) (k c imm : Nat) (keep : Bool) (a b : Word) (rest : List Nat),
    (c < 8 → Issues s k [a.toNat] rest 1 → SkipStep s k (.sk k c keep) (if keep then [a.toNat] else []) rest (testCond c a)) ∧
    (c < 6 → Issues s k [] rest 0 → SkipStep s k (.skf k c) [] rest
      (flagTest (s.u.is (Reg.CORE_STATUS.C k)) (s.u.is (Reg.CORE_STATUS.V k)) (s.u.is (Reg.CORE_STATUS.AF k)) c)) ∧
    (c < 10 → Issues s k [b.toNat, a.toNat] rest 2 →
      SkipStep s k (.skc k c keep) (if keep then [b.toNat, a.toNat] else []) rest (compareCond c a b)) ∧
    (c < 8 → imm < 64 → Issues s k [a.toNat] rest 1 → SkipStep s k (.ski k c imm keep) (if keep then [a.toNat] else []) rest
      (compareCond c a (BitVec.ofInt 32 (signedOf 6 imm))))

/-- R242: an instruction that would pop more entries than its stack holds raises STACK with the underflow code, and has no
effect: the stacks, the spill areas and the pc stand as they were. -/
def Obligations.StackUnderflow : Prop :=
  ∀ (s : State) (k : Nat), k < 65 → s.u.coreFresh k = true →
    (s.u.stkDepth k (s.u.dsT k) < 2 → ∀ i ∈ [Instr.add k, .sub k, .swap k, .over k, .and k, .mul k, .div k, .stw k],
      Completes i s fun t => Raises s t k 0x04 0 ∧ t.u.pcOf k = s.u.pcOf k ∧ (∀ n, n < 4 → t.u.stk k n = s.u.stk k n ∧ t.u.rd (stkUsed n k) = s.u.rd (stkUsed n k))) ∧
    (s.u.stkDepth k (s.u.rsT k) = 0 → ∀ i ∈ [Instr.ret k, .rdrop k],
      Completes i s fun t => Raises s t k 0x04 1 ∧ t.u.pcOf k = s.u.pcOf k ∧ (∀ n, n < 4 → t.u.stk k n = s.u.stk k n ∧ t.u.rd (stkUsed n k) = s.u.rd (stkUsed n k)))

/-! ## Loads, stores, LR and SC, IO and instruction space (10_ehrel_isa.md R244 to R247, R259, R263 to R267; 11_pipeline_and_timing.md
R281, R282) -/

namespace Sys2Proof.Machine

/-- A load of the instruction table: bytes, sign-extended or not, increment form or not. -/
structure LoadForm where
  instr : Instr
  n : Nat
  signed : Bool
  inc : Bool

def loadForms (k : Nat) : List LoadForm :=
  [⟨.ldw k, 4, false, false⟩, ⟨.ldh k, 2, true, false⟩, ⟨.ldhu k, 2, false, false⟩, ⟨.ldb k, 1, true, false⟩, ⟨.ldbu k, 1, false, false⟩,
   ⟨.ldwInc k, 4, false, true⟩, ⟨.ldhInc k, 2, true, true⟩, ⟨.ldbuInc k, 1, false, true⟩]
/-- The stores: bytes, increment form or not. -/
def storeForms (k : Nat) : List LoadForm :=
  [⟨.stw k, 4, false, false⟩, ⟨.sth k, 2, false, false⟩, ⟨.stb k, 1, false, false⟩, ⟨.stwInc k, 4, false, true⟩, ⟨.sthInc k, 2, false, true⟩,
   ⟨.stbInc k, 1, false, true⟩]

/-- The word a load of n bytes of value v pushes. -/
def LoadForm.word (l : LoadForm) (v : Nat) : Nat := if l.signed then word32 (signedOf (8 * l.n) v) else v
/-- The entries a load leaves above the rest. -/
def LoadForm.left (l : LoadForm) (a v : Nat) : List Nat := if l.inc then [(a + l.n) % 2 ^ 32, l.word v] else [l.word v]

/-- The address of a frame access (R259). -/
def frameAt (s : State) (k imm : Nat) : Nat := word32 (4 * s.u.rd (Reg.CORE_FP.ADDR k) + signedOf 12 (imm / 4 * 4))

/-- The fault registers after a failed or misaligned access (R243). -/
def Faulted (t : State) (k space write err pc : Nat) : Prop :=
  t.u.rd (Reg.CORE_FAULT.SPACE k) = space ∧ t.u.rd (Reg.CORE_FAULT.WRITE k) = write ∧ t.u.rd (Reg.CORE_FAULT.IMPRECISE k) = 0 ∧
    t.u.rd (Reg.CORE_FAULT.ERR k) = err ∧ t.u.rd (Reg.CORE_FPC.PC k) = pc

/-- The store the instruction put into the buffer as its youngest entry (R281). -/
def Buffered (s t : State) (k a n v : Nat) : Prop :=
  ∃ w, (t.u.cpuOf k).sbuf = (s.u.cpuOf k).sbuf ++ [w] ∧ w.addr = a ∧ w.size = n ∧ w.val = v % 2 ^ (8 * n) ∧ w.pc = s.u.pcOf k ∧
    (a < 0x20000 → w.phys = dataRam k + a)

/-- No register field but these has changed, nor another core, nor memory. -/
def CoreKept (s t : State) (k : Nat) (fl : List Fld) : Prop := RegsKept s.u t.u fl ∧ OthersKept s t k ∧ MemKept s t

end Sys2Proof.Machine

/-- R244, R259, R264, R282: LDW, LDH, LDHU, LDB, LDBU, LDW+, LDH+, LDBU+ and FLD at an aligned address of core data RAM, with nothing
buffered, push the little-endian value there, sign- or zero-extended, the increment forms the next address above it. A load whose
address and size are those of the youngest buffered store takes that store's value. -/
def Obligations.LoadsFromDataRam : Prop :=
  ∀ (s : State) (k a imm : Nat) (rest : List Nat),
    (Issues s k [a] rest 2 → a < 0x20000 → ∀ l ∈ loadForms k, a % l.n = 0 →
      ((s.u.cpuOf k).sbuf = [] → Completes l.instr s fun t =>
        CoreAfter s t k (l.left a (s.load (dataRam k + a) l.n) ++ rest) (s.u.stk k (s.u.rsT k)) (s.u.pcOf k + 1) []) ∧
      (∀ (old : List StoreEnt) (w : StoreEnt), (s.u.cpuOf k).sbuf = old ++ [w] → w.phys = dataRam k + a → w.size = l.n → w.val < 2 ^ (8 * l.n) →
        Completes l.instr s fun t =>
          CoreAfter s t k (l.left a w.val ++ rest) (s.u.stk k (s.u.rsT k)) (s.u.pcOf k + 1) [])) ∧
    (Issues s k [] rest 1 → (s.u.cpuOf k).sbuf = [] → imm < 4096 → frameAt s k imm < 0x20000 → Completes (.fld k imm) s fun t =>
      CoreAfter s t k (s.load (dataRam k + frameAt s k imm) 4 :: rest) (s.u.stk k (s.u.rsT k)) (s.u.pcOf k + 1) [])

/-- R264, R281: STW, STH, STB, STW+, STH+, STB+ and FST put one entry into the store buffer while it has room, and leave memory as
it is until the entry drains. The oldest entry, a store to core data RAM, drains: its bytes hold the value, every other byte of
memory, every register and every other entry of the buffer stand as they were. -/
def Obligations.Stores : Prop :=
  (∀ (s : State) (k a v imm : Nat) (rest : List Nat), (s.u.cpuOf k).sbuf.length < 4 →
    (Issues s k [a, v] rest 1 → ∀ l ∈ storeForms k, a % l.n = 0 → Completes l.instr s fun t =>
      t.u.stk k (s.u.dsT k) = (if l.inc then [(a + l.n) % 2 ^ 32] else []) ++ rest ∧ t.u.pcOf k = (s.u.pcOf k + 1) % 2 ^ 32 ∧
        Buffered s t k a l.n v ∧ CoreKept s t k (retireRegs k ++ [Reg.CORE_RES.VALID k])) ∧
    (Issues s k [v] rest 0 → imm < 4096 → Completes (.fst k imm) s fun t =>
      t.u.stk k (s.u.dsT k) = rest ∧ t.u.pcOf k = (s.u.pcOf k + 1) % 2 ^ 32 ∧ Buffered s t k (frameAt s k imm) 4 v ∧
        CoreKept s t k (retireRegs k ++ [Reg.CORE_RES.VALID k]))) ∧
  (∀ (s : State) (k : Nat) (e : RespFault) (w : StoreEnt) (ws : List StoreEnt), k < 65 → s.u.coreLive k = true →
    (s.u.cpuOf k).sbuf = w :: ws → w.addr < 0x20000 → w.phys = dataRam k + w.addr → w.size ≤ 4 →
    Completes (.storeDrain k e) s fun t =>
      t.load w.phys w.size = w.val % 2 ^ (8 * w.size) ∧ (∀ b, b < w.phys ∨ w.phys + w.size ≤ b → t.byte b = s.byte b) ∧
        (t.u.cpuOf k).sbuf = ws ∧ OthersKept s t k ∧ RegsKept s.u t.u [] ∧ t.pending = s.pending)


/-- R244, R247, R275: a misaligned D-space access by a load or a store raises ALIGN with its address and resumes at the instruction; the
access is not performed and the stack is unchanged. A load at an address that maps to nothing completes with 0 pushed and raises
BUS_FAULT with the address, resuming at the following instruction. CORE_FAULT and CORE_FPC report either.
R245, R247: a load that leaves the core waits for its response, its address popped and the pc where it was; CORE_ACCESS_RESPONSE
of an uncached word in DRAM or a basin's SRAM then completes it. -/
def Obligations.FaultsAndResponses : Prop :=
  (∀ (s : State) (k a v : Nat) (rest : List Nat), Issues s k (a :: v :: rest) [] 0 → rest.length ≤ 13 → a < 2 ^ 32 → s.u.pcOf k < 2 ^ 32 →
     (∀ l ∈ loadForms k, a % l.n ≠ 0 → Completes l.instr s fun t =>
       Raises s t k 0x03 a ∧ t.u.pcOf k = s.u.pcOf k ∧ t.u.stk k (s.u.dsT k) = a :: v :: rest ∧ Faulted t k 1 0 0 (s.u.pcOf k)) ∧
     (∀ l ∈ storeForms k, a % l.n ≠ 0 → Completes l.instr s fun t =>
       Raises s t k 0x03 a ∧ t.u.pcOf k = s.u.pcOf k ∧ t.u.stk k (s.u.dsT k) = a :: v :: rest ∧ Faulted t k 1 1 0 (s.u.pcOf k) ∧
         (t.u.cpuOf k).sbuf = (s.u.cpuOf k).sbuf) ∧
     (s.u.dmap k a = .none → ∀ l ∈ loadForms k, a % l.n = 0 → Completes l.instr s fun t =>
       Raises s t k 0x02 a ∧ t.u.pcOf k = (s.u.pcOf k + 1) % 2 ^ 32 ∧ t.u.stk k (s.u.dsT k) = l.left a 0 ++ v :: rest ∧
         Faulted t k 1 0 2 (s.u.pcOf k))) ∧
  (∀ (s : State) (k a p : Nat) (rest : List Nat), k < 65 → s.u.coreLive k = true → (s.u.cpuOf k).rep = none →
     (s.u.cpuOf k).acc = some (.load a 4 false false false) → s.u.dmap k a = .phys p 0 →
     (physTarget p = .dram ∨ ∃ n, physTarget p = .sram n) → s.u.mustWait p = false → s.u.physCode false p 4 = 0 →
     s.u.stk k (s.u.dsT k) = rest →
     Completes (.coreAccessResponse k .none) s fun t =>
       CoreAfter s t k (s.load p 4 :: rest) (s.u.stk k (s.u.rsT k)) (s.u.pcOf k + 1) [] ∧ (t.u.cpuOf k).acc = none)


/-- R265, R266: LR loads the word and reserves its 16-byte granule; RESERVATION_EXPIRE loses the reservation. SC with the granule
reserved stores its word and pushes 1; in every other case it stores nothing and pushes 0. SC clears the reservation either way. -/
def Obligations.LoadReserveStoreConditional : Prop :=
  ∀ (s : State) (k a v : Nat) (rest : List Nat), (s.u.cpuOf k).sbuf = [] → a < 0x20000 → a % 4 = 0 →
    (Issues s k [a] rest 1 → Completes (.lr k) s fun t =>
      t.u.stk k (s.u.dsT k) = s.load (dataRam k + a) 4 :: rest ∧ (t.u.cpuOf k).res = some ((dataRam k + a) / 16) ∧
        t.u.rd (Reg.CORE_RES.VALID k) = 1 ∧ t.u.rd (Reg.CORE_RES.GRANULE k) = a / 16 ∧ t.u.pcOf k = (s.u.pcOf k + 1) % 2 ^ 32 ∧
        CoreKept s t k (retireRegs k ++ [Reg.CORE_RES.VALID k, Reg.CORE_RES.GRANULE k])) ∧
    (Issues s k [a, v] rest 1 → (s.u.cpuOf k).res = some ((dataRam k + a) / 16) → Completes (.sc k) s fun t =>
      t.u.stk k (s.u.dsT k) = 1 :: rest ∧ t.load (dataRam k + a) 4 = v % 2 ^ 32 ∧
        (∀ b, b < dataRam k + a ∨ dataRam k + a + 4 ≤ b → t.byte b = s.byte b) ∧ (t.u.cpuOf k).res = none ∧
        t.u.rd (Reg.CORE_RES.VALID k) = 0 ∧ t.u.pcOf k = (s.u.pcOf k + 1) % 2 ^ 32) ∧
    (Issues s k [a, v] rest 1 → (s.u.cpuOf k).res ≠ some ((dataRam k + a) / 16) → Completes (.sc k) s fun t =>
      t.u.stk k (s.u.dsT k) = 0 :: rest ∧ (t.u.cpuOf k).res = none ∧ t.u.rd (Reg.CORE_RES.VALID k) = 0 ∧
        t.u.pcOf k = (s.u.pcOf k + 1) % 2 ^ 32 ∧ CoreKept s t k (retireRegs k ++ [Reg.CORE_RES.VALID k])) ∧
    (k < 65 → (s.u.cpuOf k).res ≠ none → Completes (.reservationExpire k) s fun t =>
      (t.u.cpuOf k).res = none ∧ t.u.rd (Reg.CORE_RES.VALID k) = 0 ∧ CoreKept s t k [Reg.CORE_RES.VALID k])

/-- R246, R267: LDI reads an instruction word of the instruction RAM, STI writes one: its two bytes and no other. -/
def Obligations.InstructionSpace : Prop :=
  ∀ (s : State) (k w i : Nat) (rest : List Nat), w < 0x8000 →
    (Issues s k [w] rest 1 → Completes (.ldi k) s fun t =>
      CoreAfter s t k (s.load (instrRam k + 2 * w) 2 :: rest) (s.u.stk k (s.u.rsT k)) (s.u.pcOf k + 1) []) ∧
    (Issues s k [w, i] rest 0 → (s.u.cpuOf k).sbuf = [] → Completes (.sti k) s fun t =>
      t.load (instrRam k + 2 * w) 2 = i % 2 ^ 16 ∧
        (∀ b, b < instrRam k + 2 * w ∨ instrRam k + 2 * w + 2 ≤ b → t.byte b = s.byte b) ∧
        t.u.stk k (s.u.dsT k) = rest ∧ t.u.pcOf k = (s.u.pcOf k + 1) % 2 ^ 32 ∧ OthersKept s t k ∧ RegsKept s.u t.u (retireRegs k) ∧
        t.pending = s.pending)

/-- R245, R263: IN, IORD, OUT and IOWR outside the core-local range wait for their response, their operands popped; inside it
they complete at once: reads of CORE_CNT and CORE_FP, and writes of CORE_FP, whose bits 1:0 are reserved. -/
def Obligations.IoAccesses : Prop :=
  ∀ (s : State) (k off a v : Nat) (rest : List Nat), off < 2048 → a % 4 = 0 → (s.u.cpuOf k).sbuf = [] →
    let b := (4 * s.u.rd (Reg.CORE_IOB.ADDR k) + 4 * off) % 2 ^ 32
    (Issues s k [] rest 1 → 0x1000 ≤ b → Completes (.inp k off) s fun t =>
      (t.u.cpuOf k).acc = some (.ioRead b) ∧ t.u.stk k (s.u.dsT k) = rest ∧ t.u.pcOf k = s.u.pcOf k ∧ CoreKept s t k []) ∧
    (Issues s k [v] rest 0 → 0x1000 ≤ b → Completes (.out k off) s fun t =>
      (t.u.cpuOf k).acc = some (.ioWrite b v) ∧ t.u.stk k (s.u.dsT k) = rest ∧ t.u.pcOf k = s.u.pcOf k ∧ CoreKept s t k []) ∧
    (Issues s k [a] rest 1 → 0x1000 ≤ a → Completes (.iord k) s fun t =>
      (t.u.cpuOf k).acc = some (.ioRead a) ∧ t.u.stk k (s.u.dsT k) = rest ∧ t.u.pcOf k = s.u.pcOf k ∧ CoreKept s t k []) ∧
    (Issues s k [a, v] rest 0 → 0x1000 ≤ a → Completes (.iowr k) s fun t =>
      (t.u.cpuOf k).acc = some (.ioWrite a v) ∧ t.u.stk k (s.u.dsT k) = rest ∧ t.u.pcOf k = s.u.pcOf k ∧ CoreKept s t k []) ∧
    (Issues s k [0x008] rest 1 → Completes (.iord k) s fun t =>
      CoreAfter s t k (s.u.rd (Reg.CORE_CNT.CNT k) :: rest) (s.u.stk k (s.u.rsT k)) (s.u.pcOf k + 1) []) ∧
    (Issues s k [0x00C] rest 1 → Completes (.iord k) s fun t =>
      CoreAfter s t k (4 * s.u.rd (Reg.CORE_FP.ADDR k) :: rest) (s.u.stk k (s.u.rsT k)) (s.u.pcOf k + 1) []) ∧
    (Issues s k [0x00C, v] rest 0 → v < 2 ^ 32 → Completes (.iowr k) s fun t =>
      t.u.rd (Reg.CORE_FP.ADDR k) = v / 4 ∧
        CoreAfter s t k rest (s.u.stk k (s.u.rsT k)) (s.u.pcOf k + 1) [Reg.CORE_FP.ADDR k])

/-! ## Prefixes, system operations, events, extended operations (10_ehrel_isa.md R267 to R275; 12_microcode.md; 13_events.md) -/

namespace Sys2Proof.Machine

/-- The targets a prefix permits (R269). -/
def permitted (u : Units) (k w : Nat) : Prop :=
  w < 0x0E ∨ (0x10 ≤ w ∧ w < 0x3B) ∨ (0x1000 ≤ w ∧ w < 0x3000) ∨ (0x3000 ≤ w ∧ w < 0x4000 ∧ w % 4 ≠ 3) ∨ (0x7000 ≤ w ∧ w < 0x8000) ∨
    (0x8000 ≤ w ∧ w < 0x800E) ∨ w = 0x9020 ∨ w = 0x9030 ∨ w = 0x9031 ∨ (w / 0x1000 = 0xE ∧ u.copDefined k w = true)

/-- Core k stands at an entry point (R327). -/
def AtEntry (s : State) (k : Nat) : Prop :=
  k < 65 ∧ s.u.coreLive k = true ∧ k ∉ s.u.gate.holding ∧ (s.u.cpuOf k).stopped = false ∧ (s.u.cpuOf k).waiting = false ∧ (s.u.cpuOf k).acc = none ∧
    (s.u.cpuOf k).rep = none

/-- The ring of a class takes one more record (R336, R337): its four words stand in the slot, and WR has advanced. TSTEP says
whether a time step has taken effect since the previous record. -/
def RingGets (s t : State) (k : Nat) (fast : Bool) (word0 time angle pay : Nat) : Prop :=
  let slot := dataRam k + s.u.rd (ringCfgBase fast k) / 16 * 16 + 16 * (s.u.rd (ringWrF fast k) % s.u.ringSize k fast)
  t.u.rd (ringWrF fast k) = (s.u.rd (ringWrF fast k) + 1) % 65536 ∧
    t.load slot 4 = word0 + b2n ((s.u.cpuOf k).stepsSeen fast != s.u.tim.steps) * 2 ^ 26 ∧ t.load (slot + 4) 4 = time ∧
    t.load (slot + 8) 4 = angle ∧ t.load (slot + 12) 4 = pay ∧ (∀ b, b < slot ∨ slot + 16 ≤ b → t.byte b = s.byte b)

/-- A ring of core k that can take a record. -/
def RingOpen (s : State) (k : Nat) (fast : Bool) : Prop :=
  s.u.is (ringCfgEn fast k) = true ∧ s.u.ringHeld k fast < s.u.ringSize k fast ∧ (k < 64 → s.u.basinDark (k / 8) = false)

end Sys2Proof.Machine

/-- R268 to R270: REP and REPI outside a resume, before a permitted target in the instruction RAM: they pop their count into CNT and
go to the target; with a count of 0 they pass it over. A count beyond 64, or 65,535, raises REP_COUNT with the count; the stack and CNT
are unchanged. In an iteration the target is executed and CNT decremented; after the last one execution goes on behind the target. -/
def Obligations.Prefixes : Prop :=
  (∀ (s : State) (k n : Nat) (rest : List Nat), Issues s k [n] rest 0 → s.u.is (Reg.CORE_STATUS.RS k) = false →
    ∀ p ∈ [(Instr.rep k, 64, false), (.repi k, 65535, true)],
    (p.2.1 < n → Completes p.1 s fun t =>
      Raises s t k 0x06 n ∧ t.u.pcOf k = s.u.pcOf k ∧ t.u.stk k (s.u.dsT k) = n :: rest ∧
        t.u.rd (Reg.CORE_CNT.CNT k) = s.u.rd (Reg.CORE_CNT.CNT k)) ∧
    (s.u.pcOf k < 0x7FFF → permitted s.u k (s.load (instrRam k + 2 * (s.u.pcOf k + 1)) 2) → n ≤ p.2.1 → Completes p.1 s fun t =>
      t.u.stk k (s.u.dsT k) = rest ∧ t.u.rd (Reg.CORE_CNT.CNT k) = n ∧ CoreKept s t k (retireRegs k ++ [Reg.CORE_CNT.CNT k]) ∧
        (n ≠ 0 → t.u.pcOf k = s.u.pcOf k + 1 ∧ (t.u.cpuOf k).rep = some ⟨s.u.pcOf k, p.2.2⟩) ∧
        (n = 0 → t.u.pcOf k = s.u.pcOf k + 2 ∧ (t.u.cpuOf k).rep = none))) ∧
  (∀ (s : State) (k : Nat) (a b : Word) (rest : List Nat) (r : Repeat), k < 65 → s.u.coreRuns k = true → (s.u.cpuOf k).micro = none →
    (s.u.cpuOf k).rep = some r → s.u.stk k (s.u.dsT k) = b.toNat :: a.toNat :: rest → rest.length ≤ 14 → s.u.rd (Reg.CORE_CNT.CNT k) ≠ 0 →
    Completes (.add k) s fun t =>
      t.u.stk k (s.u.dsT k) = (a + b).toNat :: rest ∧ t.u.rd (Reg.CORE_CNT.CNT k) = s.u.rd (Reg.CORE_CNT.CNT k) - 1 ∧
        (s.u.rd (Reg.CORE_CNT.CNT k) ≠ 1 → t.u.pcOf k = s.u.pcOf k ∧ (t.u.cpuOf k).rep = some r) ∧
        (s.u.rd (Reg.CORE_CNT.CNT k) = 1 → t.u.pcOf k = (r.prefx + 2) % 2 ^ 32 ∧ (t.u.cpuOf k).rep = none))


/-- R250, R267, R271, R275: with nothing buffered FENCE completes and WAIT completes and holds the core unless an event of either
class is pending; BRK completes and raises BRK; an undefined word raises UNDEF at its own address and changes no stack. The reserved
major opcodes 0xA to 0xD, and reserved codes of the other groups, are undefined words in every core. -/
def Obligations.WaitFenceBreakUndefined : Prop :=
  (∀ (s : State) (k w : Nat) (rest : List Nat), Issues s k [] rest 0 →
    ((s.u.cpuOf k).sbuf = [] → Completes (.fence k) s fun t => CoreAfter s t k rest (s.u.stk k (s.u.rsT k)) (s.u.pcOf k + 1) []) ∧
    ((s.u.cpuOf k).sbuf = [] → Completes (.wait k) s fun t => CoreAfter s t k rest (s.u.stk k (s.u.rsT k)) (s.u.pcOf k + 1) [] ∧
      (t.u.cpuOf k).waiting = !(s.u.fastPend k || s.u.normPend k)) ∧
    Completes (.brk k) s (fun t => Raises s t k 0x07 0 ∧ t.u.pcOf k = (s.u.pcOf k + 1) % 2 ^ 32 ∧ t.u.stk k (s.u.dsT k) = rest) ∧
    (w < 65536 → s.u.defined k w = false → Completes (.undef k w) s fun t =>
      Raises s t k 0x01 w ∧ t.u.pcOf k = s.u.pcOf k ∧ (∀ n, n < 4 → t.u.stk k n = s.u.stk k n))) ∧
  (∀ (u : Units) (k w : Nat), w < 65536 →
    (0xA000 ≤ w ∧ w < 0xE000) ∨ w = 0x000E ∨ (0x003B ≤ w ∧ w < 0x0040) ∨ (0x0043 ≤ w ∧ w < 0x1000) ∨ (0x3000 ≤ w ∧ w < 0x4000 ∧ w % 4 = 3) ∨
      w = 0x800E ∨ (0x8012 ≤ w ∧ w < 0x9000) ∨ w = 0x9052 ∨ (0xEC00 ≤ w ∧ w < 0xF000) ∨ (0xF006 ≤ w ∧ w < 0xF800) ∨ 0xF900 ≤ w →
    u.defined k w = false)


/-- R267: GETFP, SETFP, GETIOB, SETIOB, GETCNT, GETST and SETST; FADR pushes the frame address of R259. SETFP and SETIOB ignore bits
1:0. SETST writes STATUS with its access rules: C, V and AFT are written, a 1 clears AF, RS and BANK are not written. -/
def Obligations.CoreRegisterMoves : Prop :=
  ∀ (s : State) (k v imm : Nat) (rest : List Nat), v < 2 ^ 32 →
    (Issues s k [] rest 1 → imm < 4096 →
      ∀ l ∈ [{ instr := .getfp k, res := [4 * s.u.rd (Reg.CORE_FP.ADDR k)] }, { instr := .getiob k, res := [4 * s.u.rd (Reg.CORE_IOB.ADDR k)] },
        { instr := .getcnt k, res := [s.u.rd (Reg.CORE_CNT.CNT k)] }, { instr := .fadr k imm, res := [frameAt s k imm] },
        { instr := .getst k, res := [s.u.rd (Reg.CORE_STATUS.C k) + 2 * s.u.rd (Reg.CORE_STATUS.V k) + 4 * s.u.rd (Reg.CORE_STATUS.AF k) +
            8 * s.u.rd (Reg.CORE_STATUS.AFT k) + 16 * s.u.rd (Reg.CORE_STATUS.RS k) + 32 * s.u.rd (Reg.CORE_STATUS.BANK k)] : Law } ],
        l.holds s k rest) ∧
    (Issues s k [v] rest 0 →
      Completes (.setfp k) s (fun t => t.u.rd (Reg.CORE_FP.ADDR k) = v / 4 ∧
        CoreAfter s t k rest (s.u.stk k (s.u.rsT k)) (s.u.pcOf k + 1) [Reg.CORE_FP.ADDR k]) ∧
      Completes (.setiob k) s (fun t => t.u.rd (Reg.CORE_IOB.ADDR k) = v / 4 ∧
        CoreAfter s t k rest (s.u.stk k (s.u.rsT k)) (s.u.pcOf k + 1) [Reg.CORE_IOB.ADDR k]) ∧
      Completes (.setst k) s (fun t => t.u.rd (Reg.CORE_STATUS.C k) = v % 2 ∧ t.u.rd (Reg.CORE_STATUS.V k) = v / 2 % 2 ∧
        t.u.rd (Reg.CORE_STATUS.AF k) = (if v / 4 % 2 = 1 then 0 else s.u.rd (Reg.CORE_STATUS.AF k) % 2) ∧
        t.u.rd (Reg.CORE_STATUS.AFT k) = v / 8 % 2 ∧
        CoreAfter s t k rest (s.u.stk k (s.u.rsT k)) (s.u.pcOf k + 1)
          [Reg.CORE_STATUS.C k, Reg.CORE_STATUS.V k, Reg.CORE_STATUS.AF k, Reg.CORE_STATUS.AFT k]))

/-- R328, R331: EVENT_ENTRY at an entry point with a class due: PC, STATUS and CNT are saved, RS and CNT cleared, the reservation is
lost, the class is active and the pc stands at its vector. A fast entry with nothing buffered sets BANK, clears AFT and reports
its cause, kind 0 for an entry by its ring alone.
R330: RETE ends the fast class if it is active and otherwise the normal class, and restores PC, STATUS and CNT from that
class's save registers; with neither active it raises UNDEF. -/
def Obligations.EventEntryAndReturn : Prop :=
  (∀ (s : State) (k : Nat), AtEntry s k →
     (s.u.entryDue k = some false → Completes (.eventEntry k) s fun t =>
       t.u.rd (Reg.EVT_NSAVE_PC.PC k) = s.u.pcOf k % 2 ^ 32 ∧ t.u.rd (Reg.EVT_NSAVE_ST.STATUS k) = s.u.statusOf k % 64 ∧
         t.u.rd (Reg.EVT_NSAVE_CNT.CNT k) = s.u.rd (Reg.CORE_CNT.CNT k) % 65536 ∧ t.u.rd (Reg.CORE_STATUS.RS k) = 0 ∧ t.u.rd (Reg.CORE_CNT.CNT k) = 0 ∧
         t.u.rd (Reg.EVT_ACTIVE.NACT k) = 1 ∧ t.u.pcOf k = s.u.rd (Reg.EVT_NVEC.PC k) % 2 ^ 32 ∧ (t.u.cpuOf k).res = none ∧
         CoreKept s t k [Reg.EVT_NSAVE_PC.PC k, Reg.EVT_NSAVE_ST.STATUS k, Reg.EVT_NSAVE_CNT.CNT k, Reg.CORE_STATUS.RS k, Reg.CORE_CNT.CNT k,
           Reg.EVT_ACTIVE.NACT k, Reg.CORE_RES.VALID k]) ∧
     (s.u.entryDue k = some true → (s.u.cpuOf k).sbuf = [] → Completes (.eventEntry k) s fun t =>
       t.u.rd (Reg.EVT_FSAVE_PC.PC k) = s.u.pcOf k % 2 ^ 32 ∧ t.u.rd (Reg.EVT_FSAVE_ST.STATUS k) = s.u.statusOf k % 64 ∧
         t.u.rd (Reg.EVT_FSAVE_CNT.CNT k) = s.u.rd (Reg.CORE_CNT.CNT k) % 65536 ∧ t.u.rd (Reg.CORE_STATUS.BANK k) = 1 ∧ t.u.rd (Reg.CORE_STATUS.AFT k) = 0 ∧
         t.u.rd (Reg.CORE_STATUS.RS k) = 0 ∧ t.u.rd (Reg.CORE_CNT.CNT k) = 0 ∧ t.u.rd (Reg.EVT_ACTIVE.FACT k) = 1 ∧
         t.u.pcOf k = s.u.rd (Reg.EVT_FVEC.PC k) % 2 ^ 32 ∧ (t.u.cpuOf k).res = none ∧ (t.u.cpuOf k).sync = none ∧
         t.u.rd (Reg.EVT_FCAUSE.KIND k) = (match (s.u.cpuOf k).sync with | some e => e.kind % 256 | none => 0) ∧
         t.u.rd (Reg.EVT_FCAUSEP.PAYLOAD k) = (match (s.u.cpuOf k).sync with | some e => e.pay % 2 ^ 32 | none => 0) ∧ OthersKept s t k ∧ MemKept s t)) ∧
  (∀ (s : State) (k : Nat) (fast : Bool), k < 65 → s.u.coreFresh k = true →
     (s.u.is (actF fast k) = true → (fast = false → s.u.is (Reg.EVT_ACTIVE.FACT k) = false) → Completes (.rete k) s fun t =>
       t.u.pcOf k = s.u.rd (savePc fast k) % 2 ^ 32 ∧ t.u.statusOf k = s.u.rd (saveSt fast k) % 64 ∧
         t.u.rd (Reg.CORE_CNT.CNT k) = s.u.rd (saveCnt fast k) % 65536 ∧ t.u.rd (actF fast k) = 0 ∧
         (∀ n, n < 4 → t.u.stk k n = s.u.stk k n) ∧ OthersKept s t k ∧ MemKept s t) ∧
     (s.u.is (Reg.EVT_ACTIVE.FACT k) = false → s.u.is (Reg.EVT_ACTIVE.NACT k) = false → Completes (.rete k) s fun t =>
       Raises s t k 0x01 0x9012 ∧ t.u.pcOf k = s.u.pcOf k))



/-- R336 to R339, R341: the ring registers and the delivery of a source's oldest record: RD moves only from RD to WR; EN 0 to 1
empties the ring; a record leaves its source's queue, reaches the ring of the core whose filters match it, in the class of the lowest matching filter, and
is discarded where none matches.
R275, R333, R336, R340: SWE pops its payload and puts a record into the core's own normal ring; EVT_SEND puts a record into the
ring it names, with the time and the angle of the present instant and the payload of EVT_SENDP. -/
def Obligations.EventsSentAndDelivered : Prop :=
  (∀ (s : State) (k v src : Nat) (fast : Bool), k < 65 → s.u.coreLive k = true →
     (v < 65536 → (v + 65536 - s.u.rd (ringRdF fast k)) % 65536 ≤ s.u.ringHeld k fast → (s.u.cpuOf k).drops fast = 0 →
       Sets (.evtRingRdWrite k fast v) s [(ringRdF fast k, v)]) ∧
     (v < 65536 → s.u.ringHeld k fast < (v + 65536 - s.u.rd (ringRdF fast k)) % 65536 →
       Sets (.evtRingRdWrite k fast v) s [(Reg.EVT_STATUS.RD_ERR k, 1)]) ∧
     (s.u.is (ringCfgEn fast k) = false → Sets (.evtRingEnable k fast 0) s
       [(ringCfgBase fast k, 0), (ringCfgSize fast k, 0), (ringCfgEn fast k, 1), (ringWrF fast k, 0), (ringRdF fast k, 0)] []
       fun t => (t.u.cpuOf k).drops fast = 0) ∧
     (∀ r rs, isSource src = true → (s.u.evQueue src).q = r :: rs → r.src < 65536 → r.kind < 256 → Completes (.eventRecordArrive src) s fun t =>
       (t.u.evQueue src).q = rs ∧ (t.u.evQueue src).lost = false ∧ t.pending = s.pending ∧
         ((∀ j, j < 65 → s.u.hears j = false ∨ s.u.route j r.src r.kind = none) → RegsKept s.u t.u [] ∧ MemKept s t) ∧
         (∀ n, s.u.hears k = true → s.u.route k r.src r.kind = some n → RingOpen s k (s.u.is (Reg.EVT_FLTn_B.CLASS k n)) →
           (∀ j, j < 65 → j ≠ k → s.u.hears j = false ∨ s.u.route j r.src r.kind = none) →
           RingGets s t k (s.u.is (Reg.EVT_FLTn_B.CLASS k n))
             (r.src + r.kind * 2 ^ 16 + b2n (s.u.is (Reg.EVT_FLTn_B.CLASS k n)) * 2 ^ 24 + b2n (s.u.evQueue src).lost * 2 ^ 27) (r.time % 2 ^ 32)
             ((r.ang[if r.src / 0x1000 = 1 then r.src % 0x1000 else s.u.rd (Reg.EVT_FLTn_B.BASE k n)]?).getD noAngle % 2 ^ 32) (r.pay % 2 ^ 32)))) ∧
  (∀ (s : State) (k n w : Nat) (rest : List Nat), n < 2 ^ 32 →
     (Issues s k [n] rest 0 → RingOpen s k false → Completes (.swe k) s fun t =>
       RingGets s t k false (k + 0x08 * 2 ^ 16 + 2 ^ 25) (s.u.now % 2 ^ 32) (s.u.stampAngle (s.u.rd (Reg.EVT_CTRL.SBASE k)) s.u.clock) n ∧
         t.u.stk k (s.u.dsT k) = rest ∧ t.u.pcOf k = (s.u.pcOf k + 1) % 2 ^ 32) ∧
     (k < 65 → s.u.coreLive k = true → bits w 6 0 < 65 → s.u.hears (bits w 6 0) = true → RingOpen s (bits w 6 0) (bit w 7) →
       Completes (.evtSend k w) s fun t =>
         RingGets s t (bits w 6 0) (bit w 7) (0xF000 + k + bits w 15 8 * 2 ^ 16 + b2n (bit w 7) * 2 ^ 24) (s.u.now % 2 ^ 32)
           (s.u.stampAngle (bits w 18 16) s.u.clock) (s.u.rd (Reg.EVT_SENDP.PAYLOAD k) % 2 ^ 32)) ∧
     (k < 65 → s.u.coreLive k = true → (64 < bits w 6 0 ∨ s.u.hears (bits w 6 0) = false) →
       Sets (.evtSend k w) s [(Reg.EVT_STATUS.SEND_ERR k, 1)]))

/-- R288: DCWB writes a dirty line back to memory and leaves it clean, DCINV and ICINV drop a line; outside an enabled cacheable
aperture they do nothing but take their operand. -/
def Obligations.CacheLineOperations : Prop :=
  ∀ (s : State) (k a p attr : Nat) (rest : List Nat) (c : CacheLine), Issues s k [a] rest 0 → (s.u.cpuOf k).sbuf = [] →
    (a < 0x20000 → ∀ i ∈ [Instr.dcwb k, .dcinv k], Completes i s fun t => CoreAfter s t k rest (s.u.stk k (s.u.rsT k)) (s.u.pcOf k + 1) [] ∧
      (t.u.cpuOf k).dc = (s.u.cpuOf k).dc) ∧
    (a < 0x8000 → Completes (.icinv k) s fun t => CoreAfter s t k rest (s.u.stk k (s.u.rsT k)) (s.u.pcOf k + 1) [] ∧ (t.u.cpuOf k).ic = (s.u.cpuOf k).ic) ∧
    (s.u.dmap k a = .phys p attr → attr ≠ 0 → Completes (.dcinv k) s fun t =>
      CoreAfter s t k rest (s.u.stk k (s.u.rsT k)) (s.u.pcOf k + 1) [] ∧ findLine (t.u.cpuOf k).dc p = none) ∧
    (s.u.imap k a = .phys p attr → attr ≠ 0 → Completes (.icinv k) s fun t =>
      CoreAfter s t k rest (s.u.stk k (s.u.rsT k)) (s.u.pcOf k + 1) [] ∧ findLine (t.u.cpuOf k).ic p = none) ∧
    (s.u.dmap k a = .phys p attr → attr ≠ 0 → findLine (s.u.cpuOf k).dc p = some c → c.dirty = true → c.bytes.length = 64 →
      physTarget c.line = .dram → s.u.physCode true c.line 64 = 0 → Completes (.dcwb k) s fun t =>
        t.load c.line 64 = leNat c.bytes ∧ (∀ b, b < c.line ∨ c.line + 64 ≤ b → t.byte b = s.byte b) ∧
          findLine (t.u.cpuOf k).dc p = some { c with dirty := false } ∧ t.u.stk k (s.u.dsT k) = rest ∧ t.u.pcOf k = (s.u.pcOf k + 1) % 2 ^ 32)

/-- R273: the built-in routines with nothing buffered and room for four entries more: SQRTU is the integer square root; MULQ the rounded and saturated product with
its V; with a count of 0 MOVE, FILL, CRC32C and CRC64 leave the value operands unchanged; FILL of up to eight words and MOVE of up to
32 bytes between ranges of core data RAM that do not meet store exactly their bytes.
R274, R306, R311, R315, R318: a customer routine of one microword whose nanoword only pops P of its K operands: it completes with
them gone; a code that names no entry point, or a store that is not ready, raises UNDEF, and so does every one in the steward core. -/
def Obligations.Routines : Prop :=
  (∀ (s : State) (k : Nat) (a b q : Word) (x y n : Nat) (rest : List Nat), (s.u.cpuOf k).sbuf = [] →
     (Issues s k [a.toNat] rest 5 → Completes (.sqrtu k) s fun t => ∃ r, r * r ≤ a.toNat ∧ a.toNat < (r + 1) * (r + 1) ∧
       CoreAfter s t k (r :: rest) (s.u.stk k (s.u.rsT k)) (s.u.pcOf k + 1) []) ∧
     (Issues s k [q.toNat, b.toNat, a.toNat] rest 7 → Completes (.mulq k) s fun t =>
       let p := a.toInt * b.toInt
       let h := (2 : Int) ^ (q.toNat % 32)
       let r := if 0 ≤ p then (2 * p + h) / (2 * h) else -((-(2 * p) + h) / (2 * h))
       t.u.rd (Reg.CORE_STATUS.V k) = b2n (wide r) ∧
         CoreAfter s t k ((saturated r).toNat :: rest) (s.u.stk k (s.u.rsT k)) (s.u.pcOf k + 1) [Reg.CORE_STATUS.V k]) ∧
     (Issues s k [0, y, x] rest 7 → ∀ i ∈ [Instr.move k, .fill k],
       Completes i s fun t => CoreAfter s t k rest (s.u.stk k (s.u.rsT k)) (s.u.pcOf k + 1) []) ∧
     (Issues s k [0, y, a.toNat] rest 7 → Completes (.crc32c k) s fun t =>
       CoreAfter s t k (a.toNat :: rest) (s.u.stk k (s.u.rsT k)) (s.u.pcOf k + 1) []) ∧
     (Issues s k [0, y, b.toNat, a.toNat] rest 8 → Completes (.crc64 k) s fun t =>
       CoreAfter s t k (b.toNat :: a.toNat :: rest) (s.u.stk k (s.u.rsT k)) (s.u.pcOf k + 1) []) ∧
     (Issues s k [n, y, x] rest 7 → n ≤ 8 → x % 4 = 0 → x + 4 * n ≤ 0x20000 → Completes (.fill k) s fun t =>
       (∀ j, j < n → t.load (dataRam k + x + 4 * j) 4 = y % 2 ^ 32) ∧
         (∀ c, c < dataRam k + x ∨ dataRam k + x + 4 * n ≤ c → t.byte c = s.byte c) ∧
         t.u.stk k (s.u.dsT k) = rest ∧ t.u.pcOf k = (s.u.pcOf k + 1) % 2 ^ 32) ∧
     (Issues s k [n, y, x] rest 7 → n ≤ 32 → x + n ≤ 0x20000 → y + n ≤ 0x20000 → x + n ≤ y ∨ y + n ≤ x → Completes (.move k) s fun t =>
       (∀ j, j < n → t.byte (dataRam k + y + j) = s.byte (dataRam k + x + j)) ∧
         (∀ c, c < dataRam k + y ∨ dataRam k + y + n ≤ c → t.byte c = s.byte c) ∧
         t.u.stk k (s.u.dsT k) = rest ∧ t.u.pcOf k = (s.u.pcOf k + 1) % 2 ^ 32)) ∧
  (∀ (s : State) (k i v : Nat) (args rest : List Nat), Issues s k args rest 0 → (s.u.cpuOf k).sbuf = [] → i < 256 →
     (k < 64 → s.u.wcsState (k / 8) = 2 → (s.u.wcsOf (k / 8)).isEntry i = true → (s.u.wcsOf (k / 8)).fmt i = false →
       mBranch ((s.u.wcsOf (k / 8)).word i) = false → mEnd ((s.u.wcsOf (k / 8)).word i) = true →
       (s.u.wcsOf (k / 8)).nanoOf (mNano ((s.u.wcsOf (k / 8)).word i)) = some v → (s.u.wcsOf (k / 8)).kOf i = args.length →
       v = 0xBB + args.length * 2 ^ 18 → args.length ≤ 3 → rest.length + args.length ≤ 12 →
       Completes (.wcsEntry k i .clean) s fun t => CoreAfter s t k rest (s.u.stk k (s.u.rsT k)) (s.u.pcOf k + 1) []) ∧
     ((64 ≤ k ∨ s.u.wcsState (k / 8) ≠ 2 ∨ (s.u.wcsOf (k / 8)).isEntry i = false) → ∀ up, Completes (.wcsEntry k i up) s fun t =>
       Raises s t k 0x01 (0xF800 + i) ∧ t.u.pcOf k = s.u.pcOf k ∧ t.u.stk k (s.u.dsT k) = args ++ rest))

/-! ## Attached units, voltage controllers, control stores (11_pipeline_and_timing.md R286, R293, R296 to R304; 12_microcode.md R322, R323;
14_attached_units.md R345 to R359) -/

namespace Sys2Proof.Machine

/-- The operations of the attached units: instruction word and operands (R347). -/
def copForms (k : Nat) : List (Instr × Nat × Nat) :=
  [(.jcfg k, 0xE000, 1), (.jldc k, 0xE001, 3), (.jclr k, 0xE002, 0), (.jfir k, 0xE010, 2), (.jfft k, 0xE011, 2), (.jxcm k, 0xE012, 2),
   (.pkcfg k, 0xE400, 1), (.pkenc k, 0xE401, 3), (.pkdec k, 0xE402, 2), (.shinit k, 0xE800, 1), (.shblk k, 0xE801, 3), (.shchn k, 0xE802, 1)]

/-- Operands the unit accepts (R347, R349, R350, R354); top first. -/
def copAccepts (u : Units) (k w : Nat) (l : List Nat) : Prop :=
  match w with
  | 0xE000 => l.getD 0 0 < 2 ^ 27
  | 0xE001 => 1 ≤ l.getD 0 0 ∧ l.getD 0 0 ≤ 256 ∧ l.getD 1 0 ≤ 15
  | 0xE011 => 4 ≤ cfgLog ((u.jetOf (k / 8)).cfgOf (k % 8)) ∧ cfgLog ((u.jetOf (k / 8)).cfgOf (k % 8)) ≤ 10
  | 0xE012 => 1 ≤ l.getD 0 0 ∧ l.getD 0 0 ≤ 4096
  | 0xE400 => l.getD 0 0 < 2 ^ 10 ∧ bits (l.getD 0 0) 6 5 ≠ 3 ∧ (bit (l.getD 0 0) 9 = true → bits (l.getD 0 0) 8 7 = 0)
  | 0xE401 => 1 ≤ l.getD 0 0 ∧ l.getD 0 0 * (bits (SMap.get 0 u.pkcfg k) 4 0 + 1) ≤ 8192
  | _ => True

/-- One step of 5 mV toward a goal (R299). -/
def toward (v goal : Nat) : Nat := if v < goal then v + 1 else if goal < v then v - 1 else v

end Sys2Proof.Machine

/-- R272, R345 to R347: an operation of a unit that is present, with operands the unit accepts and nothing buffered, takes its operands
and waits for the unit, which serves it at once if it is free; with the unit absent it raises UNDEF. -/
def Obligations.CoprocessorIssue : Prop :=
  ∀ (s : State) (k : Nat) (args rest : List Nat), Issues s k args rest 3 → (s.u.cpuOf k).sbuf = [] →
    ∀ f ∈ copForms k, args.length = f.2.2 →
      (s.u.copDefined k f.2.1 = true → copAccepts s.u k f.2.1 args → Completes f.1 s fun t =>
        (t.u.cpuOf k).acc = some (.cop f.2.1 args) ∧ t.u.stk k (s.u.dsT k) = rest ∧ t.u.pcOf k = s.u.pcOf k ∧
          ((s.u.copOf (copUnit k f.2.1)).cur = none → (t.u.copOf (copUnit k f.2.1)).cur ≠ none) ∧
          CoreKept s t k [Reg.BSN_JET_STATUS.BUSY (k / 8), Reg.BSN_JET_STATUS.OWNER (k / 8), Reg.BSN_PK_STATUS.BUSY (k / 8),
            Reg.BSN_PK_STATUS.OWNER (k / 8)]) ∧
      (s.u.copDefined k f.2.1 = false → Completes f.1 s fun t =>
        Raises s t k 0x01 f.2.1 ∧ t.u.pcOf k = s.u.pcOf k ∧ t.u.stk k (s.u.dsT k) = args ++ rest)

/-- R345, R346, R350, R354, R359: COPROCESSOR_OP_DONE completes the operation the unit serves: JCFG leaves the core's configuration and
phase 0, JCLR an empty delay line, PKCFG the packer's configuration, SHINIT the initial hash of SHA-256 at its address. -/
def Obligations.CoprocessorDone : Prop :=
  ∀ (s : State) (k i pos : Nat) (w : Nat) (ops : List Nat), i < 17 → pos < 256 → (s.u.copOf i).cur = some k →
    (s.u.cpuOf k).acc = some (.cop w ops) → (s.u.cpuOf k).rep = none → copUnit k w = i →
    (w = 0xE000 → Completes (.coprocessorOpDone i .clean false pos) s fun t =>
      (t.u.jetOf (k / 8)).cfgOf (k % 8) = ops.getD 0 0 ∧ (t.u.jetOf (k / 8)).phaseOf (k % 8) = 0 ∧ (t.u.cpuOf k).acc = none ∧
        t.u.pcOf k = (s.u.pcOf k + 1) % 2 ^ 32 ∧ MemKept s t) ∧
    (w = 0xE002 → Completes (.coprocessorOpDone i .clean false pos) s fun t =>
      (t.u.jetOf (k / 8)).delayOf (k % 8) = [] ∧ (t.u.jetOf (k / 8)).phaseOf (k % 8) = 0 ∧ (t.u.cpuOf k).acc = none ∧
        t.u.pcOf k = (s.u.pcOf k + 1) % 2 ^ 32 ∧ MemKept s t) ∧
    (w = 0xE400 → Completes (.coprocessorOpDone i .clean false pos) s fun t =>
      SMap.get 0 t.u.pkcfg k = ops.getD 0 0 ∧ (t.u.cpuOf k).acc = none ∧ t.u.pcOf k = (s.u.pcOf k + 1) % 2 ^ 32 ∧ MemKept s t) ∧
    (w = 0xE800 → k < 64 → ops.getD 0 0 % 4 = 0 → 0x1000000 ≤ ops.getD 0 0 → ops.getD 0 0 + 32 ≤ 0x1400000 →
      (∀ j, j < 8 → s.u.physCode true (sramBase (k / 8) + (ops.getD 0 0 - 0x1000000) + 4 * j) 4 = 0) →
      Completes (.coprocessorOpDone i .clean false pos) s fun t =>
        t.loadWords (sramBase (k / 8) + (ops.getD 0 0 - 0x1000000)) 8 =
          [0x6A09E667, 0xBB67AE85, 0x3C6EF372, 0xA54FF53A, 0x510E527F, 0x9B05688C, 0x1F83D9AB, 0x5BE0CD19] ∧
          (t.u.cpuOf k).acc = none ∧ t.u.pcOf k = (s.u.pcOf k + 1) % 2 ^ 32)

/-- R286, R293, R296, R299, R302, R304, R243: the core's mode, apertures and spill areas; the voltage controller's monitor, its update under
the fixed law, and its registers. -/
def Obligations.CoreModesAndVoltage : Prop :=
  ∀ (s : State) (k n a t v now tj : Nat), k < 65 → n < 8 → a < 8 → t < 4 → s.u.coreLive k = true → s.u.basinPresent n = true →
    (s.u.dcOn k = false → s.u.icOn k = false → v < 2 ^ 32 → bits v 9 8 ≠ 3 → Sets (.coreModeWrite k v) s
      [(Reg.CORE_MODE.DET k, bits v 0 0), (Reg.CORE_MODE.ICE k, bits v 1 1), (Reg.CORE_MODE.DCE k, bits v 2 2), (Reg.CORE_MODE.DUAL k, bits v 3 3),
       (Reg.CORE_MODE.PRED k, bits v 4 4), (Reg.CORE_MODE.WMODE k, bits v 9 8)]) ∧
    (bits v 2 1 ≠ 3 → Sets (.coreApWrite k a v) s
      [(Reg.CORE_APa.EN k a, bits v 0 0), (Reg.CORE_APa.ATTR k a, bits v 2 1), (Reg.CORE_APa.BASE k a, bits v 15 8)]) ∧
    (s.u.rd (stkUsed t k) = 0 → v % 2 ^ 17 / 4 * 4 + 4 * bits v 31 20 ≤ 0x20000 → Sets (.coreSpillCfgWrite k t v) s
      [(stkBase t k, v % 2 ^ 17 / 4 * 4), (stkWords t k, bits v 31 20)]) ∧
    (s.u.rd (stkUsed t k) ≠ 0 ∨ 0x20000 < v % 2 ^ 17 / 4 * 4 + 4 * bits v 31 20 → Sets (.coreSpillCfgWrite k t v) s []) ∧
    (now < 65536 → tj < 256 → s.u.basinDark n = false → Sets (.bsnMonitorReading n now tj) s
      [(Reg.BSN_TOKEN.NOW n, now), (Reg.BSN_TJ.TEMP n, tj),
       (Reg.BSN_TOKMAX.MAX n, if s.u.rd (Reg.BSN_TOKMAX.MAX n) < now then now else s.u.rd (Reg.BSN_TOKMAX.MAX n))]) ∧
    (s.u.basinDark n = false → s.u.basinIdle n = false → s.u.rd (Reg.BSN_VCTRL.MODE n) = 0 →
      let top := min (s.u.rd (Reg.BSN_VLIM.VMAX n)) (s.u.rd (Reg.BSN_VSTATUS.CEIL n))
      let goal := max (min (s.u.rd (Reg.BSN_VLIM.VMIN n)) top) (min top (s.u.rd (Reg.BSN_VSET.VFIX n)))
      Sets (.bsnVctrlUpdate n) s [(Reg.BSN_VSTATUS.VNOW n, toward (s.u.rd (Reg.BSN_VSTATUS.VNOW n)) goal % 128), (Reg.BSN_VSTATUS.ACTIVE n, 0),
        (Reg.BSN_TREQ.T n, 0xFFFF)] [Reg.BSN_VSTATUS.AT_TOP n, Reg.BSN_VSTATUS.OVR n]) ∧
    (v % 4 ≤ 1 → Sets (.bsnVctrlWrite n v) s [(Reg.BSN_VCTRL.MODE n, v % 4), (Reg.BSN_VCTRL.ENG n, v / 4 % 4)]) ∧
    (v % 4 = 2 → s.u.rd (Reg.BSN_BUDGET.TOKENS n) = 0 → Sets (.bsnVctrlWrite n v) s [(Reg.BSN_VSTATUS.CFG_ERR n, 1)] [Reg.BSN_VCTRL.ENG n]) ∧
    (bits v 6 0 ≤ 100 → bits v 14 8 ≤ 100 → bits v 6 0 ≤ bits v 14 8 → Sets (.bsnVlimWrite n v) s
      [(Reg.BSN_VLIM.VMIN n, bits v 6 0), (Reg.BSN_VLIM.VMAX n, bits v 14 8)]) ∧
    (bits v 6 0 ≤ 100 → bits v 14 8 ≤ 100 → bits v 14 8 < bits v 6 0 → Sets (.bsnVlimWrite n v) s [(Reg.BSN_VSTATUS.CFG_ERR n, 1)]) ∧
    Sets (.bsnTokmaxClr n) s [(Reg.BSN_TOKMAX.MAX n, 0)]

/-- R322, R323: the loading of a control store: OPEN empties it (at once, or once no customer routine runs), WRITE and READ move the word
at INDEX, COMMIT checks it and leaves it READY or reports the first failure, ABORT empties it. -/
def Obligations.ControlStoreLoading : Prop :=
  ∀ (s : State) (n : Nat), n < 8 → s.u.basinPresent n = true →
    let st := Reg.BSN_WCS_STATUS.STATE n
    let i := s.u.rd (Reg.BSN_WCS_ADDR.INDEX n)
    let empty : List (Fld × Nat) := [(st, 1), (Reg.BSN_WCS_STATUS.CFG_CODE n, 0), (Reg.BSN_WCS_STATUS.FAULT_IDX n, 0), (Reg.BSN_WCS_STATUS.ENTRIES n, 0)]
    (s.u.rd st ≠ 3 → s.u.wcsIdle n = true → Sets (.bsnWcsOpen n) s empty [Reg.PST_STATUS.STALE] fun t => t.u.wcsOf n = {}) ∧
    (s.u.rd st ≠ 3 → s.u.wcsIdle n = false → Sets (.bsnWcsOpen n) s [(st, 3)] [Reg.PST_STATUS.STALE] fun t => t.u.wcsOf n = s.u.wcsOf n) ∧
    (s.u.rd st = 3 → s.u.wcsIdle n = true → Sets (.wcsLoadingReached n) s empty [] fun t => t.u.wcsOf n = {}) ∧
    (s.u.rd st = 1 → s.u.is (Reg.BSN_WCS_ADDR.SPACE n) = false → Sets (.bsnWcsWrite n) s [] [Reg.BSN_WCS_ADDR.INDEX n] fun t =>
      (t.u.wcsOf n).word i = s.u.rd (Reg.BSN_WCS_DATA0.WORD n) % 2 ^ 23 ∧ (∀ j, j ≠ i → (t.u.wcsOf n).word j = (s.u.wcsOf n).word j) ∧
        (s.u.is (Reg.BSN_WCS_ADDR.AUTOINC n) = true → t.u.rd (Reg.BSN_WCS_ADDR.INDEX n) = (i + 1) % 256)) ∧
    (s.u.rd st = 1 → s.u.is (Reg.BSN_WCS_ADDR.SPACE n) = false → Sets (.bsnWcsRead n) s
      [(Reg.BSN_WCS_DATA0.WORD n, (s.u.wcsOf n).word i % 2 ^ 32)]) ∧
    (s.u.rd st = 1 → Sets (.bsnWcsCommit n) s [] [] fun t => (t.u.wcsOf n).checking = true ∧ (t.u.wcsOf n).micro = (s.u.wcsOf n).micro) ∧
    (s.u.rd st = 1 → (s.u.wcsOf n).checking = true → (s.u.wcsOf n).check.1 = 0 → Sets (.wcsCommitDone n) s
      [(st, 2), (Reg.BSN_WCS_STATUS.CFG_CODE n, 0), (Reg.BSN_WCS_STATUS.ENTRIES n, ((List.range 256).filter (s.u.wcsOf n).isEntry).length)]
      [Reg.BSN_WCS_STATUS.FAULT_IDX n, Reg.PST_STATUS.STALE]) ∧
    (s.u.rd st = 1 → (s.u.wcsOf n).checking = true → (s.u.wcsOf n).check.1 ≠ 0 → Sets (.wcsCommitDone n) s
      [(st, 1), (Reg.BSN_WCS_STATUS.CFG_CODE n, (s.u.wcsOf n).check.1 % 16), (Reg.BSN_WCS_STATUS.FAULT_IDX n, (s.u.wcsOf n).check.2 % 256)]) ∧
    (s.u.rd st = 1 → Sets (.bsnWcsAbort n) s [(st, 0), (Reg.BSN_WCS_STATUS.ENTRIES n, 0)] [] fun t => t.u.wcsOf n = {})

/-! ## Angle engines (02_angle_bases.md R28 to R78) -/

namespace Sys2Proof.Machine

/-- The drop counter of an engine's event queue. -/
def angDrops (n : Nat) : List Fld := [Reg.ANG_EVTDROP.COUNT n, Reg.ANG_EVTDROP.OVF n]

/-- Engine n has gained FULL_SYNC with its angle at a within cycle R45 (R45, R47). -/
def Synced (s t : State) (n : Nat) (a : Int) : Prop :=
  t.u.absAngle n t.u.clock = some ((s.u.entryCycleNo n : Int) * s.u.cycleLen n + a)

/-- What gaining FULL_SYNC writes. -/
def syncVals (s : State) (n : Nat) : List (Fld × Nat) :=
  [(Reg.ANG_STATUS.STATE n, 4), (Reg.ANG_SYNCSEQ.SEQ n, (s.u.rd (Reg.ANG_SYNCSEQ.SEQ n) + 1) % 65536)]
def syncRegs (n : Nat) : List Fld := [Reg.ANG_WORD.WORD n, Reg.ANG_CRANK.ANGLE n, Reg.ANG_CRANK.VALID n] ++ angDrops n

/-- Entry e of engine n's active bank is the next, armed in this cycle, and its angle has been reached at tick t (R72). -/
def Due (s : State) (n t : Nat) (e : SchedEntry) : Prop :=
  s.u.clock ≤ t ∧ (∃ x, s.u.absAngle n t = some x ∧ (s.u.eng n).cyc * s.u.cycleLen n + e.angle ≤ x) ∧ s.u.angState n = 4 ∧
    s.u.rd (Reg.ANG_STATUS.REV n) = 0 ∧ (s.u.eng n).active[(s.u.eng n).ptr]? = some e ∧ e.passes (s.u.eng n).cyc = true

/-- Command c uses the entry up. -/
def Fires (c : Instr) (s : State) (n : Nat) (vals : List (Fld × Nat)) (other : List Fld) (P : State → Prop) : Prop :=
  Sets c s vals other fun t => (t.u.eng n).ptr = (s.u.eng n).ptr + 1 ∧ P t

/-- A pulse travels on a line that was idle. -/
def PulseOn (t : State) (l : Nat) : Prop := (t.u.pulseLine l).flight = 1 ∧ (t.u.pulseLine l).taken = false

/-- Bits of a slot register but one are as before. -/
def OtherSlots (s t : State) (f : Fld) (slot : Nat) : Prop :=
  ∀ j, j < 32 → j ≠ slot % 32 → bit (t.u.rd f) j = bit (s.u.rd f) j

end Sys2Proof.Machine

/-- R34, R40, R42, R45 to R47, R50 to R53, R56, R60, R61, R64, R65: the decoder. Enabling, disabling, RESYNC; tooth, cam and
direction-pulse edges; the cycle boundary; the stall time; resolver, Hall and encoder steps. -/
def Obligations.AngleDecoder : Prop :=
  ∀ (s : State) (n t : Nat), n < 4 →
    let e := s.u.eng n
    let now := max s.u.clock t
    let st := s.u.angState n
    let mode := s.u.angMode n
    let c := s.u.cycleLen n
    let quiet (v : State) : Prop := NoWindows s → mode ≠ 4 → KeptOutside s.u v.u [angZone n]
    (s.u.rd (Reg.ANG_CTRL.EN n) = 0 → s.u.angCode n = 0 → mode ≠ 4 → Sets (.angEnable n) s
      [(Reg.ANG_CTRL.EN n, 1), (Reg.ANG_STATUS.CFG_CODE n, 0), (Reg.ANG_STATUS.CFG_ERR n, 0), (Reg.ANG_STATUS.STATE n, 2),
       (Reg.ANG_DONE0.SLOT n, 0), (Reg.ANG_DONE1.SLOT n, 0), (Reg.ANG_OPEN0.SLOT n, 0), (Reg.ANG_OPEN1.SLOT n, 0),
       (Reg.ANG_PERIOD.TICKS n, 0xFFFFFFFF)] [Reg.ANG_WHEEL_CFG.GAPS n, Reg.ANG_STATUS.SCHED_ERR n]) ∧
    (s.u.rd (Reg.ANG_CTRL.EN n) = 0 → s.u.angCode n ≠ 0 → Sets (.angEnable n) s
      [(Reg.ANG_STATUS.CFG_CODE n, s.u.angCode n), (Reg.ANG_STATUS.CFG_ERR n, 1)]
      ([Reg.ANG_CTRL.EN n, Reg.ANG_DONE0.SLOT n, Reg.ANG_DONE1.SLOT n, Reg.ANG_OPEN0.SLOT n, Reg.ANG_OPEN1.SLOT n, Reg.ANG_PERIOD.TICKS n,
        Reg.ANG_WHEEL_CFG.GAPS n, Reg.ANG_STATUS.SCHED_ERR n] ++ angDrops n) fun v => EmitsNow s v (0x1000 + n) 0x0F (s.u.angCode n)) ∧
    (s.u.rd (Reg.ANG_CTRL.EN n) = 1 → Gives (.angDisable n) s
      [(Reg.ANG_CTRL.EN n, 0), (Reg.ANG_STATUS.STATE n, 0), (Reg.ANG_WORD.WORD n, noAngle)] quiet) ∧
    (st = 3 ∨ st = 4 → Gives (.angResync n) s
      ([(Reg.ANG_STATUS.STATE n, 2), (Reg.ANG_WORD.WORD n, noAngle)] ++ s.u.counted (Reg.ANG_SYNCLOSS.COUNT n) (Reg.ANG_SYNCLOSS.OVF n) 1)
      quiet) ∧
    (s.u.pwr.frontOff = false → mode = 0 → s.u.rd (Reg.ANG_SRC.DIR_MODE n) = 0 → ∀ fwd,
      (st = 2 → e.lastEdge = none → Sets (.angToothEdge n t fwd) s [] [] fun v =>
        (v.u.eng n).lastEdge = some ((t : Int) - 3) ∧ (v.u.eng n).seekEdges = e.seekEdges + 1) ∧
      (st = 1 → Sets (.angToothEdge n t fwd) s [(Reg.ANG_STATUS.STATE n, 2), (Reg.ANG_STATUS.REV n, 0)] (angDrops n) fun v =>
        (v.u.eng n).lastEdge = some ((t : Int) - 3) ∧ Emits s v (0x1000 + n) [s.u.eventAt now (0x1000 + n) 0x06 0])) ∧
    (∀ x, s.u.pwr.frontOff = false → mode = 0 → s.u.rd (Reg.ANG_SRC.CAM_EN n) = 1 → st = 4 → s.u.absAngle n now = some x →
      (s.u.rd (Reg.ANG_CAM_LO.ANGLE n) : Int) ≤ x % c → x % c ≤ s.u.rd (Reg.ANG_CAM_HI.ANGLE n) → Sets (.angCamEdge n t) s
        [(Reg.ANG_CAMPHASE.ANGLE n, (x % c).toNat), (Reg.ANG_CAMPHASE.VALID n, 1), (Reg.ANG_STATUS.CAMVALID n, 1)]) ∧
    (∀ x, s.u.rd (Reg.ANG_SRC.CAM_EN n) = 0 → s.u.absAngle n now = some x → x / c > e.cyc → s.u.bankDone n = true →
      (s.u.rd (Reg.ANG_STATUS.PENDING n) = 0 → Sets (.angCycleWrap n t) s [] [] fun v =>
        (v.u.eng n).cyc = e.cyc + 1 ∧ (v.u.eng n).ptr = 0 ∧ (v.u.eng n).active = e.active) ∧
      (s.u.rd (Reg.ANG_STATUS.PENDING n) = 1 → Sets (.angCycleWrap n t) s
        [(Reg.ANG_STATUS.PENDING n, 0), (Reg.ANG_STATUS.BANK n, 1 - s.u.rd (Reg.ANG_STATUS.BANK n))] (angDrops n) fun v =>
        (v.u.eng n).cyc = e.cyc + 1 ∧ (v.u.eng n).ptr = 0 ∧ (v.u.eng n).active = e.inactive)) ∧
    (mode = 0 → s.u.rd (Reg.ANG_SRC.DIR_MODE n) = 0 → st = 2 ∨ st = 3 ∨ st = 4 → e.lastEdge ≠ none → Gives (.angStallTimeout n t) s
      [(Reg.ANG_STATUS.STATE n, 1), (Reg.ANG_SPEED.SPEED n, 0), (Reg.ANG_WORD.WORD n, noAngle)] quiet) ∧
    (∀ t0, s.u.pwr.frontOff = false → mode = 0 → s.u.rd (Reg.ANG_SRC.DIR_MODE n) = 1 → e.pulseStart = some t0 → st = 2 → e.lastEdge = none →
      Sets (.angDirPulseEnd n t) s [] (Reg.ANG_STATUS.REV n :: angDrops n) fun v =>
        (v.u.eng n).pulseStart = none ∧ (v.u.eng n).lastEdge = some t0 ∧
          (v.u.is (Reg.ANG_STATUS.REV n) = true ↔ ((max 1 (s.u.rd (Reg.ANG_SRC.DIR_PW n)) * 400 : Nat) : Int) ≤ (t : Int) - 3 - t0)) ∧
    (∀ angle err ampl, s.u.pwr.frontOff = false → mode = 1 → st = 2 → 50 ≤ ampl → ampl ≤ 150 → err < 500 →
      (e.resLock + 1 < 64 → Sets (.resLoopUpdate n t angle err ampl) s [(Reg.ANG_RES_STATUS.AMPL n, ampl), (Reg.ANG_RES_STATUS.LOCK n, 0)]
        [] fun v => (v.u.eng n).resLock = e.resLock + 1) ∧
      (64 ≤ e.resLock + 1 → s.u.sourceFaulted n = false → Sets (.resLoopUpdate n t angle err ampl) s
        (syncVals s n ++ [(Reg.ANG_RES_STATUS.AMPL n, ampl), (Reg.ANG_RES_STATUS.LOCK n, 1)]) (syncRegs n) fun v => Synced s v n ((angle : Int) % c))) ∧
    (∀ uvw, s.u.pwr.frontOff = false → mode = 2 → uvw < 8 →
      (∀ j, st = 2 → hallIndex e.hall = some j → hallIndex uvw = some ((j + 1) % 6) → s.u.sourceFaulted n = false →
        Sets (.hallTransition n t uvw) s (syncVals s n) (syncRegs n) fun v =>
          Synced s v n (((s.u.rd (Reg.ANG_MOFFSET.OFFSET n) : Int) + 61440 * (((j + 1) % 6 : Nat) : Int)) % c)) ∧
      (st ≠ 0 → st ≠ 6 → uvw ≠ e.hall → hallIndex uvw = none → Gives (.hallTransition n t uvw) s
        [(Reg.ANG_STATUS.STATE n, 6), (Reg.ANG_WORD.WORD n, noAngle)] quiet)) ∧
    (s.u.pwr.frontOff = false → mode = 3 → st ≠ 0 →
      Sets (.encStep n t .both) s (s.u.counted (Reg.ANG_MISMATCH.COUNT n) (Reg.ANG_MISMATCH.OVF n) 1) ∧
      (st = 2 → Sets (.encStep n t .fwd) s [] [Reg.ANG_STATUS.OVERSPEED n] fun v => (v.u.eng n).encCount = e.encCount + 1) ∧
      (st = 2 → s.u.sourceFaulted n = false → Sets (.encZEdge n t) s (syncVals s n) (syncRegs n) fun v =>
        (v.u.eng n).encCount = 0 ∧ Synced s v n ((s.u.rd (Reg.ANG_MOFFSET.OFFSET n) : Int) % c)))

/-- R66, R69 to R72, R76: the schedule's window, its commit and sort, the deadline slots' DONE bits, and what an entry that is due
does by its action: events only, analog requests, trigger actions, sluice requests, digital snapshots, OPEN and DEADLINE. -/
def Obligations.AngleSchedule : Prop :=
  ∀ (s : State) (n t : Nat), n < 4 →
    let e := s.u.eng n
    let i := s.u.rd (Reg.ANG_SCHED_IDX.INDEX n)
    (∀ w, s.u.rd (Reg.ANG_STATUS.BUSY n) = 0 →
      Sets (.angSchedBWrite n true w) s [] [Reg.ANG_SCHED_IDX.INDEX n] (fun v => SMap.get 0 (v.u.eng n).shadowB i = w % 2 ^ 32 ∧
        v.u.rd (Reg.ANG_SCHED_IDX.INDEX n) = if s.u.is (Reg.ANG_SCHED_IDX.AUTOINC n) then (i + 1) % 512 else i) ∧
      Sets (.angSchedBWrite n false w) s [] [] (fun v => SMap.get 0 (v.u.eng n).shadowA i = w % 2 ^ 32) ∧
      Sets (.angSchedCommit n) s [(Reg.ANG_STATUS.PENDING n, 0), (Reg.ANG_STATUS.BUSY n, 1)] [] fun v => (v.u.eng n).sorting = e.shadow) ∧
    (∀ w b, s.u.rd (Reg.ANG_STATUS.BUSY n) = 1 →
      Sets (.angSchedBWrite n b w) s [(Reg.ANG_STATUS.WR_BUSY n, 1)] ∧ Sets (.angSchedCommit n) s [(Reg.ANG_STATUS.WR_BUSY n, 1)] ∧
      (∀ x, s.u.absAngle n s.u.clock = some x → Sets (.angSortDone n) s [(Reg.ANG_STATUS.BUSY n, 0), (Reg.ANG_STATUS.PENDING n, 1)]
        [Reg.ANG_STATUS.SCHED_ERR n] fun v => (v.u.eng n).inactive.Pairwise (fun a b => a.angle ≤ b.angle) ∧
          (v.u.eng n).inactive.Perm (e.sorting.filter fun x => !s.u.entryBad n x))) ∧
    (∀ k w, k < 2 →
      let d := if k = 0 then Reg.ANG_DONE0.SLOT n else Reg.ANG_DONE1.SLOT n
      let o := s.u.rd (if k = 0 then Reg.ANG_OPEN0.SLOT n else Reg.ANG_OPEN1.SLOT n)
      Sets (.angDoneWrite n k w) s ((d, (s.u.rd d ||| (w &&& o)) % 2 ^ 32) :: s.u.counted (Reg.ANG_LATE.COUNT n) (Reg.ANG_LATE.OVF n)
        ((List.range 32).filter fun j => bit w j && !bit o j).length)) ∧
    (∀ x, Due s n t x → x.act = 0 → x.evt = true → Fires (.schedEventOnly n t) s n [] (angDrops n) fun v =>
      ∃ late, late ≤ 127 ∧ Emits s v (0x1000 + n) [s.u.eventAt t (0x1000 + n) 0x01 (late * 2 ^ 25 + x.idx * 2 ^ 16 + x.tag)]) ∧
    (∀ x, Due s n t x → x.evt = false → let g := x.target
      (x.act = 0 → Fires (.schedEventOnly n t) s n [] [] fun v => Silent s v) ∧
      (x.act = 1 → g < 32 → s.u.strmOn g = true → s.u.rd (Reg.AIN_GSTREAM.BASE g) = n → s.u.rd (Reg.AIN_GCFG.TRIG g) = 2 → s.u.domState 5 = 0 →
        (s.u.pulseLine (256 * n + (64 + g))).flight = 0 → Fires (.schedAinGroup n t) s n [] [] fun v => PulseOn v (256 * n + (64 + g))) ∧
      (x.act = 2 → g < 16 → s.u.strmOn (32 + g) = true → s.u.rd (Reg.FIN_STREAM.BASE g) = n → s.u.rd (Reg.FIN_CFG.TRIG g) ∈ [2, 3] →
        s.u.domState 6 = 0 → (s.u.pulseLine (256 * n + (96 + g))).flight = 0 →
        Fires (.schedFinConvert n t) s n [] [] fun v => PulseOn v (256 * n + (96 + g))) ∧
      (x.act = 3 → Fires (.schedTrgHigh n t) s n [] [] fun v => SMap.get [] v.u.trgQ n = SMap.get [] s.u.trgQ n ++ [(g, 0)]) ∧
      (x.act = 4 → Fires (.schedTrgLow n t) s n [] [] fun v => SMap.get [] v.u.trgQ n = SMap.get [] s.u.trgQ n ++ [(g, 1)]) ∧
      (x.act = 5 → Fires (.schedTrgToggle n t) s n [] [] fun v => SMap.get [] v.u.trgQ n = SMap.get [] s.u.trgQ n ++ [(g, 2)]) ∧
      (x.act = 6 → (s.u.pulseLine (256 * n + g)).flight = 0 → Fires (.schedSluiceRequest n t) s n [] [] fun v => PulseOn v (256 * n + g)) ∧
      (x.act = 7 → s.u.rd (Reg.DIN_GSTREAM.BASE g) = n → s.u.strmOn (48 + g) = true → (s.u.strm (48 + g)).pre = [] →
        (s.u.strm (48 + g)).buf = [] → (s.u.strm (48 + g)).openPkt = false → Fires (.schedDinSnapshot n t) s n [] [] fun v =>
          ∃ it, (v.u.strm (48 + g)).buf = [it] ∧ it.kind = 7 ∧ it.last = true ∧ it.words.length = 9 ∧ it.time = s.u.timeAt t) ∧
      (x.act = 8 → Fires (.schedOpen n t) s n [] [doneFld n g, openFld n g] fun v =>
        bit (v.u.rd (openFld n g)) (g % 32) = true ∧ bit (v.u.rd (doneFld n g)) (g % 32) = false ∧
          OtherSlots s v (openFld n g) g ∧ OtherSlots s v (doneFld n g) g) ∧
      (x.act = 9 → bit (s.u.rd (openFld n g)) (g % 32) = true → bit (s.u.rd (doneFld n g)) (g % 32) = true →
        Fires (.schedDeadline n t) s n [] [openFld n g] fun v => bit (v.u.rd (openFld n g)) (g % 32) = false ∧
          OtherSlots s v (openFld n g) g ∧ Silent s v) ∧
      (x.act = 9 → bit (s.u.rd (openFld n g)) (g % 32) = true → bit (s.u.rd (doneFld n g)) (g % 32) = false →
        Fires (.schedDeadline n t) s n (s.u.counted (Reg.ANG_MISSED.COUNT n) (Reg.ANG_MISSED.OVF n) 1) (openFld n g :: angDrops n) fun v =>
          bit (v.u.rd (openFld n g)) (g % 32) = false ∧ OtherSlots s v (openFld n g) g ∧
            Emits s v (0x1000 + n) [s.u.eventAt t (0x1000 + n) 0x0A (x.idx * 2 ^ 16 + g)]))

/-! ## The time base (03_time_and_stamps.md R79 to R91, R539) -/

namespace Sys2Proof.Machine

/-- A time moved by a step, held to 0 and 2^64 - 1 (R81). -/
def steppedTime (now : Nat) (d : Int) : Int := max 0 (min (2 ^ 64 - 1) ((now : Int) + d))

/-- No record sink has a record open and no stream is enabled: a step closes nothing. -/
def NothingOpen (s : State) : Prop := (∀ x, x < 3 → (s.u.sinkOf x).opened = none) ∧ ∀ i, i < 54 → s.u.is (strmEn i) = false

end Sys2Proof.Machine

/-- R80, R81, R91, R539: steps decided by a write to TIM_STEP_HI and taking effect; echoes; the latched read; the RTC's second and
its alarm, which wakes the module from Sleep and is latched during an entry. -/
def Obligations.TimeSteps : Prop :=
  ∀ (s : State) (t : Nat),
    let now := max s.u.clock t
    (∀ hi, let d := toInt 64 (s.u.tim.stepLo + (hi % 2 ^ 32) * 2 ^ 32)
      (d ≠ 0 → Sets (.timeStepWrite hi) s [(Reg.TIM_STATUS.STEP_PEND, 1)] [] fun v => v.u.tim.pendStep = s.u.tim.pendStep + d) ∧
      (d = 0 → Completes (.timeStepWrite hi) s fun v => v = s)) ∧
    (∀ d, s.u.rd Reg.TIM_STATUS.STEP_PEND = 1 → s.u.tim.pendStep = d → d ≠ 0 →
      let x := steppedTime (s.u.timeAt now) d
      let pay := ofInt 32 (clampI 2147483647 (x - s.u.timeAt now))
      Completes (.timeStepApply t) s fun v => (v.u.now : Int) = x ∧ v.u.tim.pendStep = 0 ∧ v.u.rd Reg.TIM_STATUS.STEP_PEND = 0 ∧
        Emits s v 0x2000 [v.u.eventAt now 0x2000 0x01 pay] ∧
        (NothingOpen s → v.u.active = (if s.u.active = 6 then 0 else s.u.active) ∧ MemKept s v ∧
          RegsKept s.u v.u [Reg.TIM_STATUS.STEP_PEND, Reg.TIM_STATUS.ACTIVE, Reg.TIM_STEPS.COUNT, Reg.TIM_STEPS.OVF] ∧
          ∀ p ∈ s.u.counted Reg.TIM_STEPS.COUNT Reg.TIM_STEPS.OVF 1, v.u.rd p.1 = p.2)) ∧
    Sets .timeEchoRealign s [] [] (fun v => v.u.tim.echo = s.u.now ∧ Silent s v) ∧
    (∀ who, who < 65 → Sets (.timNowLoRead who) s [] [] fun v =>
      v.u.rdata = s.u.now % 2 ^ 32 ∧ SMap.get 0 v.u.tim.latch who = s.u.now / 2 ^ 32 ∧
        ∀ j, j ≠ who → SMap.get 0 v.u.tim.latch j = SMap.get 0 s.u.tim.latch j) ∧
    (1 ≤ s.u.active → s.u.active ≤ 4 → Sets (.rtcSecondWrite t) s [(Reg.TIM_STATUS.RTC_VALID, 1)] [] fun v =>
      v.u.tim.rtcBase = s.u.timeAt now / 1000000000 * 32768 ∧ v.u.tim.rtcTick = now) ∧
    (let alarm := s.u.rd Reg.TIM_RTC_ALARM.SEC
     alarm ≠ 0 → (s.u.tim.rtcBase + (now - s.u.tim.rtcTick) * 32768 / 400000000) / 32768 = alarm →
      (s.u.pwr.target ≠ 0 → s.u.pwr.latched = none → Sets (.rtcAlarm t) s [] [] fun v => v.u.pwr.latched = some (3, 0)) ∧
      (s.u.pwr.target = 0 → s.u.pwr.down = 2 → Gives (.rtcAlarm t) s
        [(Reg.PWR_LASTWAKE.SRC, 3), (Reg.PWR_LASTWAKE.INDEX, 0), (Reg.PWR_LASTWAKE.REPLAY, 0), (Reg.PWR_LASTWAKE.FROM, 2),
         (Reg.PWR_STATUS.STATE, 0)] fun v => v.u.pwr.down = 0))

/-- R82 to R85: PPS edges, holdover, and the messages of gPTP: Sync, Pdelay, Announce, and those the module sends. -/
def Obligations.TimeSources : Prop :=
  ∀ (s : State) (t port : Nat) (off : Int), port < 13 → s.u.portPresent port = true →
    let now := max s.u.clock t
    let src := s.u.rd Reg.TIM_CTRL.SRC
    let p1 := s.u.rd Reg.TIM_GPTP_CFG.PRIORITY1
    let p2 := s.u.rd Reg.TIM_GPTP_CFG.PRIORITY2
    (∀ l sub, s.u.rd Reg.TIM_PPS_CFG.EN = 1 → s.u.tim.lastPps = some l → t < l + 360000000 →
      Sets (.ppsEdge t sub) s (s.u.counted Reg.TIM_PPS_NOISE.COUNT Reg.TIM_PPS_NOISE.OVF 1)) ∧
    (∀ sec sub : Nat, s.u.rd Reg.TIM_PPS_CFG.EN = 1 → s.u.tim.lastPps = none → s.u.tim.nextSec = some sec →
      (s.u.timeAt t : Int) + sub - s.u.rd Reg.TIM_PPS_CFG.CABLE - (sec : Int) * 1000000000 = off →
      (src = 0 → Sets (.ppsEdge t sub) s [(Reg.TIM_PPS_OFFSET.NS, ofInt 32 (clampI 2147483647 off))] [] fun v =>
        v.u.tim.lastPps = some t ∧ v.u.tim.nextSec = some (sec + 1)) ∧
      (src = 1 → s.u.rd Reg.TIM_CTRL.STEP_LIMIT ≠ 0 → off < -((s.u.rd Reg.TIM_CTRL.STEP_LIMIT * 100000 : Nat) : Int) →
        Gives (.ppsEdge t sub) s [(Reg.TIM_STATUS.ACTIVE, 1), (Reg.TIM_STATUS.STEP_PEND, 1)] fun v =>
          v.u.tim.pendStep = s.u.tim.pendStep - off)) ∧
    (s.u.active = 1 → Gives (.ppsHoldover t) s ([(Reg.TIM_STATUS.ACTIVE, 5), (Reg.TIM_STATUS.LOCK, 0)] ++
      s.u.counted Reg.TIM_PPS_MISS.COUNT Reg.TIM_PPS_MISS.OVF 1) fun v =>
        s.u.rd Reg.TIM_STATUS.LOCK = 0 → RegsKept s.u v.u [Reg.TIM_STATUS.ACTIVE, Reg.TIM_STATUS.LOCK, Reg.TIM_PPS_MISS.COUNT,
          Reg.TIM_PPS_MISS.OVF] ∧ Emits s v 0x2000 [s.u.eventAt now 0x2000 0x04 0]) ∧
    (s.u.active = 3 → s.u.rd Reg.TIM_GPTP_STATUS.SYNCED = 1 → Sets (.ppsHoldover t) s [(Reg.TIM_STATUS.ACTIVE, 2)]) ∧
    (s.u.rd Reg.TIM_GPTP_CFG.ROLE ≠ 0 → s.u.rd Reg.TIM_GPTP_STATUS.SLAVE_PORT = port →
      (src = 0 → Sets (.gptpSyncRx port t off) s [(Reg.TIM_GPTP_STATUS.SYNCED, 1), (Reg.TIM_GPTP_STATUS.OFFSET, ofInt 16 (clampI 32767 off))] []
        fun v => v.u.tim.gmOffset = off) ∧
      (src = 2 → s.u.rd Reg.TIM_CTRL.STEP_LIMIT = 0 → off.natAbs < 100 → 7 ≤ s.u.tim.good → s.u.rd Reg.TIM_STATUS.LOCK = 0 →
        Sets (.gptpSyncRx port t off) s [(Reg.TIM_GPTP_STATUS.SYNCED, 1), (Reg.TIM_STATUS.ACTIVE, 2), (Reg.TIM_STATUS.SEC_VALID, 1),
          (Reg.TIM_STATUS.LOCK, 1)] [Reg.TIM_GPTP_STATUS.OFFSET, Reg.TIM_RATE.RATE] fun v =>
          -500000000 ≤ v.u.rate ∧ v.u.rate ≤ 500000000)) ∧
    (∀ delay, Sets (.gptpPdelay port delay) s [] [] fun v => SMap.get 0 v.u.tim.pdelay port = delay) ∧
    (∀ a : Announce, s.u.rd Reg.TIM_GPTP_CFG.ROLE = 2 → s.u.rd Reg.TIM_STATUS.GM = 0 → Sets (.gptpAnnounce port a) s
      [(Reg.TIM_GPTP_STATUS.SLAVE_PORT, 15), (Reg.TIM_STATUS.GM, 1), (Reg.TIM_GPTP_STATUS.SYNCED, 0)] [] fun v => EmitsNow s v 0x2000 0x05 15) ∧
    (∀ a : Announce, s.u.rd Reg.TIM_GPTP_CFG.ROLE = 3 → s.u.rd Reg.TIM_GPTP_CFG.PORT = port → s.u.rd Reg.TIM_GPTP_STATUS.SLAVE_PORT ≠ port →
      Sets (.gptpAnnounce port a) s [(Reg.TIM_GPTP_STATUS.SLAVE_PORT, port), (Reg.TIM_STATUS.GM, 0), (Reg.TIM_GPTP_STATUS.SYNCED, 0),
        (Reg.TIM_GPTP_STATUS.GM_CLASS, a.cls % 256)] [Reg.TIM_UTC.OFFSET, Reg.TIM_UTC.VALID] fun v => EmitsNow s v 0x2000 0x05 port) ∧
    (s.u.rd Reg.TIM_GPTP_CFG.ROLE ≠ 0 → s.u.rd Reg.TIM_STATUS.GM = 1 →
      Sets (.gptpMessageTx port .sync) s [] [] (fun v => v.u.out = s.u.out ++ [.gptp port 0 s.u.ownClass p1 p2]) ∧
      Sets (.gptpMessageTx port .pdelay) s [] [] (fun v => v.u.out = s.u.out ++ [.gptp port 1 s.u.ownClass p1 p2]) ∧
      Sets (.gptpMessageTx port .announce) s [] [] fun v => v.u.out = s.u.out ++ [.gptp port 2 s.u.ownClass p1 p2])

/-! ## Acquisition (04_acquisition.md R92 to R119) -/

namespace Sys2Proof.Machine

/-- TRIG of a general analog group or a fast input. -/
def trigOf (i : Nat) : Fld := if i < 32 then Reg.AIN_GCFG.TRIG i else Reg.FIN_CFG.TRIG (i - 32)

/-- Stream i has made one more hold at tick t with a time stamp, and remembers it as the last (R101, R102). -/
def Held (s v : State) (i t time : Nat) (more : Hold → Prop) : Prop :=
  (∃ h, (v.u.strm i).holds = (s.u.strm i).holds ++ [h] ∧ h.tick = t ∧ h.time = time ∧ h.angle = s.u.stampAngle (s.u.rd (strmBase i)) t ∧ more h) ∧
    (v.u.strm i).lastHold = some t ∧ ∀ j, j ≠ i → v.u.strm j = s.u.strm j

/-- The elastic buffer of stream i has taken one item more. -/
def Enqueued (s v : State) (i : Nat) (more : StreamItem → Prop) : Prop :=
  ∃ it, (v.u.strm i).buf = (s.u.strm i).buf ++ [it] ∧ more it

end Sys2Proof.Machine

/-- R94, R95, R98, R99, R102, R117: enabling and disabling a stream; items pass from its elastic buffer into its runnel; AGE closes a packet;
lost edges and overruns are reported. -/
def Obligations.StreamCommands : Prop :=
  ∀ (s : State) (i : Nat), i < 54 →
    let x := s.u.strm i
    let q := s.u.rd (strmRunnel i)
    let r := x.run
    let n := (s.u.runnel r).words.length
    let freed : List (Fld × Nat) := [(strmEn i, 0), (strmActive i, 0), (Reg.RUN_OWNER.CLASS r, 0), (Reg.RUN_OWNER.INDEX r, 0)]
    (s.u.rd (strmEn i) = 0 → s.u.streamCode i = 0 → x.closing = false ∨ r = q → Sets (.streamEnable i) s
      [(strmCode i, 0), (strmEn i, 1), (strmActive i, 1), (Reg.RUN_OWNER.CLASS q, 1), (Reg.RUN_OWNER.INDEX q, i)] [] fun v =>
        (v.u.strm i).run = q ∧ (v.u.strm i).buf = x.buf) ∧
    (s.u.rd (strmEn i) = 0 → s.u.streamCode i ≠ 0 → Sets (.streamEnable i) s [(strmCode i, s.u.streamCode i)]) ∧
    (s.u.rd (strmEn i) = 1 → x.pre = [] → x.buf = [] → x.openPkt = false → Sets (.streamDisable i) s freed [] fun v =>
      (v.u.strm i).closing = false ∧ (v.u.strm i).holds = []) ∧
    (s.u.rd (strmEn i) = 1 → x.pre = [] → x.buf ≠ [] → Sets (.streamDisable i) s [(strmEn i, 0), (strmActive i, 0)] [] fun v =>
      (v.u.strm i).closing = true ∧ (v.u.strm i).run = r ∧ (v.u.strm i).buf = markLast x.buf ∧ (v.u.strm i).holds = []) ∧
    (s.u.rd (streamFld i Reg.AIN_GSTREAM.AGE Reg.FIN_STREAM.AGE Reg.DIN_GSTREAM.AGE) ≠ 0 → x.openPkt = true →
      s.u.rd (Reg.RUN_STATUS.OPEN r) = 1 → (splitOpen (s.u.runnel r).words).2.length ≤ 63 →
      Gives (.packetAgeExpire i) s [(Reg.RUN_STATUS.OPEN r, 0)] fun v => (v.u.strm i).openPkt = false ∧ (v.u.strm i).buf = x.buf) ∧
    (∀ it rest, x.buf = it :: rest → x.pre = [] → x.closing = false → s.u.needsPkt i it = false → it.last = false → n < 64 →
      n + it.words.length ≤ 64 → s.u.rd (Reg.RUN_STATUS.OPEN r) = 1 → s.u.rd (Reg.RUN_STATUS.FLUSH_PEND r) = 0 →
      (s.u.runnel r).openWords + it.words.length ≤ 4096 →
      Sets (.bufferToRunnel i) s [] [Reg.RUN_STATUS.FILL r, Reg.RUN_STATUS.STALLED r, Reg.RUN_STATUS.REQ_ERR r] fun v =>
        (v.u.strm i).buf = rest ∧ (v.u.strm i).pktWords = x.pktWords + it.words.length ∧
          (v.u.runnel r).words = (s.u.runnel r).words ++ it.words.map fun w => { data := w % 2 ^ 32, tag := 0 }) ∧
    (x.ovr ≠ 0 → Sets (.overrunReport i) s [] [] fun v =>
      (v.u.strm i).ovr = 0 ∧ EmitsNow s v (strmSrc i) 0x01 (i + satN 16 x.ovr * 2 ^ 16))

/-- R100 to R107, R111 to R114: what makes a conversion: GO writes, a digital input, the schedule, the time grid, a burst, the angle clock;
a request that finds the converter busy is counted as an overrun; results; the charge integrator. -/
def Obligations.Conversions : Prop :=
  ∀ (s : State) (i t : Nat), i < 48 → s.u.strmOn i = true →
    let x := s.u.strm i
    let trig := s.u.rd (trigOf i)
    let ovr (m : Nat) := s.u.counted (strmOvr i) (strmOvrOvf i) m
    let n := i - 32
    let per := if i < 32 then s.u.rd (Reg.AIN_GPERIOD.NS i) else s.u.rd (Reg.FIN_PERIOD.NS n)
    let ph := if i < 32 then s.u.rd (Reg.AIN_GPHASE.NS i) else s.u.rd (Reg.FIN_PHASE.NS n)
    let made (c : Instr) := Sets c s [] [] fun v => Held s v i t (s.u.timeAt t) fun _ => True
    (s.u.convFree i t = true → (i < 32 → trig = 0 → made (.ainGo i t)) ∧ (i < 32 → trig = 3 → made (.ainDinTrigger i t)) ∧
      (32 ≤ i → trig = 0 → made (.finGo n t)) ∧ (trig = 2 → x.fly = 1 → made (.conversionRequestArrive i t))) ∧
    (s.u.convFree i t = false → (i < 32 → trig = 0 → Sets (.ainGo i t) s (ovr 1)) ∧ (i < 32 → trig = 3 → Sets (.ainDinTrigger i t) s (ovr 1)) ∧
      (32 ≤ i → trig = 0 → Sets (.finGo n t) s (ovr 1)) ∧ (trig = 2 → x.fly = 1 → Sets (.conversionRequestArrive i t) s (ovr 1))) ∧
    (trig = 2 → 2 ≤ x.fly → s.u.convFree i t = true → Sets (.conversionRequestArrive i t) s (ovr (x.fly - 1)) [] fun v =>
      Held s v i t (s.u.timeAt t) fun _ => True) ∧
    (let g := gridAt (s.u.timeAt t) per ph
     trig = 1 → per ≠ 0 → g % per = ph → g ≠ x.lastGrid → s.u.convFree i t = true → Sets (.streamGridPoint i t) s [] [] fun v =>
      Held s v i t g (fun _ => True) ∧ (v.u.strm i).lastGrid = g) ∧
    (∀ m, 32 ≤ i → x.burstLeft = m + 1 → Sets (.finBurstNext n t) s [] [] fun v =>
      Held s v i t (x.lastTime + per) (fun (h : Hold) => h.last = (m == 0)) ∧ (v.u.strm i).burstLeft = m) ∧
    (∀ h hs c cs exc, 32 ≤ i → x.holds = h :: hs → h.flt = false → -131072 ≤ c → c ≤ 131071 → bufWords x.buf + 3 ≤ 256 →
      Sets (.conversionResult i (c :: cs) exc) s [(Reg.FIN_LAST.WORD n, ofInt 18 c)] [] fun v =>
        (v.u.strm i).holds = hs ∧ Enqueued s v i fun (it : StreamItem) => it.time = h.time ∧ it.angle = h.angle ∧ it.words.getLast? = some (ofInt 18 c)) ∧
    (∀ y w, 32 ≤ i → trig = 4 → let b := s.u.rd (strmBase i)
      let lo : Int := s.u.rd (Reg.FIN_AWIN_LO.ANGLE n)
      let step := s.u.rd (Reg.FIN_STEP.AC n)
      b < 4 → step ≠ 0 → s.u.absAngle b t = some y → x.win = some w → w.start = y - (y - lo) % s.u.cycleLen b → w.skipped = 0 →
      w.next = ((y - w.start) / (step : Int)).toNat → w.next < s.u.aclkLast n b → s.u.convFree i t = true →
      Sets (.aclkPoint n t) s [] [Reg.FIN_SKIP.COUNT n, Reg.FIN_SKIP.OVF n] fun v =>
        Held s v i t (s.u.timeAt t) (fun (h : Hold) => h.nominal = ((w.start + (w.next : Int) * step) % s.u.cycleLen b).toNat) ∧
          (v.u.strm i).win = some { w with next := w.next + 1, began := true }) ∧
    (32 ≤ i → s.u.rd (Reg.FIN_CFG.FE n) = 2 → Sets (.finCreset n) s [] [] fun v => (v.u.strm i).creset = true) ∧
    (32 ≤ i → Sets (.chargeResetDone n) s [] [] fun v => (v.u.strm i).creset = false)

/-! ## Excitation and trigger outputs, the harness guard (04_acquisition.md R120 to R125; 05_harness_guard.md R129 to R141) -/

namespace Sys2Proof.Machine

/-- The event of the harness guard about a contact (R141). -/
def guardPay (s : State) (cls n code : Nat) : Nat := cls * 2 ^ 28 + n * 2 ^ 20 + (s.u.retries cls n) % 256 * 2 ^ 12 + code

/-- A contact of class cls newly reports a code (R129, R140, R141). -/
def Reports (c : Instr) (s : State) (cls n code : Nat) (more : List (Fld × Nat)) (P : State → Prop) : Prop :=
  Sets c s ((faultNow cls n, code) :: more) [faultSeen cls n] fun v =>
    bit (v.u.rd (faultSeen cls n)) (code - 1) = true ∧ EmitsNow s v 0x4000 0x01 (guardPay s cls n code) ∧ P v

/-- Nothing is reported on the contact. -/
def Quiet (s : State) (cls n : Nat) : Prop := (s.u.contactOf cls n).rep = 0 ∧ s.u.rd (faultNow cls n) = 0

end Sys2Proof.Machine

/-- R120 to R122, R130, R131, R134 to R136, R139: excitation outputs: enable and its budget, disable, READY, measurement, shedding, a reported
condition, foldback, latch-off with its retries, and the return to remote sense. -/
def Obligations.ExcitationOutputs : Prop :=
  ∀ (s : State) (n : Nat), n < 8 →
    let en := Reg.EXC_CFG.EN n
    let lim := s.u.rd (Reg.EXC_CFG.LIMIT n)
    let now := s.u.rd (Reg.EXC_FAULT.NOW n)
    let tries := s.u.rd (Reg.EXC_FAULT.RETRIES n)
    let seen := Reg.EXC_FAULT.SEEN n
    let off : List (Fld × Nat) := [(en, 0), (Reg.EXC_STATUS.READY n, 0), (Reg.EXC_FAULT.LATCHED n, 0), (Reg.EXC_FAULT.NOW n, 0)]
    (s.u.rd en = 0 → 1 ≤ lim → lim ≤ 150 → s.u.excSum + s.u.excLoad n ≤ 6000 → Sets (.excEnable n) s
      [(en, 1), (Reg.EXC_FAULT.RETRIES n, 0), (Reg.EXC_FAULT.LATCHED n, 0), (Reg.EXC_BUDGET.MW, s.u.excSum + s.u.excLoad n)]
      [seen, Reg.EXC_FAULT.NOW n]) ∧
    (s.u.rd en = 0 → lim = 0 ∨ 150 < lim ∨ 6000 < s.u.excSum + s.u.excLoad n → Sets (.excEnable n) s [(Reg.EXC_STATUS.BUDGET_ERR n, 1)]) ∧
    (s.u.rd en = 1 → Sets (.excDisable n) s off [seen, Reg.EXC_BUDGET.MW]) ∧
    (s.u.rd en = 1 → s.u.pwr.frontOff = false → (s.u.excOut n).fold = false → Sets (.excReady n) s
      [(Reg.EXC_STATUS.READY n, 1), (Reg.EXC_FAULT.LATCHED n, 0)]) ∧
    (∀ mv cur mw, Sets (.excMeasure mv cur mw) s ((Reg.EXC_POWER.MW, satN 16 mw) :: ((List.range 8).map fun k => (Reg.EXC_MEAS.MV k, satN 16 (mv.getD k 0)))
      ++ ((List.range 8).map fun k => (Reg.EXC_MEAS.CURRENT k, satN 16 (cur.getD k 0)))) ((List.range 8).map Reg.EXC_STATUS.OVER) fun v =>
        v.u.excHot = (if 6500 < mw then s.u.excHot + 1 else 0) ∧
          (s.u.rd en = 1 → 10 * lim < cur.getD n 0 → (s.u.excOut n).isOver = false → v.u.rd (Reg.EXC_STATUS.OVER n) = 1)) ∧
    (20 ≤ s.u.excHot → s.u.rd en = 1 → (∀ m, n < m → m < 8 → s.u.is (Reg.EXC_CFG.EN m) = false) → Sets .excShed s
      ((Reg.EXC_STATUS.SHED n, 1) :: off) [seen, Reg.EXC_BUDGET.MW] fun v => EmitsNow s v 0x3003 0x05 n ∧ v.u.excHot = 0) ∧
    (∀ code, code = 2 ∨ code = 3 → s.u.rd en = 1 → Quiet s 3 n → Reports (.outputFaultDetect false n code) s 3 n code [] fun _ => True) ∧
    (s.u.rd en = 1 → Quiet s 3 n → (s.u.excOut n).isOver = false → Reports (.excFoldback n) s 3 n 6 [(Reg.EXC_STATUS.OVER n, 1)] fun v =>
      (v.u.excOut n).fold = true) ∧
    ((s.u.contactOf 3 n).rep = 2 ^ 6 → now = 6 → Sets (.excFoldbackEnd n) s [(Reg.EXC_FAULT.NOW n, 0)] [seen] fun v =>
      (v.u.excOut n).fold = false ∧ EmitsNow s v 0x4000 0x02 (guardPay s 3 n 6)) ∧
    (s.u.rd en = 1 → (s.u.excOut n).fold = true → tries < s.u.rd (Reg.EXC_FAULT.RETRY_MAX n) → Sets (.excLatchOff n) s
      [(Reg.EXC_STATUS.READY n, 0), (Reg.EXC_FAULT.LATCHED n, 1)] [] fun v => EmitsNow s v 0x4000 0x03 (guardPay s 3 n now)) ∧
    (s.u.rd en = 1 → (s.u.excOut n).fold = true → s.u.rd (Reg.EXC_FAULT.RETRY_MAX n) ≤ tries → Sets (.excLatchOff n) s
      [(Reg.EXC_STATUS.READY n, 0), (Reg.EXC_FAULT.LATCHED n, 1), (en, 0)] [Reg.EXC_BUDGET.MW] fun v =>
        Emits s v 0x4000 [s.u.eventAt s.u.clock 0x4000 0x03 (guardPay s 3 n now), s.u.eventAt s.u.clock 0x4000 0x05 (guardPay s 3 n now)]) ∧
    (s.u.rd en = 1 → s.u.rd (Reg.EXC_FAULT.LATCHED n) = 1 → Sets (.excRetry n) s [(Reg.EXC_FAULT.RETRIES n, satN 8 (tries + 1))]
      [seen, Reg.EXC_FAULT.NOW n]) ∧
    (bit (s.u.contactOf 3 n).rep 7 = false → Sets (.excSenseRestore n) s [] [] fun v => (v.u.excOut n).local_ = false)

/-- R123 to R125, R130, R137 to R139: trigger outputs: enable, disable, software actions and their queues, the scheduled return, a deferred
change, a reported condition, latch-off with its retries. -/
def Obligations.TriggerOutputs : Prop :=
  ∀ (s : State) (n t : Nat), n < 16 →
    let en := Reg.TRG_CFG.EN n
    let level := s.u.rd (Reg.TRG_STATUS.LEVEL n)
    let x := s.u.trgOut n
    let q := SMap.get [] s.u.trgQ 4
    let now := s.u.rd (Reg.TRG_FAULT.NOW n)
    let tries := s.u.rd (Reg.TRG_FAULT.RETRIES n)
    let drives := s.u.trgDriving n = true
    let event (v : State) (kind : Nat) := Emits s v 0x4000 [s.u.eventAt (max s.u.clock t) 0x4000 kind (guardPay s 4 n now)]
    (s.u.rd en = 0 → Sets (.trgEnable n) s [(en, 1), (Reg.TRG_FAULT.RETRIES n, 0), (Reg.TRG_FAULT.LATCHED n, 0)]
      [Reg.TRG_FAULT.SEEN n, Reg.TRG_FAULT.NOW n]) ∧
    (s.u.rd en = 1 → Sets (.trgDisable n) s [(en, 0), (Reg.TRG_FAULT.LATCHED n, 0), (Reg.TRG_FAULT.NOW n, 0)] [Reg.TRG_FAULT.SEEN n]) ∧
    Sets (.trgSetHigh n) s [] [] (fun v => SMap.get [] v.u.trgQ 4 = q ++ [(n, 0)]) ∧
    Sets (.trgSetLow n) s [] [] (fun v => SMap.get [] v.u.trgQ 4 = q ++ [(n, 1)]) ∧
    Sets (.trgSetToggle n) s [] [] (fun v => SMap.get [] v.u.trgQ 4 = q ++ [(n, 2)]) ∧
    (∀ k act rest, k < 5 → act < 3 → SMap.get [] s.u.trgQ k = (n, act) :: rest → drives → level ≤ 1 → x.deferred = none →
      x.lastChange = none → Sets (.trgActionApply k t) s
        [(Reg.TRG_STATUS.LEVEL n, if act = 0 then 1 else if act = 1 then 0 else 1 - level)] [] fun v => SMap.get [] v.u.trgQ k = rest) ∧
    (x.ret = true → x.retAt ≤ max s.u.clock t → drives → level = 1 → x.deferred = none → x.lastChange = none → Sets (.trgWidthReturn n t) s
      [(Reg.TRG_STATUS.LEVEL n, 0)] [] fun v => (v.u.trgOut n).ret = false) ∧
    (∀ v, x.deferred = some v → drives → level = b2n (!v) → Sets (.trgDeferredChange n t) s [(Reg.TRG_STATUS.LEVEL n, b2n v)] [] fun w =>
      (w.u.trgOut n).deferred = none ∧ (w.u.trgOut n).lastChange = some t) ∧
    (∀ code, code = 3 ∨ code = 6 ∨ (code = 2 ∧ s.u.rd (Reg.TRG_CFG.DRIVE n) = 0) → drives → Quiet s 4 n →
      Reports (.outputFaultDetect true n code) s 4 n code [] fun _ => True) ∧
    (drives → now ∈ [2, 3, 6] → level ≤ 1 → x.deferred = none → tries < s.u.rd (Reg.TRG_FAULT.RETRY_MAX n) → Sets (.trgLatchOff n t) s
      [(Reg.TRG_FAULT.LATCHED n, 1)] [] fun v => event v 0x03) ∧
    (drives → now ∈ [2, 3, 6] → level ≤ 1 → x.deferred = none → s.u.rd (Reg.TRG_FAULT.RETRY_MAX n) ≤ tries → Sets (.trgLatchOff n t) s
      [(Reg.TRG_FAULT.LATCHED n, 1), (en, 0)]) ∧
    (s.u.rd en = 1 → s.u.rd (Reg.TRG_FAULT.LATCHED n) = 1 → Sets (.trgRetry n t) s
      [(Reg.TRG_FAULT.LATCHED n, 0), (Reg.TRG_FAULT.RETRIES n, satN 8 (tries + 1)), (Reg.TRG_FAULT.NOW n, 0)] [Reg.TRG_FAULT.SEEN n])

/-- R130 to R132, R140, R413, R416: the second scan that finds a code on an enabled digital input reports it; the open-wire test keeps what it
finds for the scan; the fault of a CAN line is reported as it changes.
R115 to R119: an accepted level change of a digital input and its count, the measurement timeout, the drop record of a group, and a
snapshot. -/
def Obligations.DigitalInputsAndDiagnosis : Prop :=
  (∀ (s : State) (n : Nat),
     (n < 48 → s.u.rd (Reg.DIN_CFG.EN n) = 1 → s.u.rd (Reg.DIN_CFG.COND n) ≠ 1 →
       s.u.contactOf 2 n = { hits := [0, 0, 0, 0, 0, 1, 0, 0] } → Gives (.diagScan [⟨2, n, 2 ^ 5⟩]) s
         [(Reg.DIN_FAULT.NOW n, 5)] fun v => bit (v.u.rd (Reg.DIN_FAULT.SEEN n)) 4 = true) ∧
     (∀ pos neg, n < 96 → s.u.rd (Reg.AIN_CH.EN n) = 1 → s.u.rd (Reg.AIN_FAULT.DIAG n) = 1 → Sets (.openWireTest 0 n pos neg) s [] [] fun v =>
       ((v.u.contactOf 0 n).openWire = true ↔ 800 < pos ∨ 800 < neg) ∧ (v.u.contactOf 0 n).rep = (s.u.contactOf 0 n).rep) ∧
     (∀ code, n < 12 → code < 4 → s.u.rd (Reg.CAN_STATUS.FAULT n) ≠ code → Sets (.canLineFault n code) s [(Reg.CAN_STATUS.FAULT n, code)] [] fun v =>
       EmitsNow s v (0x9010 + n) 0x07 code)) ∧
  (∀ (s : State) (n g t : Nat), n < 48 → g < 6 →
     let levels : List Fld := [Reg.DIN_LEVEL0.LEVEL, Reg.DIN_LEVEL1.LEVEL]
     let taken (level : Bool) (v : State) : Prop := ∀ j, j < 48 → v.u.dinLevel j = if j = n then level else s.u.dinLevel j
     let x := s.u.strm (48 + g)
     (∀ level, s.u.pwr.frontOff = false → s.u.dinLevel n = !level → s.u.rd (Reg.DIN_CFG.COND n) ≠ 1 →
       (s.u.rd (Reg.DIN_CFG.EN n) = 0 → Sets (.dinEdge n t level) s [] levels (taken level)) ∧
       (s.u.rd (Reg.DIN_CFG.EN n) = 1 → s.u.rd (Reg.DIN_CFG.LOG n) = 0 → s.u.rd (Reg.DIN_CFG.MEAS n) = 4 →
         level = (!s.u.is (Reg.DIN_CFG.MEDGE n)) →
         Sets (.dinEdge n t level) s [(Reg.DIN_COUNT.COUNT n, (s.u.rd (Reg.DIN_COUNT.COUNT n) + 1) % 2 ^ 32),
           (Reg.DIN_MEAS.VALUE n, (s.u.rd (Reg.DIN_COUNT.COUNT n) + 1) % 2 ^ 32)] levels (taken level))) ∧
     (s.u.rd (Reg.DIN_CFG.EN n) = 1 → s.u.rd (Reg.DIN_CFG.MEAS n) ∈ [1, 2, 3] → Sets (.dinMeasTimeout n) s [(Reg.DIN_MEAS.VALUE n, 0xFFFFFFFF)]) ∧
     (x.lostEdges ≠ 0 → x.pre.length < 256 → x.dropped = 0 → Sets (.dinDropRecord g) s [] [] fun v =>
       (v.u.strm (48 + g)).lostEdges = 0 ∧ EmitsNow s v 0x3002 0x02 (48 + g + satN 16 x.lostEdges * 2 ^ 16)) ∧
     (s.u.strmOn (48 + g) = true → x.pre = [] → x.buf = [] → x.openPkt = false → Sets (.dinSnapGo g t) s [] [] fun v =>
       Enqueued s v (48 + g) fun (it : StreamItem) => it.kind = 7 ∧ it.last = true ∧ it.time = s.u.timeAt t ∧
         it.words = (List.range 8).foldl (fun a b => a + b2n (s.u.dinLevel (8 * g + b)) * 2 ^ b) 0 ::
           (List.range 8).map fun b => s.u.rd (Reg.DIN_MEAS.VALUE (8 * g + b))))

/-! ## Runnels (06_runnels.md R142 to R161) -/

/-- R144 to R154, R156, R157: a producer claims and releases a runnel; packets are opened, filled and closed, with what the close check finds;
a late push is lost; reads; the tail request; flush. An operation of anyone but the producer is discarded. -/
def Obligations.Runnels : Prop :=
  ∀ (s : State) (r who : Nat), r < 64 → who < 65 →
    let x := s.u.runnel r
    let n := x.words.length
    let cls := s.u.rd (Reg.RUN_OWNER.CLASS r)
    let mine := cls = 2 ∧ s.u.rd (Reg.RUN_OWNER.INDEX r) = who
    let isOpen := s.u.rd (Reg.RUN_STATUS.OPEN r)
    let pend := s.u.rd (Reg.RUN_STATUS.FLUSH_PEND r)
    let ch := s.u.rd (Reg.RUN_CFG.REQ_CH r)
    let side : List Fld := [Reg.RUN_STATUS.FILL r, Reg.RUN_STATUS.STALLED r, Reg.RUN_STATUS.REQ_ERR r]
    let notMine (c : Instr) := Sets c s [(Reg.RUN_STATUS.NOT_OWNER r, 1)]
    let counts (c o : Nat → Fld) (m : Nat) := s.u.counted (c r) (o r) m
    let ev (v : State) (kind pay : Nat) := EmitsNow s v (0x5000 + r) kind (r + pay)
    (cls = 0 → Sets (.runClaim r who) s [(Reg.RUN_OWNER.CLASS r, 2), (Reg.RUN_OWNER.INDEX r, who)]) ∧
    (cls ≠ 0 → notMine (.runClaim r who)) ∧
    (mine → isOpen = 0 → Sets (.runRelease r who) s [(Reg.RUN_OWNER.CLASS r, 0), (Reg.RUN_OWNER.INDEX r, 0)]) ∧
    (¬ mine → Sets (.runRelease r who) s [] ∧ notMine (.runOpen r who) ∧ (∀ ce ue, notMine (.runClose r who ce ue)) ∧
      (∀ w, notMine (.runPush r who w false) ∧ (cls ≠ 2 → notMine (.runPush r who w true)))) ∧
    (mine → isOpen = 0 → pend = 0 → n ≤ 63 → Sets (.runOpen r who) s [(Reg.RUN_STATUS.OPEN r, 1), (Reg.RUN_STATUS.FILL r, n + 1)] side fun v =>
      (v.u.runnel r).words = x.words ++ [{ data := 0, tag := 1, filled := false }] ∧ (v.u.runnel r).first = true) ∧
    (∀ w window, mine ∨ (window = true ∧ cls = 2) → isOpen = 1 → pend = 0 → n ≤ 63 → x.openWords < 4096 →
      Sets (.runPush r who w window) s [(Reg.RUN_STATUS.FILL r, n + 1)] side fun v =>
        (v.u.runnel r).words = x.words ++ [{ data := w % 2 ^ 32, tag := 0 }]) ∧
    (cls = 2 → (∃ w ∈ x.words.drop 64, w.tag = 0) → Sets (.runPushTimeout r) s [(Reg.RUN_STATUS.PUSH_LOST r, 1)] side fun v =>
      (v.u.runnel r).words.length + 1 = n ∧ (v.u.runnel r).words.take 64 = x.words.take 64 ∧ (v.u.runnel r).damage = true ∧ ev v 0x04 0) ∧
    (∀ pre slot seg, mine → isOpen = 1 → pend = 0 → x.words = pre ++ slot :: seg → (∀ w ∈ pre, w.unfilled = false) → slot.unfilled = true →
      seg.length ≤ 63 →
      (Sets (.runClose r who [] []) s [(Reg.RUN_STATUS.OPEN r, 0)]
        (side ++ [Reg.RUN_CE.COUNT r, Reg.RUN_CE.OVF r, Reg.RUN_UE.COUNT r, Reg.RUN_UE.OVF r]) fun v =>
          (v.u.runnel r).words = pre ++ { data := lengthWord seg.length (x.total + seg.length) false x.first (x.cont && x.first) false x.damage, tag := 1 }
            :: retagLast seg) ∧
      (∀ i, i < seg.length → Sets (.runClose r who [] [i]) s
        ((Reg.RUN_STATUS.OPEN r, 0) :: counts Reg.RUN_UE.COUNT Reg.RUN_UE.OVF 1) (side ++ [Reg.RUN_CE.COUNT r, Reg.RUN_CE.OVF r]) fun v =>
          ((v.u.runnel r).words[pre.length]?.map RunWord.data) =
            some (lengthWord seg.length (x.total + seg.length) false x.first (x.cont && x.first) false true) ∧
          ((v.u.runnel r).words[pre.length + 1 + i]?.map RunWord.tag) = some 3 ∧ ev v 0x01 (2 ^ 16))) ∧
    (∀ w ws, s.u.rd (Reg.RUN_CFG.REQ_EN r) = 0 → pend = 0 → x.words = w :: ws → w.unfilled = false → n ≤ 64 →
      (Sets (.runPop r .soft .clean) s [(Reg.RUN_RDSTAT.TAG r, w.tag % 4), (Reg.RUN_RDSTAT.PAD r, 0)] side fun v =>
        v.u.rdata = w.data ∧ (v.u.runnel r).words = ws) ∧
      (Sets (.runPop r .soft .single) s ([(Reg.RUN_RDSTAT.TAG r, w.tag % 4), (Reg.RUN_RDSTAT.PAD r, 0)] ++ counts Reg.RUN_CE.COUNT Reg.RUN_CE.OVF 1)
        side fun v => v.u.rdata = w.data ∧ (v.u.runnel r).words = ws) ∧
      (w.tag ≠ 1 → Sets (.runPop r .soft .double) s ([(Reg.RUN_RDSTAT.TAG r, 3), (Reg.RUN_RDSTAT.PAD r, 0), (Reg.RUN_STATUS.LATE_POISON r, 1)]
        ++ counts Reg.RUN_UE.COUNT Reg.RUN_UE.OVF 1) side fun v => v.u.rdata = w.data ∧ (v.u.runnel r).words = ws ∧ ev v 0x01 (2 ^ 8 + 2 ^ 16))) ∧
    (∀ err, x.words = [] → Sets (.runPop r .soft err) s [(Reg.RUN_RDSTAT.TAG r, 1), (Reg.RUN_RDSTAT.PAD r, 1)] [] fun v =>
      v.u.rdata = 0x40000000) ∧
    (∀ err b rest, s.u.rd (Reg.RUN_CFG.REQ_EN r) = 1 → pend = 0 → x.prom = (0, b + 2) :: rest → Sets (.runPop r (.channel ch) err) s
      [(Reg.RUN_RDSTAT.TAG r, 1), (Reg.RUN_RDSTAT.PAD r, 1)] [] fun v => v.u.rdata = 0x40000000 ∧ (v.u.runnel r).prom = (0, b + 1) :: rest) ∧
    (∀ err, Sets (.runPop r (.badAccess false) err) s [(Reg.RUN_STATUS.BADACC r, 1), (Reg.RUN_RDSTAT.TAG r, 1), (Reg.RUN_RDSTAT.PAD r, 1)]) ∧
    (let m := x.readable - x.promised
     s.u.rd (Reg.RUN_CFG.REQ_EN r) = 1 → s.u.rd (Reg.RUN_CFG.TAIL r) ≠ 0 → pend = 0 → 0 < m → m < s.u.runBurst r → x.tailEnds = true →
      (s.u.basinPresent (ch / 8) = true → Sets (.runTailRequest r) s [] [] fun v =>
        (v.u.runnel r).prom = x.prom ++ [(m, s.u.runBurst r)] ∧ (v.u.runnel r).words = x.words ∧
          SMap.get 0 v.u.reqFly ch = SMap.get 0 s.u.reqFly ch + 1) ∧
      (s.u.basinPresent (ch / 8) = false → Sets (.runTailRequest r) s [(Reg.RUN_STATUS.REQ_ERR r, 1)])) ∧
    (pend = 0 → isOpen = 0 → x.burstOn = false → Sets (.runFlush r) s ([(Reg.RUN_STATUS.FILL r, 0), (Reg.RUN_STATUS.STALLED r, 1)]
      ++ counts Reg.RUN_DISCARD.COUNT Reg.RUN_DISCARD.OVF n) [] fun v => (v.u.runnel r).words = [] ∧ ev v 0x03 (satN 16 n * 2 ^ 16)) ∧
    (pend = 0 → isOpen = 1 → x.burstOn = false → Sets (.runFlush r) s [(Reg.RUN_STATUS.FLUSH_PEND r, 1)] side fun v => Silent s v) ∧
    (pend = 1 → Sets (.runFlush r) s [])

/-! ## Sluices (08_sluices.md R190 to R207) -/

namespace Sys2Proof.Machine

/-- A channel has nothing outstanding and an empty funnel. -/
def Sluice.still (x : Sluice) : Prop := x.reads = [] ∧ x.writes = [] ∧ x.backs = [] ∧ x.buf = []

/-- n bytes at a lie in DRAM, and their controller's clock domain runs (15_fabric_and_crossings.md R371, R377). -/
def DramReady (s : State) (a n : Nat) : Prop := a < 0x1000000000 ∧ a + n ≤ 0x1000000000 ∧ s.u.rd (Reg.XNG_DOMd.STATE (8 + bits a 9 8)) = 0

end Sys2Proof.Machine

/-- R192 to R195, R201, R202: the commands of a channel in each state that accepts them, CMD_ERR in the others, and its requests. -/
def Obligations.SluiceCommands : Prop :=
  ∀ (s : State) (c : Nat), c < 64 → s.u.slPresent c = true →
    let st := Reg.SLC_STATUS.STATE c
    let now := s.u.rd st
    let x := s.u.slOf c
    let cnt := s.u.slCnt c
    let side : List Fld := [Reg.SLC_STATUS.WAITING c]
    let rejected (i : Instr) := Sets i s [(Reg.SLC_STATUS.CMD_ERR c, 1)]
    let ev (v : State) (kind pay : Nat) := EmitsNow s v (0x6000 + c) kind (c + pay)
    let begun (v : State) : Prop := (v.u.slOf c).left = cnt ∧ (v.u.slOf c).wrAddr = s.u.slDst c ∧ (v.u.slOf c).still
    let pend := s.u.rd (Reg.SLC_REQS.PENDING c)
    (now ∈ [0, 4, 5] → s.u.slCode c = 0 → cnt ≠ 0 → Sets (.slcGo c) s [(st, 1), (Reg.SLC_STATUS.CFG_CODE c, 0), (Reg.SLC_STATUS.ERR c, 0),
      (Reg.SLC_STATUS.DIR c, 0)] side fun v => begun v ∧ (v.u.slOf c).shSrc = s.u.slSrc c ∧ (v.u.slOf c).shDst = s.u.slDst c ∧ (v.u.slOf c).shCnt = cnt) ∧
    (now ∈ [0, 4, 5] → s.u.rd (Reg.SLC_CFG.SMODE c) ≠ 0 → s.u.slSrc c % 4 ≠ 0 → Sets (.slcGo c) s [(Reg.SLC_STATUS.CFG_CODE c, 1)]) ∧
    (now ∉ [0, 4, 5] → rejected (.slcGo c)) ∧
    (now = 1 → x.still → cnt ≠ 0 → Sets (.slcPause c) s [(st, 3)] side fun v => ev v 0x03 0) ∧
    (now = 1 → x.reads ≠ [] → x.buf = [] → Sets (.slcPause c) s [(st, 2)] side fun v =>
      (v.u.slOf c).drain = 1 ∧ (v.u.slOf c).reads = x.reads ∧ (v.u.slOf c).writes = x.writes ∧ Silent s v) ∧
    (now ∉ [1, 2, 3] → rejected (.slcPause c)) ∧
    (cnt ≠ 0 → (now = 3 → Sets (.slcResume c) s [(st, 1)] side begun) ∧
      (now = 4 → Sets (.slcResume c) s [(st, 1), (Reg.SLC_STATUS.ERR c, 0), (Reg.SLC_STATUS.DIR c, 0)] side begun)) ∧
    (now ∉ [3, 4] → rejected (.slcResume c)) ∧
    (now = 1 → x.still → Sets (.slcAbort c) s [(st, 0)] side fun v => ev v 0x03 (2 ^ 8)) ∧
    (now ∈ [3, 4] → Sets (.slcAbort c) s [(st, 0)] [] fun v => ev v 0x03 (2 ^ 8)) ∧
    (now ∉ [1, 2, 3, 4] → rejected (.slcAbort c)) ∧
    Sets (.slcClrreq c) s [(Reg.SLC_REQS.PENDING c, 0)] side ∧
    (∀ n, SMap.get 0 s.u.reqFly c = n + 1 →
      (pend + n + 1 ≤ 255 → Sets (.slcRequest c) s [(Reg.SLC_REQS.PENDING c, pend + n + 1)] side fun v => SMap.get 0 v.u.reqFly c = 0 ∧ Silent s v) ∧
      (255 < pend + n + 1 → Sets (.slcRequest c) s [(Reg.SLC_REQS.PENDING c, 255), (Reg.SLC_STATUS.REQ_OVF c, 1)] side fun v =>
        SMap.get 0 v.u.reqFly c = 0 ∧ ev v 0x04 0)) ∧
    (∀ n, SMap.get 0 s.u.wdFly c = n + 1 → pend ≤ 255 → Sets (.slcRequestWithdraw c) s [(Reg.SLC_REQS.PENDING c, pend - 1)] side fun v =>
      SMap.get 0 v.u.wdFly c = n)

/-- R194, R197 to R200, R203, R204, R366: a burst of reads starts; a read's data enters the funnel and leaves it in order; a write is
performed and acknowledged; the last read-back completes the transfer; an error halts the channel. -/
def Obligations.SluiceTransfer : Prop :=
  ∀ (s : State) (c : Nat), c < 64 → s.u.slPresent c = true → s.u.rd (Reg.SLC_STATUS.STATE c) = 1 →
    let x := s.u.slOf c
    let cnt := s.u.slCnt c
    let src := s.u.slSrc c
    let side : List Fld := [Reg.SLC_STATUS.WAITING c]
    let srcRegs : List Fld := [Reg.SLC_SRC_LO.ADDR c, Reg.SLC_SRC_HI.ADDR c]
    (let b := 4 * 2 ^ s.u.rd (Reg.SLC_CFG.BURST c)
     let n := min x.left (b - src % b)
     s.u.rd (Reg.SLC_CFG.SMODE c) = 0 → s.u.rd (Reg.SLC_CFG.PACE c) = 0 → x.left ≠ 0 → x.asked + n ≤ 512 → src + n < 2 ^ 40 →
      (∀ r, r < 16 → s.u.rd (Reg.WEIR_RGN_CTRL.EN r) = 0) → Sets (.slcBurstStart c) s [] (side ++ srcRegs) fun v =>
        v.u.slSrc c = src + n ∧ (v.u.slOf c).left = x.left - n ∧ ∃ rs, (v.u.slOf c).reads = x.reads ++ rs ∧ (rs.map Prod.snd).sum = n ∧
          rs.head?.map Prod.fst = some src) ∧
    (∀ a n rs, x.timedOut = false → x.discard = false → x.reads = (a, n) :: rs → DramReady s a n → cnt ≠ 0 →
      Sets (.slcReadResponse c) s [] side fun v =>
        (v.u.slOf c).reads = rs ∧ (v.u.slOf c).writes.flatMap SlcWrite.bytes ++ (v.u.slOf c).buf =
          x.writes.flatMap SlcWrite.bytes ++ x.buf ++ leBytes n (s.load a n)) ∧
    (∀ w ws, x.timedOut = false → x.wfail = false → x.writes = w :: ws → x.buf = [] → DramReady s w.addr w.bytes.length →
      s.u.weirRefusing w.addr w.bytes.length = [] → s.u.rd (Reg.SLC_CFG.DMODE c) ≠ 2 → cnt < 2 ^ 32 → s.u.slDst c + w.bytes.length < 2 ^ 40 →
      Completes (.slcWriteAck c) s fun v =>
        (∀ i b, w.bytes[i]? = some b → v.byte (w.addr + i) = BitVec.ofNat 8 b) ∧
        (∀ a, a < w.addr ∨ w.addr + w.bytes.length ≤ a → v.byte a = s.byte a) ∧ v.pending = s.pending ∧
        v.u.slCnt c = cnt - w.bytes.length ∧ v.u.slDst c = s.u.slDst c + w.bytes.length ∧ (v.u.slOf c).writes = ws ∧
        RegsKept s.u v.u (side ++ [Reg.SLC_COUNT.BYTES c, Reg.SLC_DST_LO.ADDR c, Reg.SLC_DST_HI.ADDR c] ++ (List.range 65).map Reg.CORE_RES.VALID)) ∧
    (∀ a, x.timedOut = false → x.drain = 0 → x.backs = [a] → DramReady s a 0 → s.u.rd (Reg.SLC_CFG.RELOAD c) = 0 →
      s.u.rd (Reg.SLC_CFG.SLOT_EN c) = 0 → (∀ d, d < 64 → s.u.rd (Reg.SLC_CFG.CHAIN_EN d) = 0) → (∀ n, n < 8 → s.u.rd (Reg.RSV_RING_CFG.DB_EN n) = 0) →
      Sets (.slcReadbackReturn c) s ((Reg.SLC_STATUS.STATE c, 5) :: s.u.counted (Reg.SLC_XFERS.COUNT c) (Reg.SLC_XFERS.OVF c) 1) side fun v =>
        v.u.slOf c = { shSrc := x.shSrc, shDst := x.shDst, shCnt := x.shCnt } ∧ EmitsNow s v (0x6000 + c) 0x01 c) ∧
    (∀ a n, x.timedOut = false → x.discard = false → x.drain = 0 → x.abort = false → x.reads = [(a, n)] → x.writes = [] → x.backs = [] → x.buf = [] →
      Sets (.slcError c 0 .uncorr) s [(Reg.SLC_STATUS.STATE c, 4), (Reg.SLC_STATUS.ERR c, 5), (Reg.SLC_STATUS.DIR c, 0),
          (Reg.SLC_EADDR_LO.ADDR c, a % 2 ^ 32), (Reg.SLC_EADDR_HI.ADDR c, a / 2 ^ 32 % 2 ^ 8)]
        (side ++ srcRegs ++ [Reg.FAB_ELOG_INFO.VALID, Reg.FAB_ELOG_INFO.CODE, Reg.FAB_ELOG_INFO.WRITE, Reg.FAB_ELOG_INFO.REQ, Reg.FAB_ELOG_INFO.TGT,
          Reg.FAB_ELOG_ADDR_LO.ADDR, Reg.FAB_ELOG_ADDR_HI.ADDR]) fun v => EmitsNow s v (0x6000 + c) 0x02 (c + 5 * 2 ^ 8))

/-! ## The weir and the command rings (09_reservoir.md R211 to R233) -/

namespace Sys2Proof.Machine

/-- The registers HELD and ROOM are published in. -/
def heldRegs : List Fld := [Reg.WEIR_HELD_LO.BYTES, Reg.WEIR_HELD_HI.BYTES, Reg.WEIR_ROOM.KIB]

/-- The GAP record of a refusal interval (07_records.md R174). -/
def RefusalInterval.gap (i : RefusalInterval) : GapRecord :=
  { cause := 1, count := satN 32 i.kib, tStart := i.start, tEnd := i.last, lastGseq := i.gseq }

/-- Ring n fetches, has nothing started, and HEAD names a descriptor in DRAM outside every enabled region, with VALID 1, the other
reserved DFLAGS 0, and this OP (09_reservoir.md R219 to R222). -/
def AtHead (s : State) (n op : Nat) : Prop :=
  let h := s.u.ringHead n
  n < 8 ∧ s.u.rd (Reg.RSV_RING_STATUS.STATE n) = 2 ∧ s.u.ringDescs n = [] ∧ s.u.rd Reg.RSV_STATUS.STATE = 2 ∧
    1 ≤ s.u.rd (Reg.RSV_RING_STATUS.ALLOW n) ∧ s.u.rd (Reg.RSV_RING_STATUS.ALLOW n) ≤ 4096 ∧ h % 64 = 0 ∧ DramReady s h 64 ∧
    (∀ r, r < 16 → s.u.rgnTouches r h 64 = false) ∧ s.load h 1 = op ∧ (s.load (h + 1) 1 = 1 ∨ s.load (h + 1) 1 = 3)

/-- What starting the descriptor at HEAD writes. -/
def headRegs (n : Nat) : List Fld := [Reg.RSV_RING_HEAD_LO.ADDR n, Reg.RSV_RING_HEAD_HI.ADDR n, Reg.RSV_RING_STATUS.ALLOW n]

/-- HEAD has moved on and the allowance has fallen by one. -/
def Started (s v : State) (n next : Nat) : Prop :=
  v.u.ringHead n = next ∧ v.u.rd (Reg.RSV_RING_STATUS.ALLOW n) = s.u.rd (Reg.RSV_RING_STATUS.ALLOW n) - 1

/-- The descriptor at h is written back with a status (R224): STATUS, the completion time, VALID; other bytes outside `also` are as
before; DONE counts, and with EVT an event is emitted. -/
def WrittenBack (s v : State) (n h st : Nat) (also : Nat → Prop) : Prop :=
  v.load (h + 1) 1 = s.load (h + 1) 1 - 1 ∧ v.load (h + 2) 2 = st ∧ v.load (h + 0x30) 8 = s.u.now % 2 ^ 64 ∧
    (∀ a, a < h + 1 ∨ h + 4 ≤ a → a < h + 0x30 ∨ h + 0x38 ≤ a → ¬ also a → v.byte a = s.byte a) ∧ v.pending = s.pending ∧
    (∀ p ∈ s.u.counted (Reg.RSV_RING_DONE.COUNT n) (Reg.RSV_RING_DONE.OVF n) 1, v.u.rd p.1 = p.2)

/-- The descriptor at HEAD of ring n completes at once with a status; register fields outside `other` are as before. -/
def DoneAtOnce (c : Instr) (s : State) (n st : Nat) (other : List Fld) (P : State → Prop := fun _ => True) : Prop :=
  Completes c s fun v => WrittenBack s v n (s.u.ringHead n) st (fun _ => False) ∧ Started s v n (s.u.ringHead n + 64) ∧ v.u.ringDescs n = [] ∧
    (s.load (s.u.ringHead n + 1) 1 = 3 → EmitsNow s v 0x7000 0x01 (n + st * 16 + s.load (s.u.ringHead n + 4) 4 % 65536 * 65536)) ∧
    RegsKept s.u v.u (headRegs n ++ [Reg.RSV_RING_DONE.COUNT n, Reg.RSV_RING_DONE.OVF n] ++ (List.range 65).map Reg.CORE_RES.VALID ++ other) ∧ P v

end Sys2Proof.Machine

/-- R212, R214 to R217, R231 to R233: regions are enabled, disabled and rewound; reservations; grants to waiting bursts; refusal intervals;
GRACE; the depth law. -/
def Obligations.Weir : Prop :=
  ∀ (s : State) (r : Nat), r < 16 →
    let en := Reg.WEIR_RGN_CTRL.EN r
    let fill := s.u.rgnFill r
    let done := s.u.rgnDone r
    let base := s.u.rgnBase r
    let size := s.u.rgnSize r
    let w := s.u.weir
    let offs : List (Fld × Nat) := [(Reg.WEIR_RGN_FILL.OFFSET r, 0), (Reg.WEIR_RGN_POST.OFFSET r, 0), (Reg.WEIR_RGN_DONE.OFFSET r, 0)]
    let refused : List (Fld × Nat) := [(Reg.WEIR_RGN_CTRL.REW_REF r, 1)]
    let ed := s.u.edepth (s.u.rd Reg.WEIR_CFG.GRACE)
    let d0 := min ed (min s.u.census.part.depthMax (s.u.rd Reg.RSV_POOL.MIB - 1024))
    let depth (d l : Nat) := Sets .weirDepthUpdate s [(Reg.WEIR_DEPTH.DEPTH, d), (Reg.WEIR_DEPTH.EDEPTH, satN 16 ed), (Reg.WEIR_STATUS.LIMIT, l)]
      (heldRegs ++ [Reg.WEIR_STATUS.SHORT, Reg.WEIR_ENERGY.E]) fun v =>
        (v.u.weir.short = true ↔ ed * 1048576 < s.u.held) ∧ (ed * 1048576 < s.u.held → v.u.rd Reg.WEIR_STATUS.SHORT = 1)
    (s.u.rd en = 0 → size ≠ 0 → base + size ≤ 0x1000000000 →
      (∀ q, q < 16 → q ≠ r → s.u.rgnOn q = true → base + size ≤ s.u.rgnBase q ∨ s.u.rgnBase q + s.u.rgnSize q ≤ base) →
      Sets (.weirRgnEnable r) s (offs ++ [(en, 1), (Reg.WEIR_RGN_CTRL.CFG_ERR r, 0)]) heldRegs) ∧
    (s.u.rd en = 0 → size = 0 ∨ 0x1204000000 < base + size ∨ (∃ q, q < 16 ∧ q ≠ r ∧ s.u.rgnOn q = true ∧ s.u.rgnBase q < base + size ∧
      base < s.u.rgnBase q + s.u.rgnSize q) → Sets (.weirRgnEnable r) s [(Reg.WEIR_RGN_CTRL.CFG_ERR r, 1)]) ∧
    (s.u.rd en = 1 → fill = done → Sets (.weirRgnDisable r) s [(en, 0)] heldRegs) ∧
    (s.u.rd en = 1 → fill ≠ done → Sets (.weirRgnDisable r) s refused) ∧
    (fill = done → Sets (.weirRgnRewind r) s offs heldRegs) ∧
    (fill ≠ done → Sets (.weirRgnRewind r) s refused) ∧
    (∀ who n, who < 65 → 1 ≤ n →
      (n ≤ 0x01000000 → s.u.rd en = 1 → fill + n ≤ size → fill + n < 2 ^ 32 → w.waits = [] → w.closed = false → w.interval = none →
        (s.u.held + n ≤ s.u.depthBytes → Sets (.weirReserve who r n) s [(Reg.WEIR_RGN_FILL.OFFSET r, fill + n)] heldRegs fun v =>
          v.u.reserveRead who r = fill) ∧
        (s.u.depthBytes < s.u.held + n → Sets (.weirReserve who r n) s ((Reg.WEIR_STATUS.REFUSING, 1) ::
          s.u.counted Reg.WEIR_REFUSED.COUNT Reg.WEIR_REFUSED.OVF ((n + 1023) / 1024)) [] fun v =>
            v.u.reserveRead who r = 0xFFFFFFFF ∧ EmitsNow s v 0x7000 0x03 0)) ∧
      (0x01000000 < n ∨ s.u.rd en = 0 ∨ (size < fill + n ∧ w.waits = [] ∧ w.closed = false ∧ s.u.held + n ≤ s.u.depthBytes) → Sets (.weirReserve who r n) s [] [] fun v => v.u.reserveRead who r = 0xFFFFFFFF)) ∧
    (∀ g, w.waits = [g] → g.rgn = r → s.u.rd en = 1 → fill < g.end_ → g.end_ ≤ size → g.end_ < 2 ^ 32 → w.closed = false →
      s.u.held + (g.end_ - fill) ≤ s.u.depthBytes →
      (w.interval = none → Sets .weirGrantWaiting s [(Reg.WEIR_RGN_FILL.OFFSET r, g.end_)] heldRegs fun v => v.u.weir.waits = []) ∧
      (∀ i, w.interval = some i → Sets .weirGrantWaiting s [(Reg.WEIR_RGN_FILL.OFFSET r, g.end_), (Reg.WEIR_STATUS.REFUSING, 0)] heldRegs fun v =>
        v.u.weir.waits = [] ∧ v.u.weir.interval = none ∧ v.u.weir.gaps = w.gaps ++ [i.gap] ∧ EmitsNow s v 0x7000 0x04 (satN 32 i.kib))) ∧
    (∀ i, w.interval = some i →
      (w.waits.any GrantWait.failed = false → Sets .refusalIntervalTimeout s [(Reg.WEIR_STATUS.REFUSING, 0)] [] fun v =>
        v.u.weir.interval = none ∧ v.u.weir.gaps = w.gaps ++ [i.gap] ∧ EmitsNow s v 0x7000 0x04 (satN 32 i.kib)) ∧
      (w.waits.any GrantWait.failed = true → Sets .refusalIntervalTimeout s [(Reg.WEIR_STATUS.REFUSING, 1)] [] fun v =>
        v.u.weir.gaps = w.gaps ++ [i.gap] ∧ v.u.weir.interval = some { start := s.u.now, last := s.u.now, kib := 0, gseq := s.u.commitGseq })) ∧
    (∀ v, v < 256 → (s.u.edepth v * 1048576 < s.u.held → Sets (.weirGraceWrite v) s [(Reg.WEIR_STATUS.CFG_REF, 1)]) ∧
      (s.u.held ≤ s.u.edepth v * 1048576 → Sets (.weirGraceWrite v) s [(Reg.WEIR_CFG.GRACE, v)])) ∧
    (s.u.rd Reg.WEIR_STATUS.FROZEN = 1 → s.u.rd Reg.WEIR_DEPTH.DEPTH < 65536 → depth (s.u.rd Reg.WEIR_DEPTH.DEPTH) 4) ∧
    (s.u.rd Reg.WEIR_STATUS.FROZEN = 0 →
      (s.u.rd Reg.RSV_STATUS.STATE ≤ 1 → depth 0 5) ∧
      (2 ≤ s.u.rd Reg.RSV_STATUS.STATE → s.u.rd Reg.WEIR_STATUS.DIP = 1 → 1 ≤ s.u.rd Reg.WEIR_CFG.DIP_PCT → s.u.rd Reg.WEIR_CFG.DIP_PCT ≤ 15 →
        depth (d0 * s.u.rd Reg.WEIR_CFG.DIP_PCT / 16) 3) ∧
      (2 ≤ s.u.rd Reg.RSV_STATUS.STATE → s.u.rd Reg.WEIR_STATUS.DIP = 0 → (ed = d0 → depth d0 0) ∧
        (ed ≠ d0 → d0 = s.u.census.part.depthMax → depth d0 1) ∧ (ed ≠ d0 → d0 ≠ s.u.census.part.depthMax → depth d0 2)))

/-- R217, R219 to R227: the control of a command ring, and each operation of a descriptor: HEAD and the allowance move, a POST is admitted, its
completion and those of the others are written back. -/
def Obligations.CommandRings : Prop :=
  ∀ (s : State) (n : Nat), n < 8 →
    let st := Reg.RSV_RING_STATUS.STATE n
    let halt := Reg.RSV_RING_STATUS.HALT n
    let allow := Reg.RSV_RING_STATUS.ALLOW n
    let recheck := Reg.RSV_RING_STATUS.RECHECK n
    let now := s.u.rd st
    let h := s.u.ringHead n
    let halts (c : Instr) (code : Nat) := Sets c s [(st, 3), (halt, code)] [allow] fun v => EmitsNow s v 0x7000 0x02 (n + code * 16)
    let addr := s.load (h + 8) 8
    let len := s.load (h + 0x10) 4
    (s.u.weir.closed = false → (now = 0 → Sets (.ringDoorbell n) s []) ∧ (now = 1 → Sets (.ringDoorbell n) s [(st, 2), (allow, 4096)]) ∧
      (now = 2 → Sets (.ringDoorbell n) s [(allow, 4096), (recheck, 1)]) ∧ (now = 3 → Sets (.ringDoorbell n) s [(recheck, 1)])) ∧
    (now = 3 → Sets (.ringResume n) s [(st, 2), (halt, 0), (allow, 4096)]) ∧
    (now ≠ 3 → Sets (.ringResume n) s []) ∧
    (now = 1 ∨ now = 2 → halts (.ringAbort n) 7) ∧
    (s.u.ringFetches n = true → s.u.rd allow = 0 → ∀ b, halts (.ringFetchFault n b) 1) ∧
    (s.u.ringFetches n = true → 1 ≤ s.u.rd allow → s.u.rd allow ≤ 4096 → DramReady s h 64 →
      (s.load (h + 1) 1 = 1 → s.load h 1 = 0 ∨ 6 < s.load h 1 → halts (.ringFetchFault n false) 4) ∧
      (s.load (h + 1) 1 % 2 = 0 → s.u.rd recheck = 1 → Sets (.ringIdleFetch n) s [(recheck, 0)]) ∧
      (s.load (h + 1) 1 % 2 = 0 → s.u.rd recheck = 0 → Sets (.ringIdleFetch n) s [(st, 1)])) ∧
    (AtHead s n 4 → s.load (h + 0x28) 8 % 64 = 0 → s.load (h + 0x28) 8 < 2 ^ 40 → Sets (.descLink n) s [] (headRegs n) fun v =>
      Started s v n (s.load (h + 0x28) 8)) ∧
    (AtHead s n 5 → DoneAtOnce (.descNop n) s n 4 []) ∧
    (AtHead s n 6 → s.u.rsv.lastTok ≤ s.u.rsv.doneTok → DoneAtOnce (.descFence n) s n 4 []) ∧
    (AtHead s n 6 → s.u.rsv.doneTok < s.u.rsv.lastTok → Sets (.descFence n) s [] (headRegs n) fun v =>
      Started s v n (h + 64) ∧ ∃ d, v.u.ringDescs n = [d] ∧ d.op = 6 ∧ d.addr = h ∧ d.token = s.u.rsv.lastTok ∧ d.status = none) ∧
    (AtHead s n 2 → s.u.postRegion addr len = none → DoneAtOnce (.descRelease n) s n 0x0102 []) ∧
    (∀ r, AtHead s n 2 → s.u.postRegion addr len = some r → s.u.rsv.dones = [] → s.u.rsv.lastTok ≤ s.u.rsv.doneTok →
      s.u.rgnPost r + len < 2 ^ 32 → s.u.rgnDone r + len < 2 ^ 32 → DoneAtOnce (.descRelease n) s n 0x0002
        (heldRegs ++ [Reg.WEIR_RGN_POST.OFFSET r, Reg.WEIR_RGN_DONE.OFFSET r]) fun v =>
          v.u.rgnPost r = s.u.rgnPost r + len ∧ v.u.rgnDone r = s.u.rgnDone r + len) ∧
    (∀ b, AtHead s n 1 → s.u.admitting = false → s.u.postRegion addr len = none → DoneAtOnce (.descPost n b) s n 0x0102
      [Reg.RSV_REFUSED.COUNT, Reg.RSV_REFUSED.OVF] fun v => ∀ p ∈ s.u.counted Reg.RSV_REFUSED.COUNT Reg.RSV_REFUSED.OVF 1, v.u.rd p.1 = p.2) ∧
    (∀ r vol recs, AtHead s n 1 → s.u.admitting = false → s.u.postRegion addr len = some r → s.u.openVol = some vol →
      s.u.findVol vol.id = some vol → postedRecords (s.loadBytes addr len) = some recs → recs ≠ [] → len + 160 ≤ s.u.freeCapacity - 2 ^ 30 →
      vol.due = false → vol.begun = false → vol.lastFp = some (s.u.fpNow, s.u.genNow) → s.u.weir.gaps = [] → s.u.rsv.rejoin = false →
      s.u.rsv.dones = [] → s.u.rsv.doneTok ≤ s.u.rsv.lastTok → s.u.rgnPost r + len < 2 ^ 32 →
      Sets (.descPost n false) s [(Reg.RSV_ADMIT_LO.GSEQ, vol.next % 2 ^ 32), (Reg.RSV_ADMIT_HI.GSEQ, vol.next / 2 ^ 32 % 2 ^ 32),
          (Reg.WEIR_RGN_POST.OFFSET r, s.u.rgnPost r + len)] (headRegs n ++ heldRegs ++ [Reg.RSV_POOL.MIB]) fun v =>
        Started s v n (h + 64) ∧ (∃ d, v.u.ringDescs n = [d] ∧ d.op = 1 ∧ d.addr = h ∧ d.token = s.u.rsv.lastTok + 1 ∧ d.status = none) ∧
        ∃ a, v.u.rsv.adm = s.u.rsv.adm ++ [a] ∧ a.vol = vol.id ∧ a.token = s.u.rsv.lastTok + 1 ∧ a.group.gseq = vol.next ∧
          a.group.rcount = recs.length ∧ a.group.fprint = s.u.fpNow) ∧
    (∀ vol g, AtHead s n 3 → s.u.openVol = some vol → vol.groups[s.load (h + 0x18) 8]? = some g → s.load (h + 0x20) 4 + len ≤ g.bytes.length →
      Sets (.descRead n) s [] (headRegs n) fun v => Started s v n (h + 64) ∧ ∃ d, v.u.ringDescs n = [d] ∧ d.op = 3 ∧ d.addr = h ∧ d.status = none ∧
        d.dst = addr ∧ d.len = len ∧ d.gseq = s.load (h + 0x18) 8 ∧ d.off = s.load (h + 0x20) 4) ∧
    (AtHead s n 3 → s.u.openVol = none → DoneAtOnce (.descRead n) s n 0x0201 []) ∧
    (∀ d vol g ce, s.u.ringDescs n = [d] → d.op = 3 → d.status = none → s.u.rd Reg.RSV_STATUS.STATE = 2 → s.u.openVol = some vol →
      vol.groups[d.gseq]? = some g → DramReady s d.addr 64 → d.addr % 64 = 0 → (∀ r, r < 16 → s.u.rgnTouches r d.addr 64 = false) →
      (s.load (d.addr + 1) 1 = 1 ∨ s.load (d.addr + 1) 1 = 3) → d.dst + d.len ≤ d.addr ∨ d.addr + 64 ≤ d.dst → d.dst + d.len ≤ 0x1000000000 →
      (∀ q, q < 4 → s.u.rd (Reg.XNG_DOMd.STATE (8 + q)) = 0) → (∀ r, r < 16 → s.u.rgnTouches r d.dst d.len = false) →
      Completes (.descReadDone n ce []) s fun v =>
        WrittenBack s v n d.addr 0x0003 (fun a => d.dst ≤ a ∧ a < d.dst + d.len) ∧ v.u.ringDescs n = [] ∧
        (∀ i b, ((g.bytes.drop d.off).take d.len)[i]? = some b → v.byte (d.dst + i) = BitVec.ofNat 8 b) ∧
        ∀ p ∈ s.u.counted Reg.RSV_CE.COUNT Reg.RSV_CE.OVF ce, v.u.rd p.1 = p.2)

/-! ## The reservoir, its flash, dips and the holdup flush (07_records.md R180 to R187; 09_reservoir.md R208 to R237) -/

namespace Sys2Proof.Machine

/-- The registers in which the reservoir publishes its state and capacity. -/
def rsvRegs : List Fld :=
  [Reg.RSV_STATUS.STATE, Reg.RSV_FREE.GIB, Reg.RSV_RATE.CAP, Reg.RSV_STATUS.DEGRADED, Reg.RSV_STATUS.REBUILD, Reg.RSV_POOL.MIB]

/-- A register pair holds a group number. -/
def gseqIs (lo hi : Fld) (g : Nat) : List (Fld × Nat) := [(lo, g % 2 ^ 32), (hi, g / 2 ^ 32 % 2 ^ 32)]

end Sys2Proof.Machine

/-- R182, R184, R187, R209, R217, R224, R225, R228 to R230, R362: a signed group joins the admitted ones; stripes are padded and become durable, and
groups commit with their write-backs; erases and their allowance; failing blocks and dies; recovery at start-up. -/
def Obligations.Reservoir : Prop :=
  ∀ (s : State),
    let x := s.u.rsv
    let die (d : Nat) := d < 160 ∧ s.u.dieUsable d = true
    let health : List Fld := [Reg.RSV_HEALTH.DIES, Reg.RSV_HEALTH.RETIRED, Reg.RSV_HEALTH.SPARE, Reg.RSV_HEALTH.LIFE]
    (∀ a, x.signing = some a → x.queue = [] → s.u.rd Reg.RSV_STATUS.STATE = 2 → Sets .sealSignatureDone s [] [Reg.RSV_POOL.MIB] fun v =>
      v.u.rsv.signing = none ∧ EmitsNow s v 0xC010 0x01 a.sseq ∧ ∃ b, v.u.rsv.adm = x.adm ++ [b] ∧ b.group = a.group ∧ b.token = a.token) ∧
    (x.fill ≠ 0 → Sets .stripePadTimeout s [] rsvRegs fun v => v.u.rsv.stripe = x.stripe + 1 ∧ v.u.rsv.fill = 0 ∧ v.u.rsv.adm = x.adm) ∧
    (x.fill = 0 → Sets .stripePadTimeout s []) ∧
    (∀ a vol, x.durable < x.stripe → x.adm = [a] → a.stripe ≤ x.durable → s.u.findVol a.vol = some vol → s.u.rd Reg.TWN_PAIR.ROLE = 0 →
      x.dones = [] → s.u.pair.owed = [] →
      let committed (v : State) : Prop := v.u.rsv.adm = [] ∧ v.u.rsv.durable = x.durable + 1 ∧
        v.u.findVol a.vol = some { vol with groups := vol.groups ++ [a.group] } ∧ v.u.chain = { gseq := some a.group.gseq, hash := a.group.hash }
      ((∀ n, n < 8 → s.u.ringDescs n = []) → Sets .groupCommit s (gseqIs Reg.RSV_COMMIT_LO.GSEQ Reg.RSV_COMMIT_HI.GSEQ a.group.gseq)
        (rsvRegs ++ heldRegs) committed) ∧
      (∀ n d, n < 8 → s.u.ringDescs n = [d] → (∀ m, m < 8 → m ≠ n → s.u.ringDescs m = []) → d.op = 1 → d.token = a.token → d.status = none →
        a.group.gseq < 2 ^ 64 → DramReady s d.addr 64 → d.addr % 64 = 0 → (∀ r, r < 16 → s.u.rgnTouches r d.addr 64 = false) →
        (s.load (d.addr + 1) 1 = 1 ∨ s.load (d.addr + 1) 1 = 3) → Completes .groupCommit s fun v =>
          committed v ∧ WrittenBack s v n d.addr 0x0001 (fun b => d.addr + 0x18 ≤ b ∧ b < d.addr + 0x20) ∧
            v.load (d.addr + 0x18) 8 = a.group.gseq ∧ v.u.ringDescs n = [] ∧
            (d.evt = true → EmitsNow s v 0x7000 0x01 (n + 16 + d.tag % 65536 * 65536)))) ∧
    (∀ d b, die d → b < 3725 → s.u.rd Reg.RSV_STATUS.ERASE_DEFER = 0 → (d, b) ∉ x.erasing →
      x.poolKib + x.erasing.length * 65536 < s.u.census.part.depthMax * 2048 →
      (s.u.eraseAllow d ≠ 0 → Sets (.eraseStart d b) s [] [] fun v =>
        v.u.rsv.erasing = x.erasing ++ [(d, b)] ∧ v.u.eraseAllow d = s.u.eraseAllow d - 1) ∧
      (s.u.eraseAllow d = 0 → (d, b) ∉ x.waiting → Sets (.eraseStart d b) s (s.u.counted Reg.RSV_ERASE_CAPPED.COUNT Reg.RSV_ERASE_CAPPED.OVF 1) []
        fun v => v.u.rsv.waiting = x.waiting ++ [(d, b)] ∧ v.u.rsv.erasing = x.erasing)) ∧
    (∀ d b, d < 160 → b < 3725 → s.u.rd Reg.RSV_STATUS.ERASE_DEFER = 1 → Sets (.eraseStart d b) s []) ∧
    (∀ d b, d < 160 → b < 3725 → (d, b) ∈ x.erasing → Sets (.eraseDone d b) s [] (Reg.RSV_HEALTH.LIFE :: rsvRegs) fun v =>
      v.u.rsv.poolKib = x.poolKib + 65536 ∧ v.u.rsv.erasing = x.erasing.erase (d, b) ∧
        SMap.get 0 v.u.rsv.wear (d * 65536 + b) = SMap.get 0 x.wear (d * 65536 + b) + 1) ∧
    (∀ d, d < 160 → Sets (.eraseAllowanceRefill d) s [] [] fun v => v.u.eraseAllow d = min 16 (s.u.eraseAllow d + 1)) ∧
    (∀ d b, die d → b < 3725 → (SMap.get 0 x.bad d + 1) * 50 < s.u.census.part.dieBlocks →
      Sets (.flashOpFail d b true) s (s.u.counted Reg.RSV_EFAIL.COUNT Reg.RSV_EFAIL.OVF 1) [] (fun v =>
        SMap.get 0 v.u.rsv.bad d = SMap.get 0 x.bad d + 1 ∧ v.u.rsv.dead = x.dead) ∧
      Sets (.flashOpFail d b false) s (s.u.counted Reg.RSV_PFAIL.COUNT Reg.RSV_PFAIL.OVF 1) [] fun v =>
        SMap.get 0 v.u.rsv.bad d = SMap.get 0 x.bad d + 1 ∧ v.u.rsv.dead = x.dead) ∧
    (∀ d, die d → x.dead.length < 160 → Sets (.dieTimeout d) s [(Reg.RSV_HEALTH.RETIRED, x.dead.length + 1)]
      ([Reg.RSV_HEALTH.DIES, Reg.RSV_HEALTH.SPARE] ++ rsvRegs) fun v =>
        v.u.rsv.dead = x.dead ++ [d] ∧ v.u.rsv.rebuilding = x.rebuilding ++ [d] ∧ EmitsNow s v 0x7000 0x07 (d + (x.dead.length + 1) * 256)) ∧
    (∀ d, d < 160 → Sets (.rebuildDone d) s [] rsvRegs fun v => v.u.rsv.rebuilding = x.rebuilding.filter (· ≠ d)) ∧
    (∀ vol a, s.u.rd Reg.RSV_STATUS.STATE = 1 → x.vols = [vol] → vol.isOpen = true → x.adm = [a] → a.vol = vol.id → x.fill = 0 → x.gapCause = 0 →
      x.dead = [] →
      let up (v : State) : Prop := v.u.rd Reg.RSV_STATUS.STATE = 2 ∨ v.u.rd Reg.RSV_STATUS.STATE = 5
      let both (g : Nat) := gseqIs Reg.RSV_COMMIT_LO.GSEQ Reg.RSV_COMMIT_HI.GSEQ g ++ gseqIs Reg.RSV_ADMIT_LO.GSEQ Reg.RSV_ADMIT_HI.GSEQ g
      Sets (.reservoirRecoveryDone 1 0) s (both a.group.gseq) (rsvRegs ++ health) (fun v => up v ∧ v.u.rsv.adm = [] ∧
        v.u.weir.gaps = s.u.weir.gaps ∧ ∃ w, v.u.rsv.vols = [w] ∧ w.groups = vol.groups ++ [a.group] ∧ w.next = vol.groups.length + 1) ∧
      (∀ g, vol.groups.getLast? = some g → Sets (.reservoirRecoveryDone 0 1) s (both g.gseq) (rsvRegs ++ health) fun v => up v ∧ v.u.rsv.adm = [] ∧
        v.u.weir.gaps = { cause := 4, count := 1, tStart := g.tMax, tEnd := x.startAt, lastGseq := g.gseq } :: s.u.weir.gaps ∧
          ∃ w, v.u.rsv.vols = [w] ∧ w.groups = vol.groups ∧ w.next = vol.groups.length))

/-- R234 to R237, R483 to R485, R495: a dip begins and ends; supply loss begins the holdup flush, or in a power state leaves the module
unpowered; the grace window ends; the flush completes with its report. -/
def Obligations.DipsAndFlush : Prop :=
  ∀ (s : State) (t : Nat),
    let awake := s.u.pwr.down = 0
    (s.u.rd Reg.WEIR_STATUS.DIP = 0 → s.u.pwr.flush = 0 → awake → s.u.pwr.target = 0 → Sets .dipStart s
      [(Reg.WEIR_STATUS.DIP, 1), (Reg.RSV_STATUS.ERASE_DEFER, 1)] [] fun v => EmitsNow s v 0x7000 0x05 0) ∧
    (∀ low, s.u.rd Reg.WEIR_STATUS.DIP = 1 → s.u.pwr.flush = 0 → Sets (.dipEnd low) s ([(Reg.WEIR_STATUS.DIP, 0), (Reg.RSV_STATUS.ERASE_DEFER, 0)]
      ++ s.u.counted Reg.WEIR_DIPS.COUNT Reg.WEIR_DIPS.OVF 1) [] fun v => EmitsNow s v 0x7000 0x06 (b2n low)) ∧
    (s.u.pwr.flush = 0 → awake → s.u.pwr.target = 0 → Completes .supplyLossDeclare s fun v =>
      v.u.pwr.flush = (if s.u.pwr.drain = none then 1 else 2) ∧ v.u.pwr.drain = none ∧ v.u.pwr.acqOff = true ∧ v.u.pwr.frontOff = true ∧
        v.u.rd Reg.PWR_STATUS.STATE = 3 ∧ v.u.rd Reg.RSV_LFL_FLAGS.VALID = 1 ∧ v.u.rd Reg.RSV_LFL_FLAGS.DONE = 0 ∧ v.pending = s.pending) ∧
    (s.u.pwr.flush ≠ 0 → Sets .supplyLossDeclare s []) ∧
    (s.u.pwr.flush = 0 → s.u.pwr.down = 2 ∨ s.u.pwr.down = 3 → Sets .supplyLossDeclare s [(Reg.TIM_STATUS.RTC_VALID, 0)] [] fun v =>
      v.u.pwr.down = 5 ∧ v.u.pwr.lastOff = 3) ∧
    (s.u.pwr.flush = 1 → Gives .flushGraceEnd s [] fun v => v.u.pwr.flush = 2 ∧ v.u.weir.closed = true ∧ v.u.gate.coresOff = true) ∧
    (s.u.pwr.flush ≠ 1 → Sets .flushGraceEnd s []) ∧
    (s.u.pwr.flush = 2 → (∀ n, n < 8 → s.u.rd (Reg.RSV_RING_STATUS.STATE n) ≠ 2) → Completes (.flushComplete t false) s fun v =>
      v.u.pwr.down = 5 ∧ v.u.pwr.flush = 0 ∧ v.u.pwr.lastOff = 4 ∧ v.u.gate.coresOff = true ∧ v.u.stw.running = false ∧
        v.u.rd Reg.TIM_STATUS.RTC_VALID = 0 ∧ v.u.rd Reg.RSV_LFL_FLAGS.DONE = 1 ∧
        v.u.rd Reg.RSV_LFL_MS.V = (t - s.u.pwr.flushTick) / 400000 % 2 ^ 32 ∧ v.pending = s.pending)

/-! ## The fabric, its crossings and register writes (15_fabric_and_crossings.md R363 to R381; 00_scope.md R9 to R12) -/

namespace Sys2Proof.Machine

/-- The error log of the fabric (R381). -/
def fabLogRegs : List Fld := [Reg.FAB_ELOG_INFO.VALID, Reg.FAB_ELOG_INFO.CODE, Reg.FAB_ELOG_INFO.WRITE, Reg.FAB_ELOG_INFO.REQ,
  Reg.FAB_ELOG_INFO.TGT, Reg.FAB_ELOG_ADDR_LO.ADDR, Reg.FAB_ELOG_ADDR_HI.ADDR]

/-- Bytes of a list stand at address a, and no other byte has changed. -/
def Stored (s v : State) (a : Nat) (bs : List Nat) : Prop :=
  (∀ i b, bs[i]? = some b → v.byte (a + i) = BitVec.ofNat 8 b) ∧ (∀ x, x < a ∨ a + bs.length ≤ x → v.byte x = s.byte x) ∧ v.pending = s.pending

end Sys2Proof.Machine


/-- R368 to R381: timeouts and late responses; pulses and their counts across clock domains; domains that wake, stop and refuse; the test
port.
R9, R12, R20, R144, R368, R379, R381: a register write by a core that runs or by the steward: fields take what their access types let them,
counters clear, commands act, and an address without a unit or in a domain that is off is refused and counted. -/
def Obligations.FabricAndRegisters : Prop :=
  (∀ (s : State),
     let fabEv (t : State) (kind pay : Nat) := EmitsNow s t 0xA000 kind pay
     let outs := s.u.counted Reg.FAB_TIMEOUTS.COUNT Reg.FAB_TIMEOUTS.OVF 1
     (∀ c a n, c < 64 → s.u.rd (Reg.SLC_STATUS.STATE c) = 1 → (s.u.slOf c).reads = [(a, n)] → (s.u.slOf c).writes = [] → (s.u.slOf c).backs = [] →
       (s.u.slOf c).buf = [] → (s.u.slOf c).discard = false → (s.u.slOf c).drain = 0 → (s.u.slOf c).abort = false →
       Sets (.fabricTimeout 2 c) s ([(Reg.SLC_STATUS.STATE c, 4), (Reg.SLC_STATUS.ERR c, 4), (Reg.SLC_STATUS.DIR c, 0)] ++ outs)
         (fabLogRegs ++ [Reg.SLC_STATUS.WAITING c, Reg.SLC_SRC_LO.ADDR c, Reg.SLC_SRC_HI.ADDR c, Reg.SLC_EADDR_LO.ADDR c, Reg.SLC_EADDR_HI.ADDR c])
         fun t => fabEv t 0x01 (physPort (c / 8) a + c / 8 * 2 ^ 8) ∧ EmitsNow s t (0x6000 + c) 0x02 (c + 4 * 2 ^ 8) ∧
           t.u.late = s.u.late ++ [{ port := physPort (c / 8) a, addr := a, data := [] }]) ∧
     (∀ k a, k < 65 → s.u.coreLive k = true → (s.u.cpuOf k).acc = some (.ioRead a) → Completes (.fabricTimeout 0 k) s fun t =>
       (∀ p ∈ outs, t.u.rd p.1 = p.2) ∧ t.u.late.length = s.u.late.length + 1 ∧ (t.u.cpuOf k).acc = none) ∧
     (∀ i r, s.u.late[i]? = some r →
       (∀ done, done = false ∨ r.data = [] → Sets (.fabricLateResponse i done) s (s.u.counted Reg.FAB_LATE.COUNT Reg.FAB_LATE.OVF 1) [] fun t =>
         t.u.late = s.u.late.eraseIdx i ∧ fabEv t 0x03 r.port) ∧
       (r.data ≠ [] → DramReady s r.addr r.data.length → s.u.weirRefusing r.addr r.data.length = [] → Completes (.fabricLateResponse i true) s fun t =>
         Stored s t r.addr r.data ∧ t.u.late = s.u.late.eraseIdx i ∧ fabEv t 0x03 r.port)) ∧
     (∀ l, l / 256 < 4 → l % 256 < 112 →
       let x := s.u.pulseLine l
       let k := l % 256
       (x.flight ≠ 0 → x.taken = false → (k < 64 → Sets (.pulseDeliver l) s [] [] fun t =>
           (t.u.pulseLine l).taken = true ∧ SMap.get 0 t.u.reqFly k = SMap.get 0 s.u.reqFly k + x.flight) ∧
         (64 ≤ k → s.u.rd (Reg.XNG_DOMd.STATE (lineDomain l)) = 0 → Sets (.pulseDeliver l) s [] [] fun t =>
           (t.u.pulseLine l).taken = true ∧ (t.u.strm (k - 64)).fly = (s.u.strm (k - 64)).fly + x.flight)) ∧
       (x.flight ≠ 0 → x.taken = true → Sets (.pulseAck l) s [] [] fun t => t.u.pulseLine l = { flight := x.ctr, taken := false, ctr := 0 }) ∧
       (x.flight = 0 → Sets (.pulseDeliver l) s [] ∧ Sets (.pulseAck l) s [])) ∧
     (∀ d ns, 1 ≤ d → d ≤ 24 →
       let st := Reg.XNG_DOMd.STATE d
       let us := satN 16 (ns / 1000)
       (s.u.rd st = 1 → s.u.rd (Reg.XNG_DOMd.WAKEEN d) = 1 → Sets (.domainWakeRequest d) s ((st, 3) :: s.u.counted Reg.XNG_WAKES.COUNT Reg.XNG_WAKES.OVF 1)
         [] fun t => (t.u.domn d).woken = true) ∧
       (s.u.rd st ≠ 1 ∨ s.u.rd (Reg.XNG_DOMd.WAKEEN d) = 0 → Sets (.domainWakeRequest d) s []) ∧
       (s.u.rd st = 3 → ns ≤ wakeTime d → Sets (.domainWakeDone d ns) s [(st, 0), (Reg.XNG_DOMd.LAST_WAKE d, us)] [] fun t => Silent s t) ∧
       (s.u.rd st = 3 → wakeTime d < ns → Sets (.domainWakeDone d ns) s [(st, 0), (Reg.XNG_DOMd.LAST_WAKE d, us), (Reg.XNG_DOMd.WAKE_SLOW d, 1)] []
         fun t => EmitsNow s t 0xA001 0x02 (d + us * 2 ^ 16)) ∧
       (s.u.rd st = 0 → (s.u.domn d).woken = true → Sets (.domainAutoStop d) s [(st, 1)] [] fun t => (t.u.domn d).woken = false) ∧
       ((s.u.domn d).woken = false → Sets (.domainAutoStop d) s []) ∧
       ((s.u.domn d).refused ≠ 0 → Sets (.dormantReport d) s [] [] fun t =>
         (t.u.domn d).refused = 0 ∧ EmitsNow s t 0xA001 0x03 (d + satN 16 (s.u.domn d).refused * 2 ^ 16))) ∧
     (let en := Reg.FAB_DBG.EN
      let act := Reg.FAB_DBG.ACTIVE
      (s.u.rd en = 0 → Sets (.fabDbgWrite true) s [(en, 1), (act, 0)]) ∧
      (s.u.rd en = 1 → Sets (.fabDbgWrite false) s [(en, 0)] [] fun t => EmitsNow s t 0xA002 0x02 0) ∧
      (∀ a v, a % 4 = 0 → (a < 2 ^ 40 → s.u.rd en = 0 → ∀ w, Sets (.debugAccess w a v) s (s.u.counted Reg.FAB_NOUNIT.COUNT Reg.FAB_NOUNIT.OVF 1)
           fabLogRegs fun t => t.u.rdata = 0) ∧
         (DramReady s a 4 → s.u.rd en = 1 →
           Sets (.debugAccess false a v) s [(act, 1)] [] (fun t => t.u.rdata = s.load a 4 ∧ (s.u.rd act = 0 → EmitsNow s t 0xA002 0x01 0)) ∧
           (s.u.weirRefusing a 4 = [] → Completes (.debugAccess true a v) s fun t => Stored s t a (leBytes 4 v) ∧ t.u.rd act = 1 ∧
             RegsKept s.u t.u (act :: (List.range 65).map Reg.CORE_RES.VALID)))))) ∧
  (∀ (s : State) (who v : Nat), who = 64 ∨ (who < 64 ∧ s.u.coreLive who = true) → s.u.rd Reg.RST_BLOCK.BUSY = 0 →
     Sets (.registerWrite who 0x190010 0x80000000) s [(Reg.FAB_ELOG_INFO.VALID, 0)] ∧
     (bit v 31 = true → Sets (.registerWrite who 0x190030 v) s [(Reg.FAB_LATE.COUNT, 0), (Reg.FAB_LATE.OVF, 0)]) ∧
     (who < 64 → Sets (.registerWrite who 0x190000 v) s []) ∧
     (who = 64 → v % 2 = 1 → s.u.rd Reg.FAB_DBG.EN = 0 → Sets (.registerWrite who 0x190000 v) s [(Reg.FAB_DBG.EN, 1), (Reg.FAB_DBG.ACTIVE, 0)]) ∧
     (∀ r, r < 64 → s.u.rd (Reg.RUN_OWNER.CLASS r) = 0 → Sets (.registerWrite who (0x130000 + 0x400 * r + 0x18) 1) s
       [(Reg.RUN_OWNER.CLASS r, 2), (Reg.RUN_OWNER.INDEX r, who)]) ∧
     (∀ a, 0x1000 ≤ a → a < 0x10000 → a % 4 = 0 → Sets (.registerWrite who a v) s (s.u.counted Reg.FAB_NOUNIT.COUNT Reg.FAB_NOUNIT.OVF 1) fabLogRegs) ∧
     (∀ a, 0x110000 ≤ a → a < 0x120000 → a % 4 = 0 → s.u.rd (Reg.XNG_DOMd.STATE 4) = 2 → Sets (.registerWrite who a v) s
       (s.u.counted Reg.XNG_DORMANT.COUNT Reg.XNG_DORMANT.OVF 1) fabLogRegs fun w => (w.u.domn 4).refused = (s.u.domn 4).refused + 1))

/-! ## The Ethernet switch and the endpoint (16_networks.md R384 to R390, R396) -/

/-- R384 to R390, R396: frames are received, learned, forwarded by VLAN, sent by class and gate; links, sleep and wake of ports, cable
diagnosis, signal quality; the module endpoint. -/
def Obligations.Switch : Prop :=
  ∀ (s : State) (p t : Nat), p < 13 →
    let link := Reg.NET_PSTATUS.LINK p
    let tc10 := Reg.NET_PSTATUS.TC10 p
    let busy := Reg.NET_PDIAG.BUSY p
    let on := s.u.rd (Reg.NET_PCFG.EN p) = 1
    let here := s.u.portPresent p = true
    let ev (v : State) (kind pay : Nat) := EmitsNow s v 0x9000 kind pay
    let rx := s.u.counted (Reg.NET_PRX.COUNT p) (Reg.NET_PRX.OVF p) 1
    let drop := s.u.counted (Reg.NET_PDROP.COUNT p) (Reg.NET_PDROP.OVF p) 1
    let tbl := s.u.switch.tables
    let gate : GateList := SMap.get {} s.u.switch.gates p
    let down : List (Fld × Nat) := [(link, 0), (Reg.NET_PSTATUS.RATE p, 0), (Reg.NET_PSTATUS.MASTER p, 0), (Reg.NET_PSTATUS.SQI p, 0)]
    (∀ f : List Nat, s.u.portUp p = true → s.u.rd (Reg.NET_PMIR.RX p) = 0 →
      let vid := s.u.frameVlan p f
      let c := s.u.frameClass f
      let dst := frameDst f
      let src := frameSrc f
      let members := (List.range 14).filter fun q => q != p && bit (Config.vlanPorts tbl vid) q && s.u.portUp q
      let reaches (out : List Nat) (v : State) : Prop :=
        (∀ q, q < 14 → v.u.portQueue q c = s.u.portQueue q c ++ (if q ∈ out then [f] else [])) ∧
        (macGroup src = false → s.u.switch.macs.length < 4096 → ⟨src, vid, p, max s.u.clock t⟩ ∈ v.u.switch.macs)
      Sets (.switchFrameRx p f true t) s (rx ++ s.u.counted (Reg.NET_PRXERR.COUNT p) (Reg.NET_PRXERR.OVF p) 1) ∧
      (9216 < f.length → Sets (.switchFrameRx p f false t) s (rx ++ drop)) ∧
      (f.length ≤ 9216 → macReserved dst = false →
        (macGroup dst = true → s.u.buffered + f.length * members.length ≤ 4194304 → Sets (.switchFrameRx p f false t) s rx [] (reaches members)) ∧
        (∀ e, macGroup dst = false → src ≠ dst → (s.u.switch.macs.find? fun (m : MacEntry) => m.mac == dst && m.vid == vid) = some e →
          s.u.buffered + f.length ≤ 4194304 → Sets (.switchFrameRx p f false t) s rx [] (reaches (members.filter (· = e.port))))) ∧
      (f.length ≤ 9216 → macGroup dst = true → macReserved dst = false → 4194304 < s.u.buffered + f.length * members.length →
        Sets (.switchFrameRx p f false t) s (rx ++ drop))) ∧
    (∀ c f fs, c < 8 → s.u.portUp p = true → s.u.rd (Reg.NET_PMIR.TX p) = 0 → s.u.portQueue p c = f :: fs → bit (s.u.gateMask p) c = true →
      (∀ d, c < d → d < 8 → bit (s.u.gateMask p) d = false ∨ s.u.portQueue p d = []) → Sets (.switchFrameTx p t) s [] [] fun v =>
        v.u.portQueue p c = fs ∧ v.u.out = s.u.out ++ [.ethFrame p f]) ∧
    (gate.entries ≠ [] → Sets (.gateIntervalEnd p) s [] [] fun v =>
      SMap.get {} v.u.switch.gates p = ({ gate with idx := (gate.idx + 1) % gate.entries.length } : GateList)) ∧
    Sets (.gclActivate p) s [] [] (fun v =>
      SMap.get {} v.u.switch.gates p = ({ entries := (Config.gateEntries tbl p).take 128, idx := 0 } : GateList)) ∧
    Sets .macAgeing s [] [] (fun v => ∀ e, e ∈ v.u.switch.macs ↔ e ∈ s.u.switch.macs ∧ s.u.clock < e.seen + 120000000000) ∧
    (∀ rate m, here → 1 ≤ rate → rate ≤ 4 → on → s.u.pwr.frontOff = false → s.u.rd busy = 0 → Sets (.netLinkUp p rate m) s
      [(link, 1), (Reg.NET_PSTATUS.RATE p, rate), (Reg.NET_PSTATUS.MASTER p, b2n m), (tc10, 0)] [] fun v => ev v 0x01 (p + rate * 2 ^ 8)) ∧
    (s.u.rd link = 1 → Sets (.netLinkDown p) s down [] fun v => ev v 0x02 p) ∧
    (s.u.rd link = 0 → Sets (.netLinkDown p) s []) ∧
    (8 ≤ p → p < 12 → here → on → s.u.rd (Reg.NET_PCFG.TC10 p) = 1 → s.u.rd tc10 ≠ 1 →
      (s.u.rd link = 0 → Sets (.tc10Sleep p) s [(tc10, 1)] [] fun v => ev v 0x03 p) ∧
      (s.u.rd link = 1 → Sets (.tc10Sleep p) s (down ++ [(tc10, 1)]))) ∧
    (∀ w, 8 ≤ p → p < 12 → s.u.rd tc10 = 1 → s.u.pwr.down = 0 → s.u.pwr.target = 0 → Sets (.tc10Wake p w) s [(tc10, 2)] [] fun v =>
      ev v 0x04 (p + b2n w * 2 ^ 8) ∧ v.u.out = s.u.out ++ (s.u.wakeForward p).map OutMsg.wur) ∧
    (here → s.u.rd busy = 0 → s.u.rd link = 0 → Sets (.netPdiagRun p) s [(busy, 1)]) ∧
    (here → s.u.rd busy = 0 → s.u.rd link = 1 → Sets (.netPdiagRun p) s ((busy, 1) :: down)) ∧
    (∀ result dist, 1 ≤ result → result ≤ 4 → dist < 1024 → s.u.rd busy = 1 →
      let d := if result = 1 then 0 else dist
      Sets (.netPdiagDone p result dist) s [(busy, 0), (Reg.NET_PDIAG.RESULT p, result), (Reg.NET_PDIAG.DIST p, d)] [] fun v =>
        ev v 0x05 (p + result * 2 ^ 4 + d * 2 ^ 16)) ∧
    (∀ sqi, sqi < 8 → s.u.rd link = 1 →
      (sqi < 3 → p ∉ s.u.switch.sqiSaid → Sets (.sqiLow p sqi) s [(Reg.NET_PSTATUS.SQI p, sqi)] [] fun v =>
        ev v 0x06 (p + sqi * 2 ^ 8) ∧ p ∈ v.u.switch.sqiSaid) ∧
      (sqi < 3 → p ∈ s.u.switch.sqiSaid → Sets (.sqiLow p sqi) s [(Reg.NET_PSTATUS.SQI p, sqi)] [] fun v => Silent s v) ∧
      (4 ≤ sqi → Sets (.sqiLow p sqi) s [(Reg.NET_PSTATUS.SQI p, sqi)] [] fun v => p ∉ v.u.switch.sqiSaid)) ∧
    (let gone := s.u.counted (Reg.NET_PDROP.COUNT 13) (Reg.NET_PDROP.OVF 13) 1
     Sets (.endpointDatagram .other) s gone ∧ Sets (.endpointDatagram .gptp) s [] ∧
     ∀ a, (a ∈ s.u.endpointAddrs → Sets (.endpointDatagram (.solicit a)) s [] [] (fun v => v.u.out = s.u.out ++ [.neighbour a]) ∧
         ∀ src b, Sets (.endpointDatagram (.echo src a b)) s [] [] fun v => v.u.out = s.u.out ++ [.echoReply src a b]) ∧
       (a ∉ s.u.endpointAddrs → Sets (.endpointDatagram (.solicit a)) s gone))

/-! ## Record sinks, CAN and cameras (16_networks.md R391 to R404) -/

/-- R391 to R404: a sink is turned on and off, takes a piece into its region, closes a record; CAN frames are received, popped, queued, passed or
refused by the guardian, sent; camera packets, link changes and I2C. -/
def Obligations.SinksCanCameras : Prop :=
  ∀ (s : State) (t : Nat),
    let front := s.u.pwr.frontOff = false
    let res : List Fld := (List.range 65).map Reg.CORE_RES.VALID
    (∀ x, x < 3 →
      let k := s.u.sinkOf x
      let en := Reg.SINK_CFG.EN x
      let cur := s.u.sinkCur x
      let rgn := s.u.sinkRegion x cur
      let base := s.u.rgnBase rgn
      let a := s.u.rd (Reg.SINK_CFG.REG0 x)
      let b := s.u.rd (Reg.SINK_CFG.REG1 x)
      (s.u.rd en = 0 → a ≠ b → s.u.rgnOn a = true → s.u.rgnOn b = true → Sets (.sinkEnable x) s
        [(en, 1), (Reg.SINK_STATUS.CFG_ERR x, 0), (Reg.SINK_STATUS.CUR x, 0)] [] fun v => v.u.sinkOf x = {}) ∧
      (s.u.rd en = 0 → a = b ∨ s.u.rgnOn a = false ∨ s.u.rgnOn b = false → Sets (.sinkEnable x) s [(Reg.SINK_STATUS.CFG_ERR x, 1)]) ∧
      (s.u.rd en = 1 → Sets (.sinkEnable x) s []) ∧
      (s.u.rd en = 0 → Sets (.sinkDisable x) s []) ∧
      (s.u.rd en = 1 → k.opened = none → Sets (.sinkDisable x) s [(en, 0)] [] fun v => (v.u.sinkOf x).pieces = []) ∧
      (s.u.rd (Reg.SINK_CFG.AGE x) = 0 ∨ k.opened = none → Sets (.sinkAgeExpire x) s []) ∧
      (∀ o, s.u.rd (Reg.SINK_CFG.AGE x) ≠ 0 → k.opened = some o → 32 ≤ o.len → rgn < 16 → o.off + occupies o.len < 2 ^ 32 →
        Completes (.sinkAgeExpire x) s fun v =>
          let z := base + o.off
          v.u.rd (Reg.SINK_STATUS.OPEN x) = 0 ∧ v.u.rd (sinkRdy x cur) = o.off + occupies o.len ∧ (v.u.sinkOf x).opened = none ∧
          (∀ i h, (recHeader 0x04 (if o.tstep then 4 else 0) o.src o.len o.time o.angle 0 0)[i]? = some h → v.byte (z + i) = BitVec.ofNat 8 h) ∧
          (∀ y, z + o.len ≤ y → y < z + occupies o.len → v.byte y = 0) ∧
          (∀ y, y < z ∨ (z + 32 ≤ y ∧ y < z + o.len) ∨ z + occupies o.len ≤ y → v.byte y = s.byte y) ∧ v.pending = s.pending ∧
          RegsKept s.u v.u ([Reg.SINK_STATUS.OPEN x, sinkRdy x cur] ++ res)) ∧
      (∀ p ps, k.pieces = p :: ps → s.u.rd Reg.RSV_STATUS.STATE = 4 → x ≠ 2 → Sets (.sinkPiece x) s
        (s.u.counted (Reg.SINK_DROP.COUNT x) (Reg.SINK_DROP.OVF x) 1) [] fun v => (v.u.sinkOf x).pieces = ps) ∧
      (∀ p ps, let n := occupies (32 + p.bytes.length)
        let off := s.u.rgnFill rgn
        k.pieces = p :: ps → s.u.rd Reg.RSV_STATUS.STATE ≠ 4 → k.opened = none → rgn < 16 → s.u.rgnOn rgn = true → off + n ≤ s.u.rgnSize rgn →
        off + n < 2 ^ 32 → s.u.weir.waits = [] → s.u.weir.closed = false → s.u.weir.interval = none → s.u.held + n ≤ s.u.depthBytes →
        Completes (.sinkPiece x) s fun v =>
          (v.u.sinkOf x).pieces = ps ∧ v.u.rgnFill rgn = off + n ∧ (x < 2 → v.u.rd (Reg.SINK_STATUS.OPEN x) = 1) ∧
          (x = 2 → v.u.rd (sinkRdy x cur) = off + n) ∧
          (∀ i b, p.bytes[i]? = some b → v.byte (base + off + 32 + i) = BitVec.ofNat 8 b) ∧
          (∀ y, y < base + off ∨ base + off + n ≤ y → v.byte y = s.byte y) ∧ v.pending = s.pending ∧
          RegsKept s.u v.u ([Reg.WEIR_RGN_FILL.OFFSET rgn, Reg.SINK_STATUS.OPEN x, sinkRdy x cur] ++ heldRegs ++ res))) ∧
    (∀ n, n < 12 →
      let c := s.u.canOf n
      let on := s.u.rd (Reg.CAN_CFG.EN n) = 1
      let ev (v : State) (kind pay : Nat) := EmitsNow s v (0x9010 + n) kind pay
      (∀ f, s.u.pwr.down = 0 → s.u.pwr.target = 0 →
        let entry := bytesToWords (busEntry (s.u.timeAt t) (s.u.sinkAngle 1 t) (canFlags f) (leBytes 4 f.id ++ f.data))
        let taken := s.u.counted (Reg.CAN_RXFRM.COUNT n) (Reg.CAN_RXFRM.OVF n) 1
        (on → front → f.fdf = false ∨ s.u.rd (Reg.CAN_CFG.FD n) = 1 → f.err = false →
          (s.u.canMatch n f = false → Sets (.canFrameSeen n f t) s taken [] fun v => (v.u.canOf n).rx = c.rx) ∧
          (s.u.canMatch n f = true → c.rx.length < 64 → Sets (.canFrameSeen n f t) s ((Reg.CAN_RXCNT.COUNT n, c.rx.length + 1) :: taken) [] fun v =>
            (v.u.canOf n).rx = c.rx ++ [entry] ∧ ((v.u.sinkOf 1).pieces.length =
              (s.u.sinkOf 1).pieces.length + b2n (s.u.sinkOn 1 && !s.u.pwr.acqOff)))) ∧
        (s.u.rd (Reg.CAN_CFG.EN n) = 0 → Sets (.canFrameSeen n f t) s [])) ∧
      (c.rx = [] → Sets (.canRxpop n) s [] [] fun v => v.u.rdata = 0) ∧
      (∀ w y ws es, c.rx = (w :: y :: ws) :: es → Sets (.canRxpop n) s [] [] fun v => v.u.rdata = w ∧ (v.u.canOf n).rx = (y :: ws) :: es) ∧
      (∀ w es, c.rx = [w] :: es → es.length < 64 → Sets (.canRxpop n) s [(Reg.CAN_RXCNT.COUNT n, es.length)] [] fun v =>
        v.u.rdata = w ∧ (v.u.canOf n).rx = es) ∧
      (∀ w, (c.tx.length < 8 → Sets (.canTxpush n w) s [] [] fun v => (v.u.canOf n).push = c.push ++ [w % 2 ^ 32]) ∧
        (8 ≤ c.tx.length → Sets (.canTxpush n w) s [(Reg.CAN_STATUS.TXERR n, 1)])) ∧
      (∀ h id ws tag, c.push = h :: id :: ws → h % 65536 ≤ 64 → ws.length = (h % 65536 + 3) / 4 → Sets (.canTxGo n tag) s [] [] fun v =>
        (v.u.canOf n).push = [] ∧ (v.u.canOf n).tx = c.tx ++
          [{ eflags := h / 65536, id := id, data := (wordsToBytes ws).take (h % 65536), tag := tag % 65536 }]) ∧
      (∀ tag, c.push = [] → Sets (.canTxGo n tag) s [(Reg.CAN_STATUS.TXERR n, 1)] [] fun v => (v.u.canOf n).tx = c.tx) ∧
      (∀ f fs, c.tx = f :: fs → on → front → s.u.rd (Reg.CAN_STATUS.STATE n) ≤ 1 →
        (s.u.guardReason n f = none → Sets (.canFrameStart n) s [] [] fun v =>
          (v.u.canOf n).started = true ∧ (v.u.canOf n).tokens = c.tokens - 1 ∧ (v.u.canOf n).tx = c.tx) ∧
        (∀ r, s.u.guardReason n f = some r → c.lastReject = none → Sets (.canFrameStart n) s ((Reg.CAN_STATUS.GUARD_REJ n, 1) ::
          s.u.counted (Reg.CAN_GUARDREJ.COUNT n) (Reg.CAN_GUARDREJ.OVF n) 1) [] fun v =>
            (v.u.canOf n).tx = fs ∧ ev v 0x04 (r + satN 16 (c.rejects + 1) * 2 ^ 16))) ∧
      (∀ f fs, c.tx = f :: fs → c.started = true → Sets (.canTxDone n) s [] [] fun v => (v.u.canOf n).tx = fs ∧
        v.u.out = s.u.out ++ [.canFrame n f.id (bit f.eflags 8) f.data] ∧ ev v 0x05 (f.tag * 2 ^ 16)) ∧
      Sets (.canTokenRefill n) s [] [] (fun v => (v.u.canOf n).tokens = min (s.u.rd (Reg.CAN_PERMIT0.BURST n)) (c.tokens + 1)) ∧
      (s.u.rd (Reg.CAN_STATUS.FAULT n) ≠ 1 → Sets (.canDominantTimeout n) s [(Reg.CAN_STATUS.FAULT n, 1)] [] fun v => ev v 0x07 1) ∧
      (let w := s.u.pstWord (0x10 + 3 * n)
       c.reload = true → Sets (.canPermitLoad n) s [(Reg.CAN_PERMIT0.MODE n, bits w 1 0), (Reg.CAN_PERMIT0.IDE n, bits w 3 2),
         (Reg.CAN_PERMIT0.BURST n, bits w 11 4), (Reg.CAN_PERMIT0.RATE n, bits w 27 12), (Reg.CAN_PERMIT1.ID_LO n, s.u.pstWord (0x11 + 3 * n) % 2 ^ 29),
         (Reg.CAN_PERMIT2.ID_HI n, s.u.pstWord (0x12 + 3 * n) % 2 ^ 29)] [] fun v => (v.u.canOf n).tokens = bits w 11 4 ∧ (v.u.canOf n).reload = false) ∧
      (c.reload = false → Sets (.canPermitLoad n) s []) ∧
      (∀ st tec rec, on → st < 3 → tec < 256 → rec < 256 → Sets (.canErrorState n st tec rec) s
        [(Reg.CAN_STATUS.STATE n, st), (Reg.CAN_STATUS.TEC n, tec), (Reg.CAN_STATUS.REC n, rec)] [] fun v =>
          (st = s.u.rd (Reg.CAN_STATUS.STATE n) → Silent s v) ∧ (st = 2 → s.u.rd (Reg.CAN_STATUS.STATE n) ≠ 2 → ev v 0x02 0))) ∧
    (∀ n, n < 8 → s.u.camPresent n = true →
      let c := s.u.camOf n
      let on := s.u.rd (Reg.CAM_CFG.EN n) = 1
      let vc := s.u.rd (Reg.CAM_CFG.VC n)
      let next := (c.frame + 1) % 2 ^ 32
      let ev (v : State) (kind pay : Nat) := EmitsNow s v (0x9020 + n) kind pay
      (on → s.u.rd (Reg.CAM_STATUS.LOCK n) = 1 → s.u.pwr.acqOff = false →
        (∀ h, c.inFrame = false → next % (s.u.rd (Reg.CAM_CFG.KEEP n) + 1) = 0 → s.u.sinkOn 2 = true → Sets (.camPacketRx n vc (.frameStart h) false t) s
          [(Reg.CAM_STATUS.FRAME n, next % 2 ^ 16)] [] fun v => v.u.camOf n =
            { frame := next, inFrame := true, kept := true, time := s.u.timeAt t, angle := s.u.sinkAngle 2 t, data := leBytes 4 h }) ∧
        (∀ h, c.inFrame = false → next % (s.u.rd (Reg.CAM_CFG.KEEP n) + 1) ≠ 0 → Sets (.camPacketRx n vc (.frameStart h) false t) s
          ((Reg.CAM_STATUS.FRAME n, next % 2 ^ 16) :: s.u.counted (Reg.CAM_DISC.COUNT n) (Reg.CAM_DISC.OVF n) 1) [] fun v => (v.u.camOf n).kept = false) ∧
        (∀ h pl, c.inFrame = true → c.kept = true →
          let bytes := leBytes 4 h ++ pl ++ List.replicate ((4 - pl.length % 4) % 4) 0
          c.data.length + bytes.length ≤ s.u.fragMax → Sets (.camPacketRx n vc (.long h pl) false t) s [] [] fun v =>
            v.u.camOf n = { c with data := c.data ++ bytes }) ∧
        (∀ h pl, c.inFrame = true → c.kept = false → c.errSaid = false → Sets (.camPacketRx n vc (.long h pl) true t) s
          (s.u.counted (Reg.CAM_ERR.COUNT n) (Reg.CAM_ERR.OVF n) 1) [] fun v => (v.u.camOf n).errSaid = true ∧
            Emits s v (0x9020 + n) [s.u.eventAt (max s.u.clock t) (0x9020 + n) 0x03 c.frame]) ∧
        (∀ h, c.inFrame = true → c.kept = true → c.data.length + 4 ≤ s.u.fragMax → s.u.sinkOn 2 = true → Sets (.camPacketRx n vc (.frameEnd h) false t) s
          [] [] fun v => (v.u.camOf n).inFrame = false ∧ ∃ p, (v.u.sinkOf 2).pieces = (s.u.sinkOf 2).pieces ++ [p] ∧ p.src = n ∧ p.frame = c.frame ∧
            p.bytes.drop 16 = c.data ++ leBytes 4 h)) ∧
      (∀ m p bad, m ≠ vc ∨ s.u.rd (Reg.CAM_STATUS.LOCK n) = 0 → Sets (.camPacketRx n m p bad t) s []) ∧
      (∀ gear, on → 1 ≤ gear → gear < 6 → Sets (.camLockChange n gear) s [(Reg.CAM_STATUS.LOCK n, 1), (Reg.CAM_STATUS.GEAR n, gear)] [] fun v =>
        ev v 0x01 gear) ∧
      (on → s.u.rd (Reg.CAM_STATUS.LOCK n) = 1 → Sets (.camLockChange n 0) s [(Reg.CAM_STATUS.LOCK n, 0), (Reg.CAM_STATUS.GEAR n, 0)] [] fun v =>
        ev v 0x02 0) ∧
      (s.u.rd (Reg.CAM_I2C.BUSY n) = 0 → Sets (.camI2cGo n) s [(Reg.CAM_I2C.BUSY n, 1)] [] fun v => v.u.out = s.u.out ++
        [.i2c n (s.u.rd (Reg.CAM_I2C.DEV n)) (s.u.rd (Reg.CAM_I2C.REG n)) (s.u.is (Reg.CAM_I2C.WRITE n)) (s.u.rd (Reg.CAM_I2C.DATA n))]) ∧
      (∀ d, d < 256 → s.u.rd (Reg.CAM_I2C.BUSY n) = 1 →
        (s.u.rd (Reg.CAM_I2C.WRITE n) = 0 → Sets (.camI2cDone n d false) s [(Reg.CAM_I2C.BUSY n, 0), (Reg.CAM_I2C.NACK n, 0), (Reg.CAM_I2C.DATA n, d)]) ∧
        (s.u.rd (Reg.CAM_I2C.WRITE n) = 1 → Sets (.camI2cDone n d false) s [(Reg.CAM_I2C.BUSY n, 0), (Reg.CAM_I2C.NACK n, 0)]) ∧
        Sets (.camI2cDone n d true) s [(Reg.CAM_I2C.BUSY n, 0), (Reg.CAM_I2C.NACK n, 1)]))

/-! ## The dock and the twin link (16_networks.md R405 to R410) -/

namespace Sys2Proof.Machine

/-- A frame of the twin link arrives on lane l whole and next in order (R410). -/
def NextFrame (s : State) (l : Nat) (b : List Nat) (f : TwinRx) : Prop :=
  l < 2 ∧ twinParse b = some f ∧ s.u.laneUp l = true ∧ f.seq = (s.u.twl.acked + 1) % 65536

/-- Steward firmware takes mailbox frames, and its arrival queue has room (17_steward_and_sessions.md R419, R422). -/
def Taking (s : State) : Prop := s.u.stw.running = true ∧ s.u.stw.arrivals.length < 32

end Sys2Proof.Machine

/-- R405 to R408: dock presence and lanes, datagrams received and sent, PAUSE, and the queues of the dock and the twin link. -/
def Obligations.DockAndQueues : Prop :=
  ∀ (s : State) (l q : Nat), l < 8 → q < 4 →
    let up := s.u.rd Reg.DOCK_STATUS.LANEUP
    let ev (v : State) (kind pay : Nat) := EmitsNow s v 0x9030 kind pay
    let lane := Reg.DOCK_STATUS.LANEUP
    (s.u.rd Reg.DOCK_STATUS.PRESENT = 0 → up = 0 → s.u.pwr.down = 0 → s.u.pwr.target = 0 → Sets .dockPresent s [(Reg.DOCK_STATUS.PRESENT, 1)]
      [Reg.DOCK_STATUS.LASER] fun v => ev v 0x01 0) ∧
    (s.u.rd Reg.DOCK_STATUS.PRESENT = 1 → up = 0 → Sets .dockAbsent s [(Reg.DOCK_STATUS.PRESENT, 0), (Reg.DOCK_STATUS.LASER, 0)] [] fun v =>
      ev v 0x02 0) ∧
    (s.u.laserOn l = true → bit up l = false → up < 256 → Sets (.dockLaneUp l) s [(lane, up + 2 ^ l)] [] fun v => ev v 0x03 l) ∧
    (s.u.laserOn l = false → Sets (.dockLaneUp l) s []) ∧
    (bit up l = true → up < 256 → s.u.downs = [] → Sets (.dockLaneDown l) s [(lane, up - 2 ^ l), (Reg.DOCK_STATUS.STREAM, 0)] [] fun v => ev v 0x04 l) ∧
    (∀ d x a b rest, s.u.downs = [d] → d.path = 0 → d.lanes = [x] → x.lane = l → x.todo = (a, b) :: rest → a < b → bit up l = true →
      bit s.u.paused l = false →
      let n := min 8192 (b - a)
      let more : List (Nat × Nat) := if a + n < b then (a + n, b) :: rest else rest
      let sent (v : State) : Prop := ∃ h, v.u.out = s.u.out ++ [.datagram 0 l (x.host / 65536) d.dport h] ∧ h.take 4 = ascii "SWKD" ∧
        h.drop 24 = s.u.volumeBytes d.vol (d.off + a) n
      (more ≠ [] → Sets (.downloadDatagram d.num l) s [(Reg.DOCK_STATUS.STREAM, 1)] [] fun v => sent v ∧
        v.u.downs = [{ d with lanes := [{ x with todo := more }] }]) ∧
      (more = [] → Sets (.downloadDatagram d.num l) s [(Reg.DOCK_STATUS.STREAM, 0)] [] fun v => sent v ∧ v.u.downs = [] ∧ ev v 0x05 d.num)) ∧
    (∀ host src port b, src < 65536 → port < 65536 →
      (bit up l = false → Sets (.dockDatagramRx l host src port b) s []) ∧
      (bit up l = true → Taking s →
        (mailboxOk b = true → Sets (.dockDatagramRx l host src 21335 b) s [] [] fun v =>
          v.u.stw.arrivals = s.u.stw.arrivals ++ [mailboxFrame 1 (host * 65536 + src) l b]) ∧
        (mailboxOk b = false → Sets (.dockDatagramRx l host src 21335 b) s (s.u.counted Reg.SES_BADFRAME.COUNT Reg.SES_BADFRAME.OVF 1))) ∧
      (bit up l = true → port ≠ 21335 → s.u.rd (Reg.DOCK_QCFG.EN q) = 1 → s.u.rd (Reg.DOCK_QCFG.PORT q) = port →
        (∀ p, p < q → s.u.rd (Reg.DOCK_QCFG.EN p) = 0 ∨ s.u.rd (Reg.DOCK_QCFG.PORT p) ≠ port) → 1 ≤ b.length → b.length ≤ 8192 →
        ((s.u.xq false q).rx.map Prod.fst).sum + b.length ≤ 65536 → Sets (.dockDatagramRx l host src port b) s [] [] fun v =>
          (v.u.xq false q).host = some (l, host) ∧ (v.u.xq false q).rx = (s.u.xq false q).rx ++
            [(b.length, (b.length + l * 2 ^ 14 + 2 ^ 31) :: src :: bytesToWords b)])) ∧
    (∀ t, t < 65536 → t ≠ 0 → Sets (.dockPauseFrame l t) s [] [] fun v => v.u.paused = s.u.paused ||| 2 ^ l) ∧
    ((∀ p, p < 4 → (s.u.xq false p).held = []) → Sets (.dockPauseFrame l 0) s [] [] fun v => bit v.u.paused l = false ∧ v.u.out = s.u.out) ∧
    (∀ twin,
      let x := s.u.xq twin q
      (x.rx = [] → Sets (.queuePop twin q) s [] [] fun v => v.u.rdata = 0) ∧
      (∀ n w y ws fs, x.rx = (n, w :: y :: ws) :: fs → Sets (.queuePop twin q) s [] [] fun v =>
        v.u.rdata = w ∧ (v.u.xq twin q).rx = (n, y :: ws) :: fs) ∧
      (∀ n w fs, x.rx = (n, [w]) :: fs → Sets (.queuePop twin q) s [] [] fun v => v.u.rdata = w ∧ (v.u.xq twin q).rx = fs) ∧
      (∀ w, s.u.queueOn twin q = true → x.tx = [] → 2 ^ 31 ≤ w → w < 2 ^ 32 → 1 ≤ w % 2 ^ 14 → w % 2 ^ 14 ≤ 8192 →
        Sets (.queuePush twin q w) s [] [] fun v => (v.u.xq twin q).tx = [w]) ∧
      (∀ w, s.u.queueOn twin q = true → x.tx = [] → w < 2 ^ 31 → Sets (.queuePush twin q w) s [] [] fun v => (v.u.xq twin q).tx = [])) ∧
    (∀ w, s.u.rd (Reg.DOCK_QCFG.EN q) = 0 → Sets (.queuePush false q w) s []) ∧
    (∀ h a ws w lane' host, s.u.rd (Reg.DOCK_QCFG.EN q) = 1 → (s.u.xq false q).tx = h :: a :: ws → 2 ^ 31 ≤ h → h < 2 ^ 32 → 1 ≤ h % 2 ^ 14 →
      h % 2 ^ 14 ≤ 8192 → ws.length + 1 = (h % 2 ^ 14 + 3) / 4 → (s.u.xq false q).host = some (lane', host) → bit s.u.paused lane' = false →
      (s.u.xq false q).held = [] → Sets (.queuePush false q w) s [] [] fun v => (v.u.xq false q).tx = [] ∧
        v.u.out = s.u.out ++ [.dockData lane' host (s.u.rd (Reg.DOCK_QCFG.PORT q)) (a % 65536)
          ((wordsToBytes (ws ++ [w % 2 ^ 32])).take (h % 2 ^ 14))])

/-- R409, R410, R434: lanes of the twin link come up and go down, HELLOs, retries, frames in and out of order, relayed mailbox frames and
queue data. -/
def Obligations.TwinLink : Prop :=
  ∀ (s : State) (l : Nat) (b : List Nat), l < 2 →
    let up := s.u.rd Reg.TWN_STATUS.LANEUP
    let x := s.u.twl
    let enabled := s.u.rd Reg.TWN_CFG.EN = 1
    let crc := s.u.counted Reg.TWN_CRCERR.COUNT Reg.TWN_CRCERR.OVF 1
    let rec1 (kind pay : Nat) := s.u.eventAt s.u.clock 0x9031 kind pay
    let lanes := (List.range 2).filter fun k => bit (s.u.rd Reg.TWN_CFG.LANES) k
    (enabled → bit (s.u.rd Reg.TWN_CFG.LANES) l = true → bit up l = false → up < 4 → x.hello = none → x.unacked = [] → Sets (.twinLaneUp l) s
      [(Reg.TWN_STATUS.LANEUP, up + 2 ^ l)] [] fun v => EmitsNow s v 0x9031 0x01 l) ∧
    (bit (s.u.rd Reg.TWN_CFG.LANES) l = false ∨ bit up l = true → Sets (.twinLaneUp l) s []) ∧
    (enabled → x.unacked = [] → Sets .twinHelloTimer s [] [] fun v =>
      v.u.out = s.u.out ++ lanes.map fun k => .twinFrame k (twinBytes 0x01 x.seq x.acked s.u.helloBytes)) ∧
    (∀ f fs, enabled → x.unacked = f :: fs → Sets .twinHelloTimer s [] [] fun v =>
      v.u.out = s.u.out ++ lanes.map fun k => .twinFrame k (twinBytes 0x01 f.seq x.acked s.u.helloBytes)) ∧
    (s.u.rd Reg.TWN_CFG.EN = 0 → Sets .twinHelloTimer s []) ∧
    (x.missed.getD l 0 < 2 → Sets (.twinHelloMiss l) s [] [] fun v => v.u.twl.missed = x.missed.set l (x.missed.getD l 0 + 1)) ∧
    (x.missed.getD l 0 = 2 → up = 2 ^ l → s.u.rd Reg.TWN_STATUS.PARTNER = 1 → s.u.rd Reg.TWN_PAIR.ROLE = 0 → Sets (.twinHelloMiss l) s
      [(Reg.TWN_STATUS.LANEUP, 0), (Reg.TWN_STATUS.PARTNER, 0)] [] fun v => Emits s v 0x9031 [rec1 0x02 l, rec1 0x03 0] ∧ v.u.twl.hello = none) ∧
    (x.unacked = [] → Sets .twinRetryTimeout s []) ∧
    (∀ f fs, x.unacked = f :: fs → f.lane < 2 → f.tries < 8 → Sets .twinRetryTimeout s (s.u.counted Reg.TWN_RETRY.COUNT Reg.TWN_RETRY.OVF 1) [] fun v =>
      v.u.twl.unacked = { f with tries := f.tries + 1 } :: fs ∧ v.u.out = s.u.out ++ [.twinFrame f.lane (twinBytes f.type f.seq x.acked f.payload)]) ∧
    (∀ f, x.unacked = [f] → f.lane = 0 → f.tries = 8 → up = 3 → Sets .twinRetryTimeout s [(Reg.TWN_STATUS.LANEUP, 2)] [] fun v =>
      v.u.twl.unacked = [{ f with lane := 1, tries := 0 }] ∧ v.u.out = s.u.out ++ [.twinFrame 1 (twinBytes f.type f.seq x.acked f.payload)] ∧
        Emits s v 0x9031 [rec1 0x04 (f.seq * 2 ^ 16), rec1 0x02 0]) ∧
    (twinParse b = none → Sets (.twinHelloRx l b) s crc ∧ Sets (.twinMailboxRelayRx l b) s crc ∧ Sets (.twinQueueDataRx l b) s crc) ∧
    (∀ f, twinParse b = some f → f.type = 1 → enabled → bit (s.u.rd Reg.TWN_CFG.LANES) l = true → s.u.laneUp l = true →
      s.u.rd Reg.TWN_PAIR.ROLE = 0 → s.u.rd Reg.TWN_STATUS.PARTNER = 0 → Sets (.twinHelloRx l b) s
        [(Reg.TWN_STATUS.PARTNER, 1), (Reg.TWN_STATUS.PART, leNat ((f.payload.drop 4).take 2) % 2 ^ 16)] [] fun v =>
          EmitsNow s v 0x9031 0x03 1 ∧ v.u.twl.missed = x.missed.set l 0 ∧ v.u.twl.acked = (f.seq + 65535) % 65536) ∧
    (∀ f, NextFrame s l b f →
      (7 ≤ f.type → Sets (.twinMailboxRelayRx l b) s (s.u.counted Reg.TWN_BADTYPE.COUNT Reg.TWN_BADTYPE.OVF 1) [] fun v => v.u.twl.acked = f.seq) ∧
      (f.type = 3 → s.u.rd Reg.TWN_PAIR.ROLE = 2 → Taking s → mailboxOk f.payload = true → Sets (.twinMailboxRelayRx l b) s [] [] fun v =>
        v.u.twl.acked = f.seq ∧ v.u.stw.arrivals = s.u.stw.arrivals ++ [mailboxFrame 2 0 0 f.payload]) ∧
      (∀ q bytes, f.type = 4 → f.payload = q :: bytes → q < 4 → bytes ≠ [] → ((s.u.xq true q).rx.map Prod.fst).sum + bytes.length ≤ 65536 →
        Sets (.twinQueueDataRx l b) s [] [] fun v => v.u.twl.acked = f.seq ∧ (v.u.xq true q).rx = (s.u.xq true q).rx ++
          [(bytes.length, (bytes.length + 2 ^ 31) :: 0 :: bytesToWords bytes)])) ∧
    (∀ f, twinParse b = some f → 3 ≤ f.type → f.type ≤ 6 → s.u.laneUp l = true → f.seq ≠ (x.acked + 1) % 65536 →
      (f.type = 3 → Sets (.twinMailboxRelayRx l b) s [] [] fun v => v.u.twl.acked = x.acked ∧ v.u.stw = s.u.stw) ∧
      (f.type = 4 → Sets (.twinQueueDataRx l b) s [] [] fun v => v.u.twl.acked = x.acked ∧ v.u.queue = s.u.queue))

/-! ## Twin mode (19_twin_mode.md R455 to R474; 18_persistent_config.md R450) -/

namespace Sys2Proof.Machine

/-- The youngest frame that waits for its acknowledgement on the twin link. -/
def LastSent (v : State) (type : Nat) (payload : List Nat) : Prop :=
  ∃ g, v.u.twl.unacked.getLast? = some g ∧ g.type = type ∧ g.payload = payload

/-- An ACCEPT frame with a status has been sent (R474). -/
def Accepts (v : State) (status : Nat) : Prop := LastSent v 2 ([2, 0, 0, 0] ++ leBytes 2 status)

/-- A twin-control frame with an OP arrives whole and in order. -/
def ControlFrame (s : State) (l : Nat) (b : List Nat) (op : Nat) (p : List Nat) : Prop :=
  ∃ f, NextFrame s l b f ∧ f.type = 2 ∧ f.payload = p ∧ p.getD 0 0 = op

/-- The open volume takes a group at once, which leads with nothing but its records (07_records.md R176, R180, R186). -/
def TakesGroup (s : State) (vol : Volume) : Prop :=
  s.u.admitting = false ∧ s.u.openVol = some vol ∧ s.u.findVol vol.id = some vol ∧ vol.due = false ∧ vol.begun = false ∧
    vol.lastFp = some (s.u.fpNow, s.u.genNow) ∧ s.u.weir.gaps = [] ∧ s.u.rsv.rejoin = false ∧ s.u.rd Reg.RSV_STATUS.STATE = 2

/-- A good frame of the angle-sync wire (R461, R462): 45 bytes that end with their CRC. -/
def GoodSync (b : List Nat) : Prop := b.length = 45 ∧ leNat (b.drop 41) = crc32c (b.take 41)

end Sys2Proof.Machine

/-- R450, R455 to R474: joining and leaving, pair commands, STATE, fingerprints, partner index and time transfer over the twin link; attaching;
the frames, the lock and the delay of the angle-sync wire. -/
def Obligations.TwinPairing : Prop :=
  ∀ (s : State) (l t : Nat) (b p : List Nat),
    let role := s.u.rd Reg.TWN_PAIR.ROLE
    let partner := s.u.rd Reg.TWN_STATUS.PARTNER = 1
    let x := s.u.pair
    let roleF := Reg.TWN_PAIR.ROLE
    let now := max s.u.clock t
    let gone : List (Fld × Nat) := [(roleF, 0), (Reg.TWN_PAIR.ATTACHED, 0), (Reg.TWN_PAIR.ENGMASK, 0), (Reg.TWN_PARTNER_UNIT.UNIT, 0),
      (Reg.TWN_SYNC_STATUS.LOCK, 0), (Reg.TWN_SYNC_STATUS.DRIVE, 0)]
    (∀ n time, role = 1 → partner → x.sent = some (n, time) → Sets .twinTimeTransferTx s [] [] fun v => LastSent v 5 (leBytes 4 n ++ leBytes 8 time)) ∧
    (role ≠ 1 → Sets .twinTimeTransferTx s []) ∧
    (∀ f e tick, NextFrame s l b f → f.type = 5 → role = 2 → s.u.rd Reg.TIM_CTRL.SRC = 4 → x.dated = [(e, tick)] →
      e % 256 = leNat (f.payload.take 4) % 256 → Gives (.twinTimeTransferRx l b) s [(Reg.TIM_STATUS.ACTIVE, 4)] fun v =>
        v.u.twl.acked = f.seq ∧ v.u.pair.dated = [(leNat (f.payload.take 4), tick)]) ∧
    (∀ f, NextFrame s l b f → f.type = 6 → (role ≠ 0 → s.u.rsv.index.length < 63 → Sets (.twinPartnerIndexRx l b) s [] [] fun v =>
        v.u.twl.acked = f.seq ∧ v.u.rsv.index = s.u.rsv.index ++ [f.payload]) ∧
      (role = 0 → Sets (.twinPartnerIndexRx l b) s [] [] fun v => v.u.twl.acked = f.seq ∧ v.u.rsv.index = s.u.rsv.index)) ∧
    (∀ e vol, TakesGroup s vol → s.u.rsv.index = [e] → Sets .partnerIndexAdmit s (gseqIs Reg.RSV_ADMIT_LO.GSEQ Reg.RSV_ADMIT_HI.GSEQ vol.next)
      [Reg.RSV_POOL.MIB] fun v => v.u.rsv.index = [] ∧ ∃ a, v.u.rsv.adm = s.u.rsv.adm ++ [a] ∧ a.group.rcount = 1 ∧ a.group.gseq = vol.next) ∧
    (s.u.rsv.index = [] → Sets .partnerIndexAdmit s []) ∧
    (ControlFrame s l b 1 p →
      (role ≠ 0 ∨ s.u.rd Reg.SES_STATUS.OPEN = 1 ∨ s.u.lsess ≠ 0 → Sets (.twinJoinFrameRx l b) s [] [] fun v => Accepts v 0x0107) ∧
      (role = 0 → s.u.rd Reg.SES_STATUS.OPEN = 0 → s.u.lsess = 0 → Gives (.twinJoinFrameRx l b) s
        [(roleF, 2), (Reg.TWN_PAIR.ATTACHED, 0), (Reg.TWN_PAIR.ENGMASK, p.getD 12 0 % 16), (Reg.TWN_PARTNER_UNIT.UNIT, leNat ((p.drop 4).take 4)),
         (Reg.TIM_CTRL.SRC, 4)] fun v => Accepts v 0)) ∧
    (∀ mask h, ControlFrame s l b 2 p → x.asked = some mask → s.u.stw.longs = [] → s.u.twl.hello = some h →
      (leNat ((p.drop 4).take 2) = 0 → Sets (.twinAcceptRx l b) s [(roleF, 1), (Reg.TWN_PAIR.ENGMASK, mask % 16),
        (Reg.TWN_PARTNER_UNIT.UNIT, h.1 % 2 ^ 32), (Reg.TWN_PAIR.ATTACHED, 0), (Reg.TWN_SYNC_STATUS.DRIVE, 1)] [] fun v =>
          EmitsNow s v 0xB004 0x01 (1 + mask * 2 ^ 4) ∧ v.u.pair.asked = none ∧ v.u.pair.joinedAt = s.u.clock) ∧
      (leNat ((p.drop 4).take 2) ≠ 0 → role = 0 → Sets (.twinAcceptRx l b) s [] [] fun v => v.u.pair.asked = none)) ∧
    (partner → Sets .twinStateTx s [] [] fun v => LastSent v 2 ([3, 0, 0, 0] ++ [role, s.u.rd Reg.TWN_PAIR.ATTACHED, s.u.pairWait,
      if role = 1 then s.u.cycMask (s.u.rd Reg.TWN_PAIR.ENGMASK) else 0])) ∧
    (partner → Sets .fpExchangeTimer s [] [] fun v => LastSent v 2 ([4, 0, 0, 0] ++ (leBytes 8 s.u.fpNow ++ leBytes 4 s.u.genNow))) ∧
    (s.u.rd Reg.TWN_STATUS.PARTNER = 0 → Sets .twinStateTx s [] ∧ Sets .fpExchangeTimer s []) ∧
    (ControlFrame s l b 3 p → role = 1 → p.getD 4 0 = 2 → Sets (.twinStateRx l b) s
      [(Reg.TWN_PAIR.ATTACHED, p.getD 5 0 % 2), (Reg.TWN_PAIR.WAIT, p.getD 6 0 % 8)]) ∧
    (ControlFrame s l b 4 p →
      let peer := leNat ((p.drop 4).take 8)
      let seen : List (Fld × Nat) := [(Reg.PST_PEER_FP_LO.FP, peer % 2 ^ 32), (Reg.PST_PEER_FP_HI.FP, peer / 2 ^ 32),
        (Reg.PST_PEER_GEN.GEN, leNat ((p.drop 12).take 4))]
      Sets (.twinFprintRx l b true) s seen [] (fun v => v.u.pst.lastCmp = s.u.pst.lastCmp) ∧
      (s.u.rd Reg.PST_STATUS.STALE = 0 → peer = s.u.fpNow → Sets (.twinFprintRx l b false) s seen [Reg.PST_STATUS.MISMATCH] fun v =>
        v.u.pst.lastCmp = some true) ∧
      (s.u.rd Reg.PST_STATUS.STALE = 0 → peer ≠ s.u.fpNow → role = 2 → s.u.rd Reg.TWN_PAIR.ATTACHED = 1 → s.u.pst.lastCmp = some true →
        Sets (.twinFprintRx l b false) s (seen ++ [(Reg.PST_STATUS.MISMATCH, 1), (Reg.TWN_PAIR.ATTACHED, 0)] ++
          s.u.counted Reg.TWN_DETACHES.COUNT Reg.TWN_DETACHES.OVF 1) [] fun v => v.u.pst.lastCmp = some false ∧ EmitsNow s v 0xB004 0x03 1)) ∧
    (ControlFrame s l b 5 p → role = 2 → Sets (.twinDelayRx l b) s
      [(Reg.TWN_SYNC_DELAY.D, leNat ((p.drop 4).take 4) % 256), (Reg.TWN_SYNC_DELAY.VALID, 1)]) ∧
    (ControlFrame s l b 6 p →
      (role ≠ 2 → Sets (.twinPaircmdRx l b) s [] [] fun v => Accepts v 0x0107) ∧
      (role = 2 → leNat ((p.drop 4).take 2) = 0x0051 → s.u.rd Reg.RSV_STATUS.STATE = 3 → s.u.openVol = none → s.u.rsv.dead = [] →
        Gives (.twinPaircmdRx l b) s (gseqIs Reg.RSV_COMMIT_LO.GSEQ Reg.RSV_COMMIT_HI.GSEQ (2 ^ 64 - 1)) fun v =>
          Accepts v 0 ∧ ∃ vol, v.u.openVol = some vol ∧ vol.groups = [] ∧ vol.next = 0 ∧ vol.hash = chainAnchor vol.id)) ∧
    (ControlFrame s l b 7 p → (role ≠ 2 → Sets (.twinLeaveFrameRx l b) s [] [] fun v => Accepts v 0) ∧
      (role = 2 → Gives (.twinLeaveFrameRx l b) s (gone ++ [(Reg.TIM_CTRL.SRC, 0), (Reg.RSV_LSESS.LSESS, 0)]))) ∧
    (∀ c, (s.u.stw.longs.find? fun (k : LongCmd) => k.frame.cmd == 0x0070 && k.peer == 0) = some c → x.joinedAt + 4000000000 ≤ now →
      s.u.rd Reg.TWN_PAIR.ATTACHED = 0 → c.orphan = false → c.frame.transport ≠ 2 → Sets (.twinJoinTimeout t) s [] [] fun v =>
        v.u.stw.longs = s.u.stw.longs.erase c ∧ ∃ w, v.u.out = s.u.out ++ [.mailbox c.frame.transport c.frame.src
          (responseBytes c.frame 0 0 (s.u.joinData 0 w))]) ∧
    (role = 2 → s.u.rd Reg.TWN_PAIR.ATTACHED = 0 → s.u.pairWait = 0 → partner → Sets .twinAttach s [(Reg.TWN_PAIR.ATTACHED, 1)] [] fun v =>
      EmitsNow s v 0xB004 0x02 0 ∧ v.u.rsv.rejoin = true) ∧
    (role ≠ 2 ∨ s.u.pairWait ≠ 0 → Sets .twinAttach s []) ∧
    (role = 1 → Sets (.syncFrameTx t) s [] [] fun v => v.u.pair.sent = some (x.fseq, s.u.timeAt now) ∧ v.u.pair.fseq = (x.fseq + 1) % 2 ^ 32 ∧
      ∃ f, v.u.out = s.u.out ++ [.syncFrame f] ∧ f.length = 45 ∧ f.head? = some (x.fseq % 256) ∧ f.drop 41 = leBytes 4 (crc32c (f.take 41))) ∧
    (role = 1 → Sets (.syncProbe t) s [] [] fun v => v.u.out = s.u.out ++ [.syncProbe] ∧ v.u.pair.probe = some now) ∧
    (role ≠ 2 → Sets (.syncFrameRx t b) s [] ∧ Sets .syncProbeAnswer s []) ∧
    (role = 2 →
      Sets .syncProbeAnswer s [] [] (fun v => v.u.out = s.u.out ++ [.syncProbe]) ∧
      Gives (.syncWireUnlock t) s [(Reg.TWN_SYNC_STATUS.LOCK, 0)] (fun v => v.u.pair.good = 0 ∧ v.u.pair.lastSeq = none) ∧
      (b.length ≠ 45 → x.bad < 3 → Sets (.syncFrameRx t b) s (s.u.counted Reg.TWN_SYNC_CRC.COUNT Reg.TWN_SYNC_CRC.OVF 1) [] fun v =>
        v.u.pair.bad = x.bad + 1 ∧ v.u.pair.good = 0) ∧
      (b.length ≠ 45 → x.bad = 3 → Gives (.syncFrameRx t b) s [(Reg.TWN_SYNC_STATUS.LOCK, 0)]) ∧
      (GoodSync b →
        let ext := extendSeq x.fseq (b.getD 0 0)
        (x.lastSeq = none → s.u.rd Reg.TWN_SYNC_STATUS.LOCK = 0 → Sets (.syncFrameRx t b) s [(Reg.TWN_SYNC_STATUS.FRAME, ext % 2 ^ 16)] [] fun v =>
          v.u.pair.good = 1 ∧ v.u.pair.bad = 0 ∧ v.u.pair.lastSeq = some (b.getD 0 0) ∧ v.u.pair.fseq = ext) ∧
        (∀ k, x.lastSeq = some k → b.getD 0 0 = (k + 1) % 256 → 15 ≤ x.good → s.u.rd Reg.TWN_SYNC_DELAY.VALID = 1 → Gives (.syncFrameRx t b) s
          [(Reg.TWN_SYNC_STATUS.LOCK, 1), (Reg.TWN_SYNC_STATUS.FRAME, ext % 2 ^ 16)]))) ∧
    (role = 1 → x.probe ≠ none →
      Sets (.syncProbeReturn none) s [] [] (fun v => v.u.pair.probe = none) ∧
      (∀ ns, ns ≤ 400 → Sets (.syncProbeReturn (some ns)) s [(Reg.TWN_SYNC_DELAY.D, (ns - 200) / 2), (Reg.TWN_SYNC_DELAY.VALID, 1)] [] fun v =>
        LastSent v 2 ([5, 0, 0, 0] ++ leBytes 4 ((ns - 200) / 2))) ∧
      (∀ ns, 500 < ns → Sets (.syncProbeReturn (some ns)) s [] [] fun v => v.u.pair.probe = none))

/-! ## Mailbox frames, sessions, status and settings (17_steward_and_sessions.md R417 to R438; 18_persistent_config.md R441 to R450) -/

namespace Sys2Proof.Machine

/-- A frame stands first in the arrival queue of a steward that serves the module's hosts: firmware runs, no recovery, no leader in
front of it (R422, R434, R437). -/
def Heard (s : State) (f : MbFrame) : Prop :=
  s.u.frontFrame = some f ∧ f.transport < 2 ∧ s.u.rd Reg.TWN_PAIR.ROLE ≠ 2 ∧ s.u.rd Reg.SES_STATUS.RECOVERY = 0

/-- The frame heard is a command of the open session for this module, at a level the session has (R420, R428). -/
def Tagged (s : State) (f : MbFrame) (cmd level : Nat) : Prop :=
  Heard s f ∧ f.cmd = cmd ∧ s.u.rd Reg.SES_STATUS.OPEN = 1 ∧ f.tag = s.u.stw.tag ∧ f.tag ≠ 0 ∧ level ≤ s.u.rd Reg.SES_STATUS.LEVEL ∧ f.partner = false

/-- Its mailbox accepts it, and no long command and no power-state entry is running (R421, R422). -/
def Served (s : State) (f : MbFrame) (cmd level : Nat) : Prop :=
  Tagged s f cmd level ∧ s.u.box f.mbox = none ∧ s.u.stw.longs = [] ∧ s.u.pwr.target = 0

/-- A response has been sent where the frame came from (R418, R420). -/
def Replied (s v : State) (f : MbFrame) (status detail : Nat) (data : List Nat) : Prop :=
  v.u.out = s.u.out ++ [.mailbox f.transport f.src (responseBytes f status detail data)] ∧ v.u.stw.arrivals = s.u.stw.arrivals.drop 1

/-- The response of an accepted command has been sent, and its mailbox holds it (R421). -/
def Answered (s v : State) (f : MbFrame) (status detail : Nat) (data : List Nat) : Prop :=
  Replied s v f status detail data ∧ v.u.box f.mbox = some { last := f.seq, response := some (responseBytes f status detail data) }

/-- A command is answered without acceptance: no register and no mailbox changes (R420). -/
def Refuses (c : Instr) (s : State) (f : MbFrame) (status detail : Nat) : Prop :=
  Sets c s [] [] fun v => Replied s v f status detail [] ∧ v.u.stw.boxes = s.u.stw.boxes

/-- No session is open any more, and nothing of it is left. -/
def SessionGone (v : State) : Prop := v.u.stw.tag = 0 ∧ v.u.stw.boxes = [] ∧ v.u.stw.stage = none ∧ v.u.downs = []

/-- A persistent word can be written without reaching a threshold of wear (18_persistent_config.md R444). -/
def Fresh (s : State) (i : Nat) : Prop := s.u.pstWear i < 899999

end Sys2Proof.Machine

/-- R417 to R422, R424 to R430, R434: frames join the arrival queue or are discarded; reserved commands; nonces, opening (with its back-off
after a failure), idling out and closing of a session; PING; and the judgement of tags, levels, roles and mailboxes. -/
def Obligations.Sessions : Prop :=
  ∀ (s : State) (f : MbFrame) (t : Nat),
    let now := max s.u.clock t
    let x := s.u.stw
    let openF := Reg.SES_STATUS.OPEN
    let served := Served s f
    (∀ src lane b,
      (x.running = false → Sets (.mailboxFrameRx 0 src 0 b) s []) ∧
      (Taking s → mailboxOk b = true → Sets (.mailboxFrameRx 0 src 0 b) s [] [] fun v =>
        v.u.stw.arrivals = x.arrivals ++ [mailboxFrame 0 src 0 b]) ∧
      (lane < 8 → bit (s.u.rd Reg.DOCK_STATUS.LANEUP) lane = true → Taking s → mailboxOk b = true → Sets (.mailboxFrameRx 1 src lane b) s [] []
        fun v => v.u.stw.arrivals = x.arrivals ++ [mailboxFrame 1 src lane b]) ∧
      (x.running = true → mailboxOk b = false → Sets (.mailboxFrameRx 0 src 0 b) s (s.u.counted Reg.SES_BADFRAME.COUNT Reg.SES_BADFRAME.OVF 1)) ∧
      (x.running = true → mailboxOk b = true → 32 ≤ x.arrivals.length → Sets (.mailboxFrameRx 0 src 0 b) s
        (s.u.counted Reg.SES_DROP.COUNT Reg.SES_DROP.OVF 1))) ∧
    (Heard s f → cmdCodes.contains f.cmd = false → Refuses .unknownCmd s f 0x0101 0) ∧
    (∀ k, Heard s f → f.cmd = 0x0001 → f.payload = [k, 0, 0, 0] → k ≤ 1 →
      (x.backoff = false ∨ x.backAt + 400000000 ≤ s.u.clock → Sets .sessionHello s [] [] fun v => ∃ nonce, v.u.stw.nonce = some (k, nonce) ∧ nonce.length = 32 ∧
        v.u.stw.nonceAt = s.u.clock ∧ Replied s v f 0 0 (nonce ++ leBytes 4 ownUnit ++ leBytes 2 s.u.census.part.code ++ [0, 0] ++
          leBytes 4 (s.u.rd Reg.SES_FWVER.VERSION))) ∧
      (x.backoff = true → s.u.clock < x.backAt + 400000000 → Refuses .sessionHello s f 0x010C (1000 - (s.u.clock - x.backAt) / 400000))) ∧
    (∀ k mac nonce, Heard s f → f.cmd = 0x0002 → f.payload = [k, 0, 0, 0] ++ mac → mac.length = 32 → k ≤ 1 →
      let opens := s.u.counted Reg.SES_OPENS.COUNT Reg.SES_OPENS.OVF 1
      let session : List (Fld × Nat) := [(openF, 1), (Reg.SES_STATUS.LEVEL, k), (Reg.SES_STATUS.TRANSPORT, f.transport)]
      let begun (v : State) : Prop := v.u.stw.tag ≠ 0 ∧ v.u.stw.tag ≠ x.lastTag ∧ v.u.stw.nonce = none ∧ v.u.stw.heard = s.u.clock ∧
        Replied s v f 0 0 (leBytes 4 v.u.stw.tag ++ [k, 0, 0, 0] ++ leBytes 4 (s.u.pstWord 0x34))
      (x.nonce = none ∨ x.nonceAt + 4000000000 ≤ s.u.clock → Refuses .sessionOpen s f 0x010B 0) ∧
      (x.nonce = some (k, nonce) → s.u.clock < x.nonceAt + 4000000000 → mac = hmacSha256 (s.u.key k) nonce →
        (s.u.rd openF = 0 → Sets .sessionOpen s (session ++ opens) [] fun v => begun v ∧ EmitsNow s v 0xB003 0x01 (k + f.transport * 2)) ∧
        (s.u.rd openF = 1 → Sets .sessionOpen s (session ++ opens ++ s.u.counted Reg.SES_TAKEOVER.COUNT Reg.SES_TAKEOVER.OVF 1)
          [Reg.DOCK_STATUS.STREAM] fun v => begun v ∧ v.u.stw.boxes = [] ∧ v.u.downs = [])) ∧
      (x.nonce = some (k, nonce) → s.u.clock < x.nonceAt + 4000000000 → mac ≠ hmacSha256 (s.u.key k) nonce → Sets .sessionOpen s
        (s.u.counted Reg.SES_AUTHFAIL.COUNT Reg.SES_AUTHFAIL.OVF 1) [] fun v => v.u.stw.nonce = none ∧ v.u.stw.backoff = true ∧
          v.u.stw.backAt = s.u.clock ∧ EmitsNow s v 0xB003 0x03 k ∧ Replied s v f 0x010A 0 [])) ∧
    Sets (.nonceExpire t) s [] [] (fun v => v.u.stw.nonce = if x.nonceAt + 4000000000 ≤ now then none else x.nonce) ∧
    Sets (.authBackoffEnd t) s [] [] (fun v => v.u.stw.backoff = if x.backAt + 400000000 ≤ now then false else x.backoff) ∧
    (s.u.pstWord 0x34 = 0 ∨ now < x.heard + s.u.pstWord 0x34 * 400000000 → Sets (.sessionIdleTimeout t) s []) ∧
    (x.running = true → s.u.pstWord 0x34 ≠ 0 → x.heard + s.u.pstWord 0x34 * 400000000 ≤ now → s.u.rd openF = 1 → Sets (.sessionIdleTimeout t) s
      [(openF, 0), (Reg.SES_STATUS.LEVEL, 0)] [Reg.DOCK_STATUS.STREAM] fun v => SessionGone v ∧ Emits s v 0xB003 [s.u.eventAt now 0xB003 0x02 2]) ∧
    (served 0x0003 0 → f.payload = [] → Sets .sessionClose s [(openF, 0), (Reg.SES_STATUS.LEVEL, 0)] [Reg.DOCK_STATUS.STREAM] fun v =>
      SessionGone v ∧ EmitsNow s v 0xB003 0x02 1 ∧ Replied s v f 0 0 []) ∧
    (served 0x0004 0 → f.payload = [] → Sets .ping s [] [] fun v => Answered s v f 0 0 (leBytes 8 s.u.now) ∧ v.u.stw.heard = s.u.clock) ∧
    (served 0x0004 0 → f.payload ≠ [] → Sets .ping s [] [] fun v => Answered s v f 0x0102 0 []) ∧
    (Heard s f → f.cmd = 0x0004 →
      (f.tag = 0 → Refuses .ping s f 0x0109 0) ∧
      (f.tag ≠ 0 → s.u.rd openF = 0 ∨ f.tag ≠ x.tag → Refuses .ping s f 0x0108 0) ∧
      (f.tag ≠ 0 → s.u.rd openF = 1 → f.tag = x.tag → f.partner = true → s.u.rd Reg.TWN_PAIR.ROLE ≠ 1 → Refuses .ping s f 0x0111 0)) ∧
    (Heard s f → f.cmd = 0x0024 → f.tag ≠ 0 → s.u.rd openF = 1 → f.tag = x.tag → s.u.rd Reg.SES_STATUS.LEVEL = 0 → Refuses .keySet s f 0x0104 0) ∧
    (s.u.frontFrame = some f → f.transport < 2 → s.u.rd Reg.TWN_PAIR.ROLE = 2 → f.cmd = 0x0004 → Refuses .ping s f 0x0110 0) ∧
    (∀ b, Tagged s f 0x0004 0 → s.u.box f.mbox = some b →
      let d := (f.seq + 2 ^ 32 - b.last) % 2 ^ 32
      (∀ r, d = 0 → b.response = some r → Sets .ping s [] [] fun v => v.u.out = s.u.out ++ [.mailbox f.transport f.src r] ∧
        v.u.box f.mbox = some b) ∧
      (d = 0 → b.response = none → Refuses .ping s f 0x0001 0) ∧
      (1 ≤ d → d < 2 ^ 31 → b.response = none → Refuses .ping s f 0x0105 f.mbox) ∧
      (1 ≤ d → d < 2 ^ 31 → b.response ≠ none → s.u.pwr.target = 0 → f.payload = [] → Sets .ping s [] [] fun v =>
        Answered s v f 0 0 (leBytes 8 s.u.now) ∧ (b.last ≤ f.seq → Silent s v) ∧ (f.seq < b.last → EmitsNow s v 0xB003 0x04 f.mbox)) ∧
      (2 ^ 31 ≤ d → Sets .ping s (s.u.counted Reg.SES_BADFRAME.COUNT Reg.SES_BADFRAME.OVF 1) [] fun v =>
        v.u.out = s.u.out ∧ v.u.box f.mbox = some b))

/-- R423, R431, R438, R441 to R444, R447: identity, certificate and status; registers by CONFIG_APPLY and CONFIG_READ; the persistent file, its
keys, permits, wear and fingerprint. -/
def Obligations.StatusAndSettings : Prop :=
  ∀ (s : State) (f : MbFrame),
    let served := Served s f
    let answers (c : Instr) (data : List Nat) : Prop := Sets c s [] [] fun v => Answered s v f 0 0 data
    let fails (c : Instr) (status detail : Nat) : Prop := Sets c s [] [] fun v => Answered s v f status detail []
    let word (a : Nat) : List Nat := leBytes 4 (s.u.peek a)
    let stale := Reg.PST_STATUS.STALE
    (∀ p, p.length = 24 → served 0x0010 0 → f.payload = [] →
      let own := leBytes 4 ownUnit ++ word 0x1A0000 ++ word 0x1A0004 ++ word 0x1A0008 ++ leBytes 4 (s.u.rd Reg.SES_FWVER.VERSION) ++
        leBytes 4 (s.u.rd Reg.TWN_PAIR.ROLE)
      (s.u.rd Reg.TWN_PAIR.ROLE ≠ 1 ∨ s.u.rd Reg.TWN_STATUS.PARTNER = 0 → answers (.identify p) own) ∧
      (s.u.rd Reg.TWN_PAIR.ROLE = 1 → s.u.rd Reg.TWN_STATUS.PARTNER = 1 → answers (.identify p) (own ++ p))) ∧
    (∀ off, served 0x0011 0 → f.payload = leBytes 4 off → off < 2 ^ 32 →
      let total := Config.certSize % 2 ^ 32
      answers .certRead (leBytes 4 total ++ (List.range (min 1024 (total - off))).map fun i => Config.certByte (off + i) % 256)) ∧
    (served 0x0012 0 → f.payload = [] → answers .statusRead ([Reg.RSV_STATUS.STATE, Reg.RSV_HEALTH.DIES, Reg.RSV_FREE.GIB, Reg.RSV_COMMIT_LO.GSEQ,
      Reg.RSV_COMMIT_HI.GSEQ, Reg.WEIR_STATUS.LIMIT, Reg.WEIR_DEPTH.DEPTH, Reg.WEIR_ROOM.KIB, Reg.TIM_STATUS.ACTIVE].flatMap (fun (r : Fld) => word r.addr) ++
        leBytes 8 s.u.fpNow ++ leBytes 4 s.u.genNow ++ leBytes 8 s.u.heldMask)) ∧
    (served 0x0020 0 → s.u.rd Reg.RST_BLOCK.BUSY = 0 →
      (f.payload = leBytes 4 0x190030 ++ leBytes 4 (2 ^ 32 - 1) ++ leBytes 4 (2 ^ 31) → Sets .configApply s
        [(Reg.FAB_LATE.COUNT, 0), (Reg.FAB_LATE.OVF, 0)] [] fun v => Answered s v f 0 0 (leBytes 4 1)) ∧
      (∀ a rest, f.payload = leBytes 4 a ++ rest → a < 0x20000 → rest.length = 8 → fails .configApply 0x010D 0) ∧
      (f.payload = [] → fails .configApply 0x0103 0) ∧ (f.payload.length % 12 ≠ 0 → fails .configApply 0x0102 0)) ∧
    (served 0x0021 0 → s.u.rd Reg.RST_BLOCK.BUSY = 0 →
      (f.payload = leBytes 4 0x190030 → answers .configRead (word 0x190030)) ∧
      (∀ a, f.payload = leBytes 4 a → a < 0x20000 → fails .configRead 0x010D 0) ∧ (f.payload.length % 4 ≠ 0 → fails .configRead 0x0102 0)) ∧
    (∀ first n, served 0x0022 0 → f.payload = leBytes 2 first ++ leBytes 2 n → first < 65536 → n < 65536 →
      (n = 0 ∨ 128 < n → fails .pstRead 0x0103 2) ∧
      (1 ≤ n → n ≤ 128 → 4096 < first + n → fails .pstRead 0x0103 0) ∧
      (1 ≤ n → n ≤ 128 → first + n ≤ 4096 → answers .pstRead
        ((List.range n).flatMap (fun i => leBytes 4 (if first + i < 16 then 0 else s.u.pstWord (first + i))) ++
          (List.range n).flatMap fun i => leBytes 4 (s.u.pstWear (first + i))))) ∧
    (∀ i w, served 0x0023 1 → f.payload = leBytes 2 i ++ leBytes 2 1 ++ leBytes 4 w → i < 4096 → w < 2 ^ 32 →
      (i < 0x34 → fails .pstWrite 0x0103 i) ∧
      (0x100 ≤ i → w = s.u.pstWord i → answers .pstWrite (leBytes 4 0)) ∧
      (0x100 ≤ i → w ≠ s.u.pstWord i → Fresh s i → Sets .pstWrite s [(stale, 1)] [] fun v => Answered s v f 0 0 (leBytes 4 1) ∧
        v.u.pstWord i = w ∧ v.u.pstWear i = s.u.pstWear i + 1 ∧ ∀ j, j ≠ i → v.u.pstWord j = s.u.pstWord j ∧ v.u.pstWear j = s.u.pstWear j) ∧
      (0x100 ≤ i → w ≠ s.u.pstWord i → 1000000 ≤ s.u.pstWear i → fails .pstWrite 0x010E i)) ∧
    (∀ k bytes, served 0x0024 1 → f.payload = [k, 0, 0, 0] ++ bytes → bytes.length = 32 → (∀ b ∈ bytes, b < 256) →
      (k ≤ 1 → (∀ i, i < 16 → Fresh s i) → Sets .keySet s [] [stale] fun v => Answered s v f 0 0 [] ∧ v.u.key k = bytes ∧
        v.u.key (1 - k) = s.u.key (1 - k)) ∧
      (1 < k → fails .keySet 0x0103 0)) ∧
    (∀ c w0 w1 w2, served 0x0025 1 → f.payload = [c, 0, 0, 0] ++ leBytes 4 w0 ++ leBytes 4 w1 ++ leBytes 4 w2 → w0 < 2 ^ 28 → w1 < 2 ^ 29 →
      w2 < 2 ^ 29 →
      (c ≤ 11 → (∀ j, j < 3 → Fresh s (0x10 + 3 * c + j)) → Sets .permitSet s [] [stale] fun v => Answered s v f 0 0 [] ∧
        v.u.pstWord (0x10 + 3 * c) = w0 ∧ v.u.pstWord (0x11 + 3 * c) = w1 ∧ v.u.pstWord (0x12 + 3 * c) = w2 ∧
        (w0 ≠ s.u.pstWord (0x10 + 3 * c) ∨ w1 ≠ s.u.pstWord (0x11 + 3 * c) ∨ w2 ≠ s.u.pstWord (0x12 + 3 * c) → (v.u.canOf c).reload = true)) ∧
      (11 < c → fails .permitSet 0x0103 0)) ∧
    (∀ i w, i < 4096 →
      (Fresh s i → Sets (.pstWordWrite i w) s [(stale, 1)] [] fun v => v.u.pstWord i = w % 2 ^ 32 ∧ v.u.pstWear i = s.u.pstWear i + 1) ∧
      (s.u.pstWear i = 899999 → Sets (.pstWordWrite i w) s [(stale, 1), (Reg.PST_STATUS.ANY_WARN, 1)] [] fun v => EmitsNow s v 0xB002 0x02 i) ∧
      (s.u.pstWear i = 999999 → Sets (.pstWordWrite i w) s [(stale, 1), (Reg.PST_STATUS.ANY_WORN, 1)] [] fun v =>
        v.u.pstWord i = w % 2 ^ 32 ∧ EmitsNow s v 0xB002 0x03 i) ∧
      (1000000 ≤ s.u.pstWear i → Sets (.pstWordWrite i w) s
        ((Reg.PST_STATUS.WORN_WR, 1) :: s.u.counted Reg.PST_WORNWR.COUNT Reg.PST_WORNWR.OVF 1) [] fun v =>
          v.u.pstWord i = s.u.pstWord i ∧ EmitsNow s v 0xB002 0x04 i)) ∧
    (s.u.rd stale = 0 → Sets .fpPublish s []) ∧
    (s.u.rd stale = 1 → s.u.fingerprint = s.u.fpNow → Sets .fpPublish s [(stale, 0)] [] fun v => Silent s v) ∧
    (s.u.rd stale = 1 → s.u.fingerprint ≠ s.u.fpNow → s.u.pst.p < 65535 →
      let gen := (s.u.pstWord 0x36 * 65536 + (s.u.pst.p + 1)) % 2 ^ 32
      s.u.genNow ≤ gen → Sets .fpPublish s [(stale, 0), (Reg.PST_FP_LO.FP, s.u.fingerprint % 2 ^ 32),
        (Reg.PST_FP_HI.FP, s.u.fingerprint / 2 ^ 32 % 2 ^ 32), (Reg.PST_GEN.GEN, gen)] [] fun v => EmitsNow s v 0xB002 0x01 gen)

/-! ## The steward's commands on cores, stores, logs, volumes, downloads, power, twin and firmware (17_steward_and_sessions.md R422, R432, R433,
R435 to R437; 19_twin_mode.md R455, R469, R471; 20_power.md R489; 21_reset.md R501) -/

namespace Sys2Proof.Machine

/-- An accepted long command runs: its mailbox holds no response yet, and nothing has been sent (R421, R422). -/
def Runs (s v : State) (f : MbFrame) (res : List Nat) (token : Option Nat) (vals : List Nat) (peer : Nat) : Prop :=
  v.u.stw.longs = [{ frame := f, res := res, token := token, vals := vals, peer := peer }] ∧
    v.u.box f.mbox = some { last := f.seq, response := none } ∧ v.u.stw.arrivals = s.u.stw.arrivals.drop 1

/-- The open volume, in a reservoir that has started. -/
def OpenVolume (s : State) (vol : Volume) : Prop := 2 ≤ s.u.rd Reg.RSV_STATUS.STATE ∧ s.u.openVol = some vol ∧ s.u.findVol vol.id = some vol

/-- The committed bytes of a volume. -/
def Volume.size (v : Volume) : Nat := (v.groups.map fun (g : Group) => g.bytes.length).sum

end Sys2Proof.Machine

/-- R432, R433, R469: holding and releasing cores, writing their memories, loading control stores; log sessions, seals, annotations,
volumes and downloads, on a module that is not paired. -/
def Obligations.CoreAndLogCommands : Prop :=
  ∀ (s : State) (f : MbFrame), s.u.rd Reg.TWN_PAIR.ROLE = 0 →
    let served := Served s f
    let fails (c : Instr) (status detail : Nat) : Prop := Sets c s [] [] fun v => Answered s v f status detail []
    (∀ k, k < 64 → f.payload = leBytes 8 (2 ^ k) →
      (served 0x0030 0 → s.u.corePresent k = false → fails .coreHold 0x0106 k) ∧
      (served 0x0030 0 → s.u.corePresent k = true → s.u.held_ k = false → k ∉ s.u.gate.holding → (∀ i, i < 17 → (s.u.copOf i).cur ≠ some k) →
        (s.u.cpuOf k).acc = none → (s.u.cpuOf k).sbuf = [] → Gives .coreHold s [(Reg.PST_STATUS.STALE, 1)] fun v => v.u.held_ k = true ∧ v.u.cpuOf k = {} ∧
          EmitsNow s v 0xB001 0x03 k ∧ Answered s v f 0 0 (leBytes 8 v.u.heldMask)) ∧
      (served 0x0031 0 → s.u.corePresent k = true → s.u.held_ k = true → Gives .coreRelease s [(Reg.PST_STATUS.STALE, 1)] fun v =>
        v.u.held_ k = false ∧ v.u.cpu = s.u.cpu ∧ EmitsNow s v 0xB001 0x03 (k + 256) ∧ Answered s v f 0 0 (leBytes 8 v.u.heldMask))) ∧
    (∀ k sp off bs, served 0x0032 0 → f.payload = [k, sp, 0, 0] ++ leBytes 4 off ++ bs → k < 64 → s.u.corePresent k = true → sp ≤ 1 → bs ≠ [] →
      bs.length % 4 = 0 → bs.length ≤ 1024 → off % 4 = 0 →
      (s.u.held_ k = false → fails .progWrite 0x0107 0) ∧
      (s.u.held_ k = true → off + bs.length ≤ (if sp = 1 then 65536 else 131072) → Completes .progWrite s fun v =>
        Stored s v ((if sp = 1 then instrRam k else dataRam k) + off) bs ∧ RegsKept s.u v.u [] ∧ Answered s v f 0 0 [])) ∧
    (∀ n, n < 8 →
      let st := Reg.BSN_WCS_STATUS.STATE n
      let x := s.u.wcsOf n
      (served 0x0033 0 → f.payload = [n, 0, 0, 0] → s.u.basinPresent n = false → fails .wcsOpen 0x0106 n) ∧
      (served 0x0033 0 → f.payload = [n, 0, 0, 0] → s.u.basinPresent n = true → s.u.rd st ≠ 3 →
        Sets .wcsOpen s [(st, if s.u.wcsIdle n then 1 else 3)] [Reg.BSN_WCS_STATUS.CFG_CODE n, Reg.BSN_WCS_STATUS.FAULT_IDX n,
          Reg.BSN_WCS_STATUS.ENTRIES n, Reg.PST_STATUS.STALE] fun v => Runs s v f [2, n] none [] 0 ∧ (s.u.wcsIdle n = true → v.u.wcsOf n = {})) ∧
      (∀ i w w1 w2, served 0x0034 0 → f.payload = [n, 0, i, 1] ++ leBytes 4 w ++ leBytes 4 w1 ++ leBytes 4 w2 → i < 256 → s.u.basinPresent n = true →
        (s.u.rd st = 1 → Sets .wcsWrite s [] [Reg.BSN_WCS_ADDR.SPACE n, Reg.BSN_WCS_ADDR.INDEX n, Reg.BSN_WCS_ADDR.AUTOINC n, Reg.BSN_WCS_DATA0.WORD n]
          fun v => Answered s v f 0 0 [] ∧ (v.u.wcsOf n).word i = w % 2 ^ 23 ∧ ∀ j, j ≠ i → (v.u.wcsOf n).word j = x.word j) ∧
        (s.u.rd st ≠ 1 → fails .wcsWrite 0x0107 0)) ∧
      (served 0x0035 0 → f.payload = [n, 0, 0, 0] → s.u.basinPresent n = true →
        (s.u.rd st = 1 → x.check.1 = 0 → Sets .wcsCommit s [(st, 2), (Reg.BSN_WCS_STATUS.CFG_CODE n, 0),
          (Reg.BSN_WCS_STATUS.ENTRIES n, ((List.range 256).filter x.isEntry).length)] [Reg.BSN_WCS_STATUS.FAULT_IDX n, Reg.PST_STATUS.STALE] fun v =>
            Answered s v f 0 0 (leBytes 4 (v.u.peek st.addr))) ∧
        (s.u.rd st = 1 → x.check.1 ≠ 0 → Sets .wcsCommit s [(st, 1), (Reg.BSN_WCS_STATUS.CFG_CODE n, x.check.1 % 16),
          (Reg.BSN_WCS_STATUS.FAULT_IDX n, x.check.2 % 256)] [] fun v => Answered s v f 0 0 (leBytes 4 (v.u.peek st.addr))) ∧
        (s.u.rd st ≠ 1 → fails .wcsCommit 0x0107 0))) ∧
    (∀ vol, OpenVolume s vol →
      let res := 1 :: vol.id
      let lsess := Reg.RSV_LSESS.LSESS
      let sealTok : Option Nat := if vol.first < vol.next then some (s.u.rsv.lastTok + 1) else none
      (served 0x0040 0 → f.payload = [] → s.u.lsess = 0 → Sets .logStart s [(lsess, (vol.sessions + 1) % 2 ^ 32)] [] fun v =>
        Runs s v f res none [vol.sessions + 1] 0 ∧ v.u.findVol vol.id = some { vol with sessions := vol.sessions + 1, begun := true }) ∧
      (served 0x0040 0 → f.payload = [] → s.u.lsess ≠ 0 → fails .logStart 0x0107 0) ∧
      (served 0x0041 0 → f.payload = [] → s.u.lsess ≠ 0 → s.u.rsv.index = [] → Gives .logStop s [(lsess, 0)] fun v =>
        ∃ w, Runs s v f res sealTok [s.u.lsess, w] 0) ∧
      (served 0x0041 0 → f.payload = [] → s.u.lsess = 0 → fails .logStop 0x0107 0) ∧
      (served 0x0042 0 → f.payload = [] → Gives .sealNow s [(lsess, s.u.lsess)] fun v => ∃ w w', Runs s v f res sealTok [w, w'] 0) ∧
      (∀ kind text, served 0x0043 0 → f.payload = leBytes 2 kind ++ leBytes 2 text.length ++ text → kind < 4 → text.length ≤ 1024 →
        TakesGroup s vol → Sets .annotate s (gseqIs Reg.RSV_ADMIT_LO.GSEQ Reg.RSV_ADMIT_HI.GSEQ vol.next) [Reg.RSV_POOL.MIB] fun v =>
          Runs s v f res (some (s.u.rsv.lastTok + 1)) [] 0 ∧ ∃ a, v.u.rsv.adm = s.u.rsv.adm ++ [a] ∧ a.group.rcount = 1 ∧ a.group.gseq = vol.next) ∧
      (served 0x0051 0 → f.payload = [] → fails .volCreate 0x0107 0) ∧
      (served 0x0052 0 → f.payload = [] → s.u.lsess ≠ 0 → fails .volClose 0x0107 0) ∧
      (served 0x0052 0 → f.payload = [] → s.u.lsess = 0 → Sets .volClose s [] rsvRegs fun v => Answered s v f 0 0 [] ∧
        v.u.findVol vol.id = some { vol with isOpen := false } ∧ v.u.chain = {})) ∧
    (served 0x0042 0 → f.payload = [] → s.u.openVol = none → fails .sealNow 0x0107 0) ∧
    (served 0x0051 0 → f.payload = [] → 2 ≤ s.u.rd Reg.RSV_STATUS.STATE → s.u.openVol = none → Sets .volCreate s
      (gseqIs Reg.RSV_COMMIT_LO.GSEQ Reg.RSV_COMMIT_HI.GSEQ (2 ^ 64 - 1) ++ gseqIs Reg.RSV_ADMIT_LO.GSEQ Reg.RSV_ADMIT_HI.GSEQ (2 ^ 64 - 1)) rsvRegs
      fun v => ∃ vol, v.u.openVol = some vol ∧ vol.groups = [] ∧ vol.next = 0 ∧ vol.hash = chainAnchor vol.id ∧ vol.id.length = 16 ∧
        Answered s v f 0 0 vol.id) ∧
    (∀ partner start, served 0x0050 0 → (partner.all fun (e : List Nat) => e.length == 48) = true → f.payload = leBytes 2 start → start < 65536 →
      Sets (.volList partner) s [] [] fun v => ∃ free, Answered s v f 0 0
        (leBytes 2 s.u.rsv.vols.length ++ (((s.u.rsv.vols.map (Volume.listed free)).drop start).take 24).flatten)) ∧
    (∀ id, served 0x0053 1 → f.payload = id → id.length = 16 →
      (s.u.findVol id = none → fails .volDelete 0x0103 0) ∧
      (∀ vol, s.u.findVol id = some vol → vol.isOpen = true → fails .volDelete 0x0107 0) ∧
      (∀ vol, s.u.findVol id = some vol → vol.isOpen = false → Sets .volDelete s [] (Reg.DOCK_STATUS.STREAM :: rsvRegs) fun v =>
        Runs s v f (1 :: id) none [] 0 ∧ (∀ w ∈ v.u.rsv.vols, w.id = id → w.isOpen = true) ∧
          ∀ w, w.id ≠ id → (w ∈ v.u.rsv.vols ↔ w ∈ s.u.rsv.vols))) ∧
    (∀ id off n port, served 0x0054 0 → f.payload = id ++ leBytes 8 off ++ leBytes 8 n ++ leBytes 2 port ++ [1, 0] → id.length = 16 → off < 2 ^ 64 →
      n < 2 ^ 64 → port < 65536 →
      (s.u.findVol id = none → fails .downloadStart 0x0103 0) ∧
      (∀ vol, s.u.findVol id = some vol → off ≤ vol.size → vol.size < off + n → fails .downloadStart 0x0103 24) ∧
      (∀ vol, s.u.findVol id = some vol → off + n ≤ vol.size → 0 < n → s.u.downs = [] → Sets .downloadStart s [] [Reg.DOCK_STATUS.STREAM] fun v =>
        Answered s v f 0 0 (leBytes 2 s.u.stw.nextStream ++ [0, 0]) ∧ ∃ d x, v.u.downs = [d] ∧ d.num = s.u.stw.nextStream ∧ d.vol = id ∧ d.off = off ∧
          d.dport = port ∧ d.path = 1 ∧ d.lanes = [x] ∧ x.lane = 0 ∧ x.host = f.src ∧ (x.todo.map fun r => r.2 - r.1).sum = n)) ∧
    (∀ n, served 0x0055 0 → f.payload = leBytes 2 n → n < 65536 →
      ((∀ d ∈ s.u.downs, d.num ≠ n) → fails .downloadStop 0x0103 0) ∧
      (∀ d, s.u.downs = [d] → d.num = n → Sets .downloadStop s [] [Reg.DOCK_STATUS.STREAM] fun v => v.u.downs = [] ∧ Answered s v f 0 0 []))

/-- R422, R435 to R437, R455, R471, R489, R501: power states and module resets, joining and leaving a pair, firmware images and their trial, and the
completion of long commands. -/
def Obligations.ModuleCommands : Prop :=
  ∀ (s : State) (f : MbFrame),
    let served := Served s f
    let x := s.u.stw
    let role := s.u.rd Reg.TWN_PAIR.ROLE
    let fails (c : Instr) (status detail : Nat) : Prop := Sets c s [] [] fun v => Answered s v f status detail []
    (∀ st alarm, served 0x0060 0 → f.payload = [st, 0, 0, 0] ++ leBytes 4 alarm → alarm < 2 ^ 32 →
      (st < 2 ∨ 4 < st → fails .powerState 0x0103 0) ∧
      (2 ≤ st → st ≤ 4 → alarm = 0 → s.u.lsess ≠ 0 ∨ s.u.downs ≠ [] ∨ role ≠ 0 ∨ s.u.rd Reg.WEIR_STATUS.DIP = 1 ∨ s.u.pwr.flush ≠ 0 →
        fails .powerState 0x0107 0) ∧
      (2 ≤ st → st ≤ 4 → alarm = 0 ∨ (st ≠ 4 ∧ s.u.rtcNow / 32768 < alarm) → s.u.lsess = 0 → s.u.downs = [] → role = 0 →
        s.u.rd Reg.WEIR_STATUS.DIP = 0 → s.u.pwr.flush = 0 → s.u.aoLoad ≤ 2000 → Completes .powerState s fun v =>
          v.u.rd Reg.PWR_STATUS.STATE = 2 ∧ v.u.rd Reg.TIM_RTC_ALARM.SEC = (if alarm = 0 then s.u.rd Reg.TIM_RTC_ALARM.SEC else alarm) ∧
            v.u.pwr.target = st ∧ v.u.pwr.stage = 1 ∧ v.u.pwr.acqOff = true ∧ Answered s v f 0 0 [] ∧ v.pending = s.pending)) ∧
    (served 0x0061 1 → f.payload = [] →
      let sent (v : State) : Prop := v.u.out = s.u.out ++ [.mailbox f.transport f.src (responseBytes f 0 0 [])]
      (s.u.lsess ≠ 0 → fails .moduleReset 0x0107 0) ∧
      (s.u.lsess = 0 → s.u.pwr.flush = 0 → s.u.pwr.drain = none → s.u.pwr.down = 0 →
        (s.u.rd Reg.RSV_STATUS.STATE ≤ 1 → Completes .moduleReset s fun v => sent v ∧ v.u.rd Reg.RST_CAUSE.CAUSE = 5 ∧
          v.u.rd Reg.RST_CAUSE.PREV = s.u.rd Reg.RST_CAUSE.CAUSE % 16 ∧ v.u.rd Reg.RST_STATUS.STEP = 3 ∧ v.u.stw.running = false ∧
            v.u.rsv.vols = s.u.rsv.vols ∧ v.pending = s.pending) ∧
        (2 ≤ s.u.rd Reg.RSV_STATUS.STATE → Completes .moduleReset s fun v => sent v ∧ v.u.pwr.drain = some 5 ∧ v.u.weir.closed = true ∧
          v.u.gate.coresOff = true ∧ v.u.pwr.acqOff = true ∧ v.u.stw.running = false ∧ v.pending = s.pending))) ∧
    (∀ h mask, served 0x0070 0 → s.u.twl.hello = some h → h.1 < 2 ^ 32 → f.payload = leBytes 4 h.1 ++ [mask, 0, 0, 0] → mask < 16 →
      (s.u.rd Reg.TWN_STATUS.PARTNER = 0 → fails .twinJoin 0x0111 0) ∧
      (s.u.rd Reg.TWN_STATUS.PARTNER = 1 → role = 0 → h.2.1 = s.u.census.part.code → Sets .twinJoin s [] [] fun v =>
        Runs s v f [5] none [] 1 ∧ v.u.pair.asked = some mask ∧
          LastSent v 2 ([1, 0, 0, 0] ++ (leBytes 4 ownUnit ++ leBytes 4 s.u.lsess ++ [mask, s.u.cycMask mask, 0, 0])))) ∧
    (served 0x0071 0 → f.payload = [] →
      (role = 0 → fails .twinLeave 0x0107 0) ∧
      (role = 1 → s.u.rd Reg.TWN_STATUS.PARTNER = 1 → Sets .twinLeave s [(Reg.TWN_PAIR.ROLE, 0), (Reg.TWN_PAIR.ATTACHED, 0), (Reg.TWN_PAIR.ENGMASK, 0),
        (Reg.TWN_PAIR.WAIT, 0), (Reg.TWN_PARTNER_UNIT.UNIT, 0), (Reg.TWN_SYNC_STATUS.LOCK, 0), (Reg.TWN_SYNC_STATUS.DRIVE, 0)] [] fun v =>
          Runs s v f [5] none [] 1 ∧ LastSent v 2 [7, 0, 0, 0] ∧ EmitsNow s v 0xB004 0x04 1)) ∧
    (∀ n, served 0x0080 1 → f.payload = leBytes 4 n → n < 2 ^ 32 →
      (n < 129 ∨ 4194304 < n → fails .fwBegin 0x0103 0) ∧
      (129 ≤ n → n ≤ 4194304 → s.u.lsess ≠ 0 → fails .fwBegin 0x0107 0) ∧
      (129 ≤ n → n ≤ 4194304 → s.u.lsess = 0 → Sets .fwBegin s [] [] fun v => Runs s v f [3] none [] 0 ∧ v.u.stw.stage = some { size := n } ∧
        v.u.stw.pending ≠ some (1 - s.u.rd Reg.SES_STATUS.SLOT) ∧ v.u.stw.active = x.active)) ∧
    (∀ off bytes, served 0x0081 1 → f.payload = leBytes 4 off ++ bytes → off < 2 ^ 32 → off % 4 = 0 → bytes ≠ [] → bytes.length % 4 = 0 →
      bytes.length ≤ 1024 →
      (x.stage = none → fails .fwData 0x0107 0) ∧
      (∀ g, x.stage = some g → off ≤ g.size → g.size < off + bytes.length → fails .fwData 0x0103 4) ∧
      (∀ g, x.stage = some g → off + bytes.length ≤ g.size → Sets .fwData s [] [] fun v => Answered s v f 0 0 [] ∧ ∃ h, v.u.stw.stage = some h ∧
        h.size = g.size ∧ (∀ i, i < bytes.length → SMap.get none h.bytes (off + i) = some (bytes.getD i 0)) ∧
          ∀ j, j < off ∨ off + bytes.length ≤ j → SMap.get none h.bytes j = SMap.get none g.bytes j)) ∧
    (∀ g reboot, served 0x0082 1 → f.payload = [reboot, 0, 0, 0] → reboot ≤ 1 → s.u.lsess = 0 →
      (x.stage = none → fails .fwCommit 0x0107 0) ∧
      (x.stage = some g → ∀ i, i < g.size → SMap.get none g.bytes i = none → fails .fwCommit 0x0112 1) ∧
      (x.stage = some g → Sets .fwCommit s [] [] fun v =>
        let n (off : Nat) : Nat := leNat ((List.range 4).map fun i => (SMap.get none g.bytes (off + i)).getD 0)
        let i := 1 - s.u.rd Reg.SES_STATUS.SLOT
        (∀ c, firstOf (s.u.fwCheck g) = some c → Answered s v f c.1 c.2 [] ∧ v.u.stw.pending = x.pending ∧ v.u.stw.stage = x.stage) ∧
        (firstOf (s.u.fwCheck g) = none → Runs s v f [3] none [n 8, reboot] 0 ∧ v.u.stw.pending = some i ∧ v.u.stw.stage = none ∧
          v.u.fwSlot i = { version := n 8, rollback := n 12 } ∧ EmitsNow s v 0xB003 0x05 (n 8)))) ∧
    (served 0x0083 0 → f.payload = [] → Sets .fwStatus s [] [] fun v => Answered s v f 0 0 (leBytes 4 (s.u.peek Reg.SES_STATUS.OPEN.addr) ++
      leBytes 4 (s.u.fwSlot 0).version ++ leBytes 4 (s.u.fwSlot 0).rollback ++ leBytes 4 (s.u.fwSlot 1).version ++ leBytes 4 (s.u.fwSlot 1).rollback ++
        leBytes 4 (s.u.pstWord 0x35))) ∧
    (∀ t,
      let i := s.u.rd Reg.SES_STATUS.SLOT
      let r := (s.u.fwSlot i).rollback
      (x.running = false ∨ x.trial = false ∨ max s.u.clock t < x.bootAt + 12000000000 → Sets (.fwTrialConfirm t) s []) ∧
      (x.running = true → x.trial = true → x.bootAt + 12000000000 ≤ max s.u.clock t → Fresh s 0x35 → Sets (.fwTrialConfirm t) s
        [(Reg.SES_STATUS.TRIAL, 0)] [Reg.PST_STATUS.STALE] fun v => v.u.stw.active = i ∧ v.u.stw.pending = none ∧ v.u.stw.trial = false ∧
          v.u.pstWord 0x35 = if s.u.pstWord 0x35 < r then r % 2 ^ 32 else s.u.pstWord 0x35)) ∧
    (∀ l, x.running = true → x.longs = [l] → l.peer = 0 → l.frame.transport < 2 →
      let ends (status : Nat) (data : List Nat) : Prop := Sets (.longCmdComplete 0) s [] [] fun v => v.u.stw.longs = [] ∧
        v.u.out = s.u.out ++ [.mailbox l.frame.transport l.frame.src (responseBytes l.frame status 0 data)] ∧
        v.u.box l.frame.mbox = some { last := l.frame.seq, response := some (responseBytes l.frame status 0 data) }
      (l.orphan = true → l.frame.cmd = 0x0040 → Sets (.longCmdComplete 0) s [] [] fun v => v.u.stw.longs = [] ∧ v.u.out = s.u.out ∧
        v.u.stw.boxes = x.boxes) ∧
      (l.orphan = false →
        (l.frame.cmd = 0x0033 → s.u.wcsState (l.frame.payload.getD 0 0) = 1 → ends 0 []) ∧
        (l.frame.cmd = 0x0033 → s.u.wcsState (l.frame.payload.getD 0 0) = 3 → Sets (.longCmdComplete 0) s []) ∧
        (∀ n, l.frame.cmd = 0x0040 → l.vals = [n] → ends 0 (leBytes 4 n)) ∧
        (∀ n g t w, l.frame.cmd = 0x0041 → l.token = some t → l.vals = [n, w] → t ≤ s.u.rsv.doneTok → s.u.rsv.done = [(t, g)] →
          ends 0 (leBytes 4 n ++ leBytes 8 (g - 1))) ∧
        (∀ g t, l.frame.cmd = 0x0043 → l.token = some t → t ≤ s.u.rsv.doneTok → s.u.rsv.done = [(t, g)] → ends 0 (leBytes 8 g)) ∧
        (∀ t, l.frame.cmd = 0x0043 → l.token = some t → s.u.rsv.doneTok < t → Sets (.longCmdComplete 0) s []) ∧
        (l.frame.cmd = 0x0053 ∨ l.frame.cmd = 0x0080 → ends 0 []))) ∧
    (x.longs = [] → Sets (.longCmdComplete 0) s [])

/-! ## Power states, thermal limits, resets and start-up (20_power.md R477 to R499; 21_reset.md R500 to R511; 22_connectors_electrical.md R528 to
R533; 17_steward_and_sessions.md R437) -/

namespace Sys2Proof.Machine

/-- Step 2 of an entry is over: rings 0 to 6 are OFF or IDLE, no descriptor is held, and the reservoir has nothing open or waiting (R490). -/
def Drained (s : State) : Prop :=
  (∀ n, n < 7 → s.u.ringState n ≤ 1) ∧ s.u.held = 0 ∧ (s.u.rd Reg.RSV_STATUS.STATE = 2 ∨ s.u.rd Reg.RSV_STATUS.STATE = 3) ∧
    s.u.rd Reg.RSV_STATUS.REBUILD = 0 ∧ s.u.rsv.fill = 0 ∧ s.u.rsv.stripe ≤ s.u.rsv.durable

/-- Nothing keeps basin n from stopping (R491). -/
def BasinQuiet (s : State) (n : Nat) : Prop :=
  (∀ c, c < 8 → s.u.coreRetain (8 * n + c) = true) ∧ (∀ c, c < 8 → s.u.slLive (8 * n + c) = false) ∧ s.u.wcsState n ≠ 3 ∧
    s.u.rd (Reg.BSN_JET_STATUS.BUSY n) = 0 ∧ s.u.rd (Reg.BSN_PK_STATUS.BUSY n) = 0

/-- The entry in progress has been refused with a code, a basin and an index, and the module runs on (R493). -/
def EntryRefused (c : Instr) (s : State) (code basin index : Nat) : Prop :=
  Gives c s ([(Reg.PWR_REFUSER.CODE, code), (Reg.PWR_REFUSER.BASIN, basin), (Reg.PWR_REFUSER.INDEX, index), (Reg.PWR_REFUSER.TARGET, s.u.pwr.target),
    (Reg.PWR_STATUS.STATE, 0)] ++ s.u.counted Reg.PWR_REFUSED.COUNT Reg.PWR_REFUSED.OVF 1) fun v => v.u.pwr.target = 0 ∧ v.u.pwr.stage = 0 ∧
      v.u.pwr.acqOff = false ∧ Emits s v 0xB000 [v.u.eventAt s.u.clock 0xB000 0x06 (code + basin * 2 ^ 4 + index * 2 ^ 8 + s.u.pwr.target * 2 ^ 16)]

/-- The ceiling every basin publishes is the lower of the load code and its own (R479, R531). -/
def CeilingsAre (s v : State) (lcode : Nat) : Prop :=
  ∀ n ∈ s.u.basins, v.u.rd (Reg.BSN_VSTATUS.CEIL n) = min lcode (SMap.get 100 v.u.pwr.tcode n)

/-- The last wake as PWR_LASTWAKE reports it. -/
def WokenBy (src idx replay from_ : Nat) : List (Fld × Nat) :=
  [(Reg.PWR_LASTWAKE.SRC, src), (Reg.PWR_LASTWAKE.INDEX, idx), (Reg.PWR_LASTWAKE.REPLAY, replay), (Reg.PWR_LASTWAKE.FROM, from_)]

/-- The release of a start can go on: the module is awake, with no flush and no drain. -/
def Starting (s : State) (step : Nat) : Prop := s.u.rd Reg.RST_STATUS.STEP = step ∧ s.u.pwr.down = 0 ∧ s.u.pwr.flush = 0 ∧ s.u.pwr.drain = none

end Sys2Proof.Machine

/-- R477 to R482, R489 to R496: samples of the power stage, ignition, the charger and its tests; the drain, the basins and the end of an entry to a
power state, and its refusals; wakes; brown-out. -/
def Obligations.PowerStates : Prop :=
  ∀ (s : State),
    let p := s.u.pwr
    let ign := Reg.PWR_STATUS.IGN
    let limitF := Reg.PWR_STATUS.LIMIT
    let lcode := s.u.rd Reg.PWR_THERM_CEIL.LCODE
    let ev (v : State) (kind pay : Nat) := EmitsNow s v 0xB000 kind pay
    (∀ mv load vres mw, mv < 65536 → load < 65536 → vres < 65536 → mw < 65536 →
      let sample (low : Nat) : List (Fld × Nat) := [(Reg.PWR_INPUT.MV, mv), (Reg.PWR_INPUT.LOAD, load), (Reg.WEIR_VRES.MV, vres), (Reg.PWR_CHG.MW, mw),
        (Reg.PWR_STATUS.LOWIN, low)]
      (p.down ≠ 0 → ∀ r, Sets (.powerSample mv load vres mw r) s []) ∧
      (p.down = 0 → 9500 < mv → p.cut = 0 → lcode = 100 → s.u.rd limitF = 0 → CeilingsAre s s 100 →
        (load ≤ 9600 → Sets (.powerSample mv load vres mw false) s (sample 0) [] fun v => v.u.pwr.cut = 0 ∧ Silent s v) ∧
        (9600 < load → Sets (.powerSample mv load vres mw false) s (sample 0 ++ [(limitF, 1)]) [] fun v =>
          v.u.pwr.cut = min 3000 (load * 10 - 96000) ∧ ev v 0x03 mv)) ∧
      (p.down = 0 → 9500 < mv → p.cut = 3000 → 1 ≤ lcode → lcode ≤ 100 → s.u.rd limitF = 1 → 9600 < load →
        Gives (.powerSample mv load vres mw false) s (sample 0 ++ [(limitF, 1), (Reg.PWR_THERM_CEIL.LCODE, lcode - 1)]) fun v =>
          CeilingsAre s v (lcode - 1)) ∧
      (p.down = 0 → 9500 < mv → p.cut = 3000 → lcode < 100 → s.u.rd limitF = 1 → load + 300 ≤ 9600 → p.calm = 9 →
        Gives (.powerSample mv load vres mw false) s (sample 0 ++ [(Reg.PWR_THERM_CEIL.LCODE, lcode + 1)]) fun v =>
          CeilingsAre s v (lcode + 1) ∧ v.u.pwr.cut = 3000) ∧
      (p.down = 0 → 3000 ≤ mv → mv < 9000 → Gives (.powerSample mv load vres mw false) s (sample 1)) ∧
      (∀ r, p.down = 0 → mv < 3000 ∨ r = true → p.flush = 0 → p.target = 0 → p.drain = none → Completes (.powerSample mv load vres mw r) s fun v =>
        v.u.pwr.flush = 1 ∧ v.u.rd Reg.PWR_INPUT.MV = mv ∧ v.u.rd Reg.PWR_STATUS.STATE = 3 ∧ v.pending = s.pending)) ∧
    (∀ on, s.u.rd ign = b2n on → Sets (.ignChange on) s []) ∧
    (s.u.rd ign = 1 → Sets (.ignChange false) s [(ign, 0)] [] fun v => ev v 0x02 0) ∧
    (s.u.rd ign = 0 → p.down = 0 → p.target = 0 → Sets (.ignChange true) s [(ign, 1)] [] fun v => ev v 0x01 0) ∧
    (s.u.rd ign = 0 → p.target ≠ 0 → p.latched = none → Sets (.ignChange true) s [(ign, 1)] [] fun v => ev v 0x01 0 ∧ v.u.pwr.latched = some (1, 0)) ∧
    (∀ vres mf, vres < 65536 → mf < 65536 →
      let phase : List (Fld × Nat) := [(Reg.WEIR_VRES.MV, vres), (Reg.PWR_CHG.MODE, if vres < 3000 then 1 else if vres < 16000 then 2 else 3)]
      let test : List (Fld × Nat) := [(Reg.WEIR_VRES.MF, mf)]
      let low : List (Fld × Nat) := [(Reg.PWR_STATUS.RES_LOW, 1)]
      (p.down = 0 → Sets (.chargerPhaseChange vres none) s phase ∧
        (800 ≤ mf → Sets (.chargerPhaseChange vres (some mf)) s (phase ++ test)) ∧
        (mf < 800 → Sets (.chargerPhaseChange vres (some mf)) s (phase ++ test ++ low) [] fun v => ev v 0x05 mf)) ∧
      (p.down ≠ 0 → Sets (.chargerPhaseChange vres none) s []) ∧
      (s.u.rd Reg.PWR_CHG.MODE = 3 → s.u.rd Reg.WEIR_STATUS.DIP = 0 →
        (800 ≤ mf → Sets (.capTest mf) s test [] fun v => Silent s v) ∧ (mf < 800 → Sets (.capTest mf) s (test ++ low) [] fun v => ev v 0x05 mf)) ∧
      (s.u.rd Reg.PWR_CHG.MODE ≠ 3 ∨ s.u.rd Reg.WEIR_STATUS.DIP = 1 → Sets (.capTest mf) s [])) ∧
    (let state (n : Nat) := Reg.BSN_PWR_STATUS.STATE n
     (p.stage = 1 → Drained s → s.u.basinPresent 0 = true → Sets .powerEntryDrained s [(state 0, 2)] [] fun v => v.u.pwr.stage = 2 ∧ v.u.pwr.next = 0) ∧
     (p.stage ≠ 1 ∨ s.u.rsv.fill ≠ 0 → Sets .powerEntryDrained s []) ∧
     (p.stage ≠ 1 ∨ Drained s → Sets .powerPrepTimeout s []) ∧
     (p.stage = 1 → p.target < 8 → (∀ n, n < 7 → s.u.ringState n ≤ 1) → s.u.held = 0 → s.u.rsv.fill ≠ 0 → EntryRefused .powerPrepTimeout s 5 0 0) ∧
     (∀ n, p.stage = 1 → p.target < 8 → n < 7 → (∀ m, m < n → s.u.ringState m ≤ 1) → 1 < s.u.ringState n → EntryRefused .powerPrepTimeout s 4 0 n) ∧
     (∀ n, p.stage = 2 → p.next = n → n < 8 → BasinQuiet s n →
       (n < 7 → s.u.basinPresent (n + 1) = true → Sets .basinStop s [(state n, 3), (state (n + 1), 2)] [] fun v => v.u.pwr.next = n + 1) ∧
       ((∀ m, n < m → m < 8 → s.u.basinPresent m = false) → Sets .basinStop s [(state n, 3)] [] fun v => v.u.pwr.next = 8) ∧
       Sets .basinStopTimeout s []) ∧
     (∀ n c, p.stage = 2 → p.next = n → n < 8 → p.target < 8 → c < 8 → (∀ d, d < c → s.u.coreRetain (8 * n + d) = true) →
       s.u.coreRetain (8 * n + c) = false → Sets .basinStop s [] ∧ EntryRefused .basinStopTimeout s 1 n c) ∧
     (p.stage ≠ 2 → Sets .basinStop s [] ∧ Sets .basinStopTimeout s [] ∧ Sets .powerEntryComplete s [])) ∧
    (p.stage = 2 → 8 ≤ p.next → 2 ≤ p.target → p.target ≤ 4 → p.latched = none → Gives .powerEntryComplete s [] fun v =>
      v.u.pwr.down = p.target ∧ v.u.pwr.target = 0 ∧ v.u.pwr.stage = 0 ∧ v.u.pwr.sleptAt = s.u.clock ∧ v.u.pwr.lastOff = (if p.target = 4 then 1 else 0) ∧
        v.u.pwr.frontOff = true ∧ v.u.gate.coresOff = true ∧ v.u.gate.stwOff = true ∧ v.u.stw.running = false ∧
        (∀ d, 1 ≤ d → d ≤ 24 → v.u.rd (Reg.XNG_DOMd.STATE d) = sleepState p.target d 0) ∧
        (p.target = 2 → v.u.stw.tag = s.u.stw.tag) ∧ (p.target ≠ 2 → s.u.rd Reg.SES_STATUS.OPEN = 1 → v.u.rd Reg.SES_STATUS.OPEN = 0) ∧
        (p.target = 4 → v.u.rd Reg.TIM_STATUS.RTC_VALID = 0)) ∧
    (∀ src idx, 1 ≤ src → src ≤ 3 → idx < 16 →
      let wakes := s.u.counted Reg.PWR_WAKES.COUNT Reg.PWR_WAKES.OVF 1
      (p.stage = 2 → 8 ≤ p.next → p.target = 2 → p.latched = some (src, idx) → Gives .powerEntryComplete s
        (WokenBy src idx 1 2 ++ wakes ++ s.u.counted Reg.PWR_REPLAYS.COUNT Reg.PWR_REPLAYS.OVF 1 ++ [(Reg.PWR_STATUS.STATE, 0)]) fun v =>
          v.u.pwr.down = 0 ∧ v.u.stw.running = true) ∧
      (p.target ≠ 0 → p.latched = none → Sets (.wake src idx) s [] [] fun v => v.u.pwr.latched = some (src, idx)) ∧
      (p.target ≠ 0 → p.latched ≠ none → Sets (.wake src idx) s []) ∧
      (p.target = 0 → p.down = 0 ∨ p.down = 5 ∨ (p.down = 4 ∧ src = 3) → Sets (.wake src idx) s []) ∧
      (p.target = 0 → p.down = 2 → Gives (.wake src idx) s (WokenBy src idx 0 2 ++ wakes ++ [(Reg.PWR_STATUS.STATE, 0)]) fun v =>
        v.u.pwr.down = 0 ∧ v.u.stw.running = true ∧ v.u.gate.coresOff = false ∧ v.u.gate.stwOff = false ∧ v.u.pwr.acqOff = false ∧ v.u.switch.macs = [] ∧
          v.u.stw.heard = s.u.stw.heard + (s.u.clock - p.sleptAt) ∧
            Emits s v 0xB000 [v.u.eventAt s.u.clock 0xB000 0x07 (src + idx * 2 ^ 8 + 2 * 2 ^ 16)]) ∧
      (p.target = 0 → p.down = 3 → Completes (.wake src idx) s fun v => (∀ q ∈ WokenBy src idx 0 3, v.u.rd q.1 = q.2) ∧ v.u.pwr.down = 0 ∧
        v.u.rd Reg.RST_CAUSE.CAUSE = 2 ∧ v.u.rd Reg.RST_STATUS.STEP = 1 ∧ v.u.rsv.vols = s.u.rsv.vols ∧ v.pending = s.pending ∧
          ∀ b, isCoreRam b = true → v.byte b = s.byte b) ∧
      (p.target = 0 → p.down = 4 → src ≤ 2 → Completes (.wake src idx) s fun v => (∀ q ∈ WokenBy src idx 0 4, v.u.rd q.1 = q.2) ∧ v.u.pwr.down = 0 ∧
        v.u.rd Reg.RST_CAUSE.CAUSE = 1 ∧ v.u.rd Reg.RST_STATUS.STEP = 0 ∧ v.u.rd Reg.PWR_LASTOFF.CAUSE = p.lastOff % 8 ∧ v.mem = [] ∧
          v.pending = s.pending)) ∧
    (∀ n, n < 12 → s.u.rd (Reg.CAN_CFG.WAKEEN n) = 0 → Sets (.wake 6 n) s []) ∧
    (p.down = 3 → Sets .brownout s [(Reg.TIM_STATUS.RTC_VALID, 0)] [] fun v => v.u.pwr.down = 4 ∧ v.u.pwr.lastOff = 2) ∧
    (p.down ≠ 3 → Sets .brownout s [])

/-- R445, R500 to R511, R528 to R533: power-on, the watchdog and warm resets with their commit drain; core holds and block resets; trim and the release
order, with the choice of a firmware slot; the thermal governors, the NAND hold and the thermal trip. -/
def Obligations.ResetAndThermal : Prop :=
  ∀ (s : State) (t : Nat),
    let p := s.u.pwr
    let now := max s.u.clock t
    let cause := Reg.RST_CAUSE.CAUSE
    let stepF := Reg.RST_STATUS.STEP
    let stale := Reg.PST_STATUS.STALE
    let prev (v : State) : Prop := v.u.rd Reg.RST_CAUSE.PREV = s.u.rd cause % 16
    (p.down = 5 ∨ p.flush ≠ 0 → Completes .powerOn s fun v => v.mem = [] ∧ v.u.pwr.down = 0 ∧ v.u.pwr.flush = 0 ∧ v.u.rd cause = 0 ∧ v.u.rd stepF = 0 ∧
      v.u.rd Reg.RST_CAUSE.PREV = 0 ∧ v.u.rd Reg.PWR_LASTOFF.CAUSE = p.lastOff % 8 ∧ v.u.stw.running = false ∧ v.u.rsv.vols = s.u.rsv.vols ∧
        v.u.pst.words = s.u.pst.words ∧ v.pending = s.pending) ∧
    (p.down ≠ 5 → p.flush = 0 → Sets .powerOn s []) ∧
    Sets (.watchdogKick t) s [] [] (fun v => v.u.pwr.kicked = now) ∧
    (let due := p.kicked + max 100 (s.u.rd Reg.RST_WDOG.TIMEOUT) * 400000
     (now < due ∨ s.u.rd stepF < 4 → Sets (.watchdogExpire t) s []) ∧
     (due ≤ now → 4 ≤ s.u.rd stepF → p.flush = 0 → p.drain = none → p.down = 0 →
       (s.u.rd Reg.RSV_STATUS.STATE ≤ 1 → Completes (.watchdogExpire t) s fun v => v.u.rd cause = 4 ∧ v.u.rd stepF = 3 ∧ prev v ∧
         (∀ q ∈ s.u.counted Reg.RST_WDOGS.COUNT Reg.RST_WDOGS.OVF 1, v.u.rd q.1 = q.2) ∧ v.u.stw.running = false ∧ v.pending = s.pending) ∧
       (2 ≤ s.u.rd Reg.RSV_STATUS.STATE → Completes (.watchdogExpire t) s fun v => v.u.pwr.drain = some 4 ∧ v.u.weir.closed = true ∧
         v.u.gate.coresOff = true ∧ v.u.stw.running = false ∧ v.pending = s.pending))) ∧
    (∀ c, 4 ≤ c → c < 16 → p.drain = some c → (∀ n, n < 8 → s.u.ringState n ≠ 2) → Completes .commitDrainDone s fun v => v.u.rd cause = c ∧ v.u.rd stepF = 3 ∧
      prev v ∧ v.u.pwr.drain = none ∧ v.pending = s.pending) ∧
    (p.drain = none → Sets .commitDrainDone s []) ∧
    (∀ hi b, b < 32 →
      let k := b + 32 * b2n hi
      let others := ∀ j, j < 32 → j ≠ b → s.u.held_ (j + 32 * b2n hi) = false
      (others → s.u.corePresent k = true → s.u.held_ k = false → k ∉ s.u.gate.holding → Sets (.rstHeldWrite hi (2 ^ b)) s [] [] fun v =>
        v.u.gate.holding = s.u.gate.holding ++ [k]) ∧
      (others → s.u.corePresent k = true → s.u.held_ k = true → Gives (.rstHeldWrite hi 0) s [(stale, 1)] fun v => v.u.held_ k = false ∧
        v.u.cpu = s.u.cpu ∧ EmitsNow s v 0xB001 0x03 (k + 256)) ∧
      (k ∈ s.u.gate.holding → (∀ i, i < 17 → (s.u.copOf i).cur ≠ some k) → (s.u.cpuOf k).acc = none → (s.u.cpuOf k).sbuf = [] → Gives (.coreHoldDone k) s [(stale, 1)] fun v =>
        v.u.held_ k = true ∧ v.u.cpuOf k = {} ∧ v.u.pcOf k = 0 ∧ v.u.gate.holding = s.u.gate.holding.erase k ∧ EmitsNow s v 0xB001 0x03 k) ∧
      (k ∉ s.u.gate.holding → Sets (.coreHoldDone k) s [])) ∧
    (∀ c i, c < 32 → i < 64 → s.u.rd Reg.RST_BLOCK.BUSY = 0 →
      (s.u.blockThere c i = true → Sets (.rstBlockGo (c + i * 2 ^ 8)) s [(Reg.RST_BLOCK.CLASS, c), (Reg.RST_BLOCK.INDEX, i), (Reg.RST_BLOCK.BUSY, 1)]) ∧
      (s.u.blockThere c i = false → Sets (.rstBlockGo (c + i * 2 ^ 8)) s
        [(Reg.RST_BLOCK.CLASS, c), (Reg.RST_BLOCK.INDEX, i), (Reg.RST_STATUS.BLK_ERR, 1)])) ∧
    (∀ w, s.u.rd Reg.RST_BLOCK.BUSY = 1 → Sets (.rstBlockGo w) s []) ∧
    (s.u.rd Reg.RST_BLOCK.BUSY = 0 → Sets .blockResetDone s []) ∧
    (∀ r, s.u.rd Reg.RST_BLOCK.BUSY = 1 → s.u.rd Reg.RST_BLOCK.INDEX = r → s.u.rd Reg.DOCK_STATUS.PRESENT ≤ 1 →
      let ended := (Reg.RST_BLOCK.BUSY, 0) :: s.u.counted Reg.RST_BLOCKS.COUNT Reg.RST_BLOCKS.OVF 1
      (r < 64 → s.u.rd Reg.RST_BLOCK.CLASS = 7 → Gives .blockResetDone s ended fun v => v.u.runnel r = {} ∧ v.u.rd (Reg.RUN_OWNER.CLASS r) = 0 ∧
        (∀ q, q ≠ r → v.u.runnel q = s.u.runnel q) ∧ KeptOutside s.u v.u [(0x130000 + 0x400 * r, 0x130400 + 0x400 * r), (0xF10000, 0xF11000)] ∧
          EmitsNow s v 0xB001 0x02 (7 + r * 2 ^ 8)) ∧
      (r < 8 → s.u.rd Reg.RST_BLOCK.CLASS = 9 → Completes .blockResetDone s fun v => (∀ q ∈ ended, v.u.rd q.1 = q.2) ∧
        (∀ c, c < 8 → v.u.held_ (8 * r + c) = true ∧ v.u.cpuOf (8 * r + c) = {}) ∧ v.u.wcsOf r = {} ∧ v.pending = s.pending ∧
          ∀ b, v.byte b = if sramBase r ≤ b ∧ b < sramBase r + 0x400000 then 0 else s.byte b)) ∧
    (∀ part n (copies : Bool × Bool) (resp : Bool), (part, n) ∈ [(0x7240, 0), (0x7220, 1), (0x7210, 2)] → 1 ≤ t → t < 256 → Starting s 2 → p.loaded = false →
      p.trimFault = 0 →
      let kind : Part := if n = 0 then .swk7240 else if n = 1 then .swk7220 else .swk7210
      let fails := s.u.rd Reg.RST_CAUSE.TRIM_FAILS
      let load (again : Bool) : Instr :=
        if again then .trimRetry copies.1 copies.2 resp part t else .trimLoad copies.1 copies.2 resp part t
      let good := resp = true ∧ (copies.1 = true ∨ copies.2 = true)
      (∀ again, p.trimWait = again →
        (good → Sets (load again) s [(Reg.RST_CAUSE.TRIM_B, b2n (!copies.1))] [] fun v => v.u.census = { part := kind, stepping := t } ∧
          v.u.pwr.loaded = true ∧ v.u.pwr.trimWait = false) ∧
        (¬ good → fails < 2 → Sets (load again) s [(Reg.RST_CAUSE.TRIM_FAILS, fails + 1)] [] fun v => v.u.pwr.trimWait = true ∧
          v.u.census = s.u.census) ∧
        (¬ good → fails = 2 → Sets (load again) s [] [] fun v => v.u.pwr.trimFault = (if resp then 1 else 2) ∧ v.u.pwr.loaded = false)) ∧
      (∀ again, p.trimWait ≠ again → Sets (load again) s [])) ∧
    (p.trimFault = 0 → Sets .trimFaultReport s []) ∧
    (p.trimFault ≠ 0 → p.down = 0 → Sets .trimFaultReport s [] [] fun v =>
      v.u.out = s.u.out ++ [.trimFault ([0x53, 0x57, 0x4B, 0x58] ++ leBytes 2 1 ++ leBytes 2 p.trimFault ++ leBytes 4 3 ++ leBytes 4 (Config.romVersion % 2 ^ 32))]) ∧
    (∀ a b : Bool,
      let go := Instr.releaseStepDone a b
      let x := s.u.stw
      let ok (i : Nat) : Bool := if i = 0 then a else b
      let runs (v : State) : Prop := v.u.stw.running = true ∧ v.u.pwr.kicked = s.u.clock
      let boots (slot trial : Nat) : List (Fld × Nat) := [(stepF, 4), (Reg.SES_STATUS.SLOT, slot), (Reg.SES_STATUS.TRIAL, trial),
        (Reg.SES_FWVER.VERSION, (s.u.fwSlot slot).version % 2 ^ 32)]
      (Starting s 0 → Sets go s [(stepF, 1)]) ∧
      (Starting s 1 → p.hot = false ∨ s.u.celsius Reg.PWR_THERM.BASE_T < 85 → Sets go s [(stepF, 2)] [] fun v => v.u.pwr.hot = false) ∧
      (Starting s 1 → p.hot = true → 85 ≤ s.u.celsius Reg.PWR_THERM.BASE_T → Sets go s []) ∧
      (Starting s 2 → p.loaded = true → Sets go s [(stepF, 3)]) ∧ (Starting s 2 → p.loaded = false → Sets go s []) ∧
      (Starting s 3 → x.pending = none → x.active ≤ 1 → ok x.active = true → Gives go s (boots x.active 0) runs) ∧
      (∀ q, Starting s 3 → x.pending = some q → q ≤ 1 → ok q = true → x.trial = false → Gives go s (boots q 1) runs) ∧
      (∀ q, Starting s 3 → x.pending = some q → q ≤ 1 → ok (1 - q) = true → x.trial = true → s.u.rd cause = 4 →
        Gives go s (boots (1 - q) 0 ++ [(Reg.SES_STATUS.FALLBACK, 1)]) fun v => runs v ∧ v.u.stw.pending = none ∧ v.u.stw.active = 1 - q ∧
          EmitsNow s v 0xB003 0x06 (s.u.fwSlot q).version) ∧
      (Starting s 3 → x.pending = none → a = false → b = false → Gives go s [(stepF, 4), (Reg.SES_STATUS.RECOVERY, 1)] runs) ∧
      (Starting s 4 → s.u.rd Reg.SES_STATUS.RECOVERY = 0 → Gives go s [(stepF, 5)] fun v => v.u.rsv.startAt = v.u.now) ∧
      (Starting s 5 → s.u.rd Reg.SES_STATUS.RECOVERY = 0 → Sets go s [(stepF, 6)]) ∧
      (Starting s 6 → s.u.rd Reg.SES_STATUS.RECOVERY = 0 → s.u.pstWord 0x100 = 0 ∨ 1265 < s.u.pstWord 0x100 → Gives go s
        [(stepF, 7), (Reg.RSV_STATUS.STATE, 1), (Reg.PST_STATUS.LIST_ERR, if s.u.pstWord 0x100 = 0 then s.u.rd Reg.PST_STATUS.LIST_ERR else 1)] fun v =>
          ∀ n, n < 12 → v.u.rd (Reg.CAN_PERMIT0.MODE n) = s.u.pstWord (0x10 + 3 * n) % 4) ∧
      (Starting s 7 → s.u.rd Reg.SES_STATUS.RECOVERY = 0 →
        let told (v : State) := EmitsNow s v 0xB001 0x01 (s.u.rd cause + p.first * 2 ^ 4 + s.u.rd Reg.RST_CAUSE.TRIM_FAILS * 2 ^ 8)
        (s.u.rd cause ≤ 1 ∨ s.u.rd cause = 3 → Sets go s [(stepF, 8)] [] told) ∧
        (s.u.rd cause = 5 → s.u.rd Reg.RST_RELMASK_LO.CORE = 1 → s.u.rd Reg.RST_RELMASK_HI.CORE = 0 → s.u.corePresent 0 = true → s.u.held_ 0 = true →
          Gives go s [(stepF, 8)] fun v => v.u.held_ 0 = false)) ∧
      (Starting s 8 → Sets go s []) ∧ (5 ≤ s.u.rd stepF + 1 → s.u.rd Reg.SES_STATUS.RECOVERY = 1 → Sets go s [])) ∧
    (∀ baseT nandT resT, p.down = 0 → baseT ≤ 75 → s.u.basins ≠ [] →
      let temps : List (Fld × Nat) := [(Reg.PWR_THERM.BASE_T, baseT), (Reg.PWR_THERM.NAND_T, nandT % 256), (Reg.PWR_THERM.RES_T, resT % 256)]
      let tj (n : Nat) := s.u.celsius (Reg.BSN_TJ.TEMP n)
      let code (u : Units) (n : Nat) := SMap.get 100 u.pwr.tcode n
      let lcode := s.u.rd Reg.PWR_THERM_CEIL.LCODE
      ((∀ n ∈ s.u.basins, tj n ≤ 115 ∧ code s.u n = 100) → s.u.rsv.nandHold = false → s.u.rd Reg.PWR_INPUT.LOAD ≤ 8800 → lcode ≤ 100 → CeilingsAre s s lcode →
        Sets (.thermalGovernor baseT nandT resT) s (temps ++ [(Reg.PWR_THERM_CEIL.GOV, 0), (Reg.PWR_THERM.STATE, 0)]) [] fun v =>
          ∀ n ∈ s.u.basins, code v.u n = 100) ∧
      ((∀ n ∈ s.u.basins, 120 ≤ tj n ∧ 1 ≤ code s.u n ∧ code s.u n ≤ 100) → lcode ≤ 100 → Gives (.thermalGovernor baseT nandT resT) s
        (temps ++ [(Reg.PWR_THERM.STATE, 2)]) fun v => CeilingsAre s v lcode ∧ ∀ n ∈ s.u.basins, code v.u n = code s.u n - 1) ∧
      ((∀ n ∈ s.u.basins, tj n ≤ 115 ∧ code s.u n < 100 ∧ SMap.get 0 p.cool n = 9) → lcode ≤ 100 → Gives (.thermalGovernor baseT nandT resT) s temps fun v =>
        CeilingsAre s v lcode ∧ ∀ n ∈ s.u.basins, code v.u n = code s.u n + 1)) ∧
    (p.down ≠ 0 → ∀ x y z, Sets (.thermalGovernor x y z) s []) ∧
    (let nt := s.u.celsius Reg.PWR_THERM.NAND_T
     Sets .nandThermalHold s [] (rsvRegs ++ [Reg.PWR_THERM_CEIL.GOV, Reg.PWR_THERM.STATE]) fun v =>
       v.u.rsv.nandHold = if 100 ≤ nt then true else if nt ≤ 95 then false else s.u.rsv.nandHold) ∧
    (p.down = 0 → p.flush = 0 → p.drain = none → p.target = 0 → Completes .thermalTrip s fun v =>
      v.u.pwr.flush = 1 ∧ v.u.pwr.hot = true ∧ v.u.rd Reg.PWR_THERM.TRIPPED = 1 ∧
        (∀ q ∈ s.u.counted Reg.PWR_THERM_TRIPS.COUNT Reg.PWR_THERM_TRIPS.OVF 1, v.u.rd q.1 = q.2) ∧ v.pending = s.pending) ∧
    (p.down ≠ 0 ∨ p.flush ≠ 0 ∨ p.drain ≠ none → Sets .thermalTrip s [])
end

