-- ==== Sys2Proof/Laws/Memory.lean ====
section
/-! SUPPORT. The sparse table and memory: a read after a write, and the canonical form every operation keeps. -/
namespace Sys2Proof.Machine

variable {α : Type} [DecidableEq α]

theorem SMap.wfFrom_weaken {d : α} {m : SMap α} {a b : Nat} (hab : a ≤ b) (h : SMap.wfFrom d (some b) m = true) :
    SMap.wfFrom d (some a) m = true := by
  cases m with
  | nil => rfl
  | cons e t =>
    simp only [SMap.wfFrom, Bool.and_eq_true, decide_eq_true_eq] at h ⊢
    exact ⟨⟨by omega, h.1.2⟩, h.2⟩

theorem SMap.wfFrom_none {d : α} {m : SMap α} {lo : Option Nat} (h : SMap.wfFrom d lo m = true) : SMap.wfFrom d none m = true := by
  cases m with
  | nil => rfl
  | cons e t =>
    simp only [SMap.wfFrom, Bool.and_eq_true] at h ⊢
    exact ⟨⟨trivial, h.1.2⟩, h.2⟩

/-- What a lower bound asks of an index. -/
def SMap.above (lo : Option Nat) (k : Nat) : Prop := match lo with | none => True | some l => l < k

theorem SMap.wfFrom_cons {d : α} {lo : Option Nat} {k : Nat} {v : α} {t : SMap α} :
    SMap.wfFrom d lo ((k, v) :: t) = true ↔ SMap.above lo k ∧ v ≠ d ∧ SMap.wfFrom d (some k) t = true := by
  cases lo <;> simp [SMap.wfFrom, SMap.above, and_assoc]

theorem SMap.wfFrom_lower {d : α} {lo : Option Nat} {k : Nat} {m : SMap α} (hk : SMap.above lo k)
    (h : SMap.wfFrom d (some k) m = true) : SMap.wfFrom d lo m = true := by
  cases lo with
  | none => exact SMap.wfFrom_none h
  | some l => exact SMap.wfFrom_weaken (Nat.le_of_lt hk) h

/-- Filtering keeps the canonical form. -/
theorem SMap.wfFrom_filter {d : α} {m : SMap α} {lo : Option Nat} (p : Nat × α → Bool) (h : SMap.wfFrom d lo m = true) :
    SMap.wfFrom d lo (m.filter p) = true := by
  induction m generalizing lo with
  | nil => rfl
  | cons e t ih =>
    obtain ⟨k, v⟩ := e
    rw [SMap.wfFrom_cons] at h
    rw [List.filter_cons]
    split
    · rw [SMap.wfFrom_cons]; exact ⟨h.1, h.2.1, ih h.2.2⟩
    · exact ih (SMap.wfFrom_lower h.1 h.2.2)

/-- What lies above an index may follow it. -/
theorem SMap.wfFrom_upper {d : α} {m : SMap α} {lo : Option Nat} (k : Nat) (h : SMap.wfFrom d lo m = true) :
    SMap.wfFrom d (some k) (m.filter fun e => decide (k < e.1)) = true := by
  induction m generalizing lo with
  | nil => rfl
  | cons e t ih =>
    obtain ⟨k', v⟩ := e
    rw [SMap.wfFrom_cons] at h
    rw [List.filter_cons]
    split
    · rename_i hk
      rw [SMap.wfFrom_cons]
      exact ⟨show k < k' from of_decide_eq_true hk, h.2.1, SMap.wfFrom_filter _ h.2.2⟩
    · exact ih h.2.2

/-- Put a canonical rest behind the entries below an index. -/
theorem SMap.wfFrom_below_append {d : α} {m r : SMap α} {lo : Option Nat} {k : Nat} (hr : ∀ l, SMap.above l k → SMap.wfFrom d l r = true)
    (hk : SMap.above lo k) (h : SMap.wfFrom d lo m = true) :
    SMap.wfFrom d lo (m.filter (fun e => decide (e.1 < k)) ++ r) = true := by
  induction m generalizing lo with
  | nil => exact hr lo hk
  | cons e t ih =>
    obtain ⟨k', v⟩ := e
    rw [SMap.wfFrom_cons] at h
    rw [List.filter_cons]
    split
    · rename_i hlt
      rw [List.cons_append, SMap.wfFrom_cons]
      exact ⟨h.1, h.2.1, ih (show k' < k from of_decide_eq_true hlt) h.2.2⟩
    · exact ih hk (SMap.wfFrom_lower h.1 h.2.2)

/-- A write keeps the canonical form. -/
theorem SMap.wfFrom_set {d : α} {m : SMap α} {lo : Option Nat} {k : Nat} (v : α) (hk : SMap.above lo k)
    (h : SMap.wfFrom d lo m = true) : SMap.wfFrom d lo (SMap.set d m k v) = true := by
  unfold SMap.set
  rw [List.append_assoc]
  refine SMap.wfFrom_below_append (fun l hl => ?_) hk h
  split
  · exact SMap.wfFrom_lower hl (SMap.wfFrom_upper k h)
  · rw [List.singleton_append, SMap.wfFrom_cons]
    exact ⟨hl, by assumption, SMap.wfFrom_upper k h⟩

theorem SMap.wf_set {d : α} {m : SMap α} (k : Nat) (v : α) (h : SMap.wf d m = true) : SMap.wf d (SMap.set d m k v) = true :=
  SMap.wfFrom_set v trivial h

/-- Removing entries keeps the canonical form. -/
theorem SMap.wf_erase {d : α} {m : SMap α} (p : Nat → Bool) (h : SMap.wf d m = true) : SMap.wf d (SMap.erase p m) = true :=
  SMap.wfFrom_filter _ h

omit [DecidableEq α] in
theorem SMap.get_append {d : α} {m r : SMap α} {k : Nat} (h : ∀ e ∈ m, e.1 ≠ k) : SMap.get d (m ++ r) k = SMap.get d r k := by
  induction m with
  | nil => rfl
  | cons e t ih =>
    obtain ⟨k', v⟩ := e
    have hk : k ≠ k' := fun hh => h (k', v) (List.mem_cons_self ..) hh.symm
    rw [List.cons_append, SMap.get, if_neg hk]
    exact ih fun e he => h e (List.mem_cons_of_mem _ he)

omit [DecidableEq α] in
theorem SMap.get_none {d : α} {m : SMap α} {k : Nat} (h : ∀ e ∈ m, e.1 ≠ k) : SMap.get d m k = d := by
  have := SMap.get_append (d := d) (r := []) h
  rw [List.append_nil] at this
  exact this

omit [DecidableEq α] in
/-- A filter that keeps index k leaves what it reads. -/
theorem SMap.get_filter {d : α} {m : SMap α} {k : Nat} (p : Nat → Bool) (hk : p k = true) :
    SMap.get d (m.filter fun e => p e.1) k = SMap.get d m k := by
  induction m with
  | nil => rfl
  | cons e t ih =>
    obtain ⟨k', v⟩ := e
    rw [List.filter_cons]
    by_cases h : k = k'
    · subst h; simp [hk, SMap.get]
    · split
      · simp only [SMap.get, h, if_false]; exact ih
      · simp only [SMap.get, h, if_false]; exact ih

/-- A read after a write to the same index gives the value written. -/
@[simp] theorem SMap.get_set_same {d : α} {m : SMap α} (k : Nat) (v : α) : SMap.get d (SMap.set d m k v) k = v := by
  unfold SMap.set
  rw [List.append_assoc, SMap.get_append (by intro e he; simp at he; omega)]
  split
  · rename_i hv
    rw [List.nil_append, SMap.get_none (by intro e he; simp at he; omega), hv]
  · simp [SMap.get]

/-- A write leaves every other index alone, whatever an unlisted one there reads as. -/
theorem SMap.get_set_other {d d' : α} {m : SMap α} {k j : Nat} (v : α) (hj : j ≠ k) :
    SMap.get d' (SMap.set d m k v) j = SMap.get d' m j := by
  unfold SMap.set
  have mid : ∀ e ∈ (if v = d then [] else [(k, v)] : SMap α), e.1 ≠ j := by
    intro e he
    split at he
    · simp at he
    · simp at he; rw [he]; exact fun h => hj h.symm
  by_cases h : j < k
  · have up : ∀ e ∈ ((if v = d then [] else [(k, v)]) ++ m.filter (fun e => decide (k < e.1)) : SMap α), e.1 ≠ j := by
      intro e he
      rcases List.mem_append.mp he with he | he
      · exact mid e he
      · simp at he; omega
    rw [List.append_assoc]
    have split_get : ∀ (a b : SMap α), (∀ e ∈ b, e.1 ≠ j) → SMap.get d' (a ++ b) j = SMap.get d' a j := by
      intro a b hb
      induction a with
      | nil => exact SMap.get_none hb
      | cons e t ih => obtain ⟨k', v'⟩ := e; simp only [List.cons_append, SMap.get, ih]
    rw [split_get _ _ up]
    exact SMap.get_filter (fun i => decide (i < k)) (by simpa using h)
  · rw [List.append_assoc, SMap.get_append (by intro e he; simp at he; omega), SMap.get_append mid]
    exact SMap.get_filter (fun i => decide (k < i)) (by simp; omega)

omit [DecidableEq α] in
/-- A read after a removal: the unlisted value where the index is removed. -/
theorem SMap.get_erase {d : α} {m : SMap α} (p : Nat → Bool) (k : Nat) :
    SMap.get d (SMap.erase p m) k = if p k then d else SMap.get d m k := by
  unfold SMap.erase
  split
  · rename_i h; exact SMap.get_none (by intro e he; simp at he; intro hk; rw [hk] at he; simp [h] at he)
  · rename_i h; exact SMap.get_filter (fun i => !p i) (by simp [h])

/-! ## Memory -/

theorem State.setByte_wf {s : State} (a : Nat) (v : Byte) (h : Memory.wf s.mem = true) : Memory.wf (s.setByte a v).mem = true :=
  SMap.wf_set a v h

theorem State.store_wf {n : Nat} {s : State} (a v : Nat) (h : Memory.wf s.mem = true) : Memory.wf (s.store a n v).mem = true := by
  induction n generalizing s a v with
  | zero => exact h
  | succ n ih => exact ih _ _ (State.setByte_wf _ _ h)

theorem State.storeBytes_wf {bs : List Nat} {s : State} (a : Nat) (h : Memory.wf s.mem = true) :
    Memory.wf (s.storeBytes a bs).mem = true := by
  induction bs generalizing s a with
  | nil => exact h
  | cons b bs ih => exact ih _ (State.setByte_wf _ _ h)

theorem State.storeWords_wf {ws : List Nat} {s : State} (a : Nat) (h : Memory.wf s.mem = true) :
    Memory.wf (s.storeWords a ws).mem = true := by
  induction ws generalizing s a with
  | nil => exact h
  | cons w ws ih => exact ih _ (State.store_wf _ _ h)

theorem State.clear_wf {s : State} (a n : Nat) (h : Memory.wf s.mem = true) : Memory.wf (s.clear a n).mem = true := by
  unfold State.clear Memory.wf
  exact SMap.wf_erase (fun k => decide (a ≤ k) && decide (k < a + n)) h

@[simp] theorem State.byte_setByte_same {s : State} (a : Nat) (v : Byte) : (s.setByte a v).byte a = v :=
  SMap.get_set_same a v

theorem State.byte_setByte_other {s : State} {a b : Nat} (v : Byte) (hb : b ≠ a) :
    (s.setByte a v).byte b = s.byte b := SMap.get_set_other v hb

/-- A store leaves every byte outside the bytes it stores to. -/
theorem State.byte_store_outside {n : Nat} {s : State} {a b : Nat} (v : Nat) (hb : b < a ∨ a + n ≤ b) :
    (s.store a n v).byte b = s.byte b := by
  induction n generalizing s a v with
  | zero => rfl
  | succ n ih =>
    rw [State.store, ih _ (by omega), State.byte_setByte_other _ (by omega)]

/-- What a store stores, a load of the same bytes reads. -/
theorem State.load_store {n : Nat} {s : State} (a v : Nat) : (s.store a n v).load a n = v % 256 ^ n := by
  induction n generalizing s a v with
  | zero => simp [State.load, Nat.mod_one]
  | succ n ih =>
    rw [State.store, State.load, ih, State.byte_store_outside _ (by omega), State.byte_setByte_same, BitVec.toNat_ofNat,
      show 256 ^ (n + 1) = 256 * 256 ^ n by omega, Nat.mod_mul]

end Sys2Proof.Machine
end

