-- ==== Sys2Proof/Laws/State.lean ====
section
/-! SUPPORT. What the shared updates of the state leave alone, field by field, and how a register reads after a write: no
proof need unfold a record update. -/
namespace Sys2Proof.Machine

/-! ## The state -/

@[simp] theorem State.onU_mem (s : State) (f : Units → Units) : (s.onU f).mem = s.mem := rfl
@[simp] theorem State.onU_pending (s : State) (f : Units → Units) : (s.onU f).pending = s.pending := rfl
@[simp] theorem State.onU_u (s : State) (f : Units → Units) : (s.onU f).u = f s.u := rfl
@[simp] theorem State.setByte_u (s : State) (a : Nat) (v : Byte) : (s.setByte a v).u = s.u := rfl
@[simp] theorem State.setByte_pending (s : State) (a : Nat) (v : Byte) : (s.setByte a v).pending = s.pending := rfl
@[simp] theorem State.clear_u (s : State) (a n : Nat) : (s.clear a n).u = s.u := rfl
@[simp] theorem State.clear_pending (s : State) (a n : Nat) : (s.clear a n).pending = s.pending := rfl

@[simp] theorem State.store_u (s : State) (a n v : Nat) : (s.store a n v).u = s.u := by
  induction n generalizing s a v with
  | zero => rfl
  | succ n ih => exact ih ..
@[simp] theorem State.store_pending (s : State) (a n v : Nat) : (s.store a n v).pending = s.pending := by
  induction n generalizing s a v with
  | zero => rfl
  | succ n ih => exact ih ..
@[simp] theorem State.storeBytes_u (s : State) (a : Nat) (bs : List Nat) : (s.storeBytes a bs).u = s.u := by
  induction bs generalizing s a with
  | nil => rfl
  | cons b bs ih => exact ih ..
@[simp] theorem State.storeBytes_pending (s : State) (a : Nat) (bs : List Nat) : (s.storeBytes a bs).pending = s.pending := by
  induction bs generalizing s a with
  | nil => rfl
  | cons b bs ih => exact ih ..
@[simp] theorem State.storeWords_u (s : State) (a : Nat) (ws : List Nat) : (s.storeWords a ws).u = s.u := by
  induction ws generalizing s a with
  | nil => rfl
  | cons w ws ih => simp [State.storeWords, ih]
@[simp] theorem State.storeWords_pending (s : State) (a : Nat) (ws : List Nat) : (s.storeWords a ws).pending = s.pending := by
  induction ws generalizing s a with
  | nil => rfl
  | cons w ws ih => simp [State.storeWords, ih]

/-- A well-formed command on the units alone completes. -/
theorem State.run_next {s : State} {ok : Bool} {f : Units → Units} (h : ok = true) : s.run ok f = .next (s.onU f) := by
  simp [State.run, h]
/-- A well-formed command on units and memory completes. -/
theorem State.runS_next {s : State} {ok : Bool} {f : State → State} (h : ok = true) : s.runS ok f = .next (f s) := by
  simp [State.runS, h]

/-! ## Registers -/

@[simp] theorem Units.rd_wr_same (u : Units) (f : Fld) (v : Nat) : (u.wr f v).rd f = v % 2 ^ f.w := SMap.get_set_same ..
theorem Units.rd_wr_other (u : Units) {f g : Fld} (v : Nat) (h : g.key ≠ f.key) : (u.wr f v).rd g = u.rd g :=
  SMap.get_set_other _ h
/-- How every register reads after a write of one. -/
theorem Units.rd_wr (u : Units) (f g : Fld) (v : Nat) (hr : g.key = f.key → g.rst = f.rst) :
    (u.wr f v).rd g = if g.key = f.key then v % 2 ^ f.w else u.rd g := by
  split
  · rename_i h
    unfold Units.rd Units.wr
    rw [h, hr h]
    exact SMap.get_set_same ..
  · rename_i h; exact Units.rd_wr_other u v h
@[simp] theorem Units.is_wrb_same (u : Units) (f : Fld) (b : Bool) (h : f.w = 1) : (u.wrb f b).is f = b := by
  cases b <;> simp [Units.is, Units.wrb, h, b2n]
theorem Units.is_wr_other (u : Units) {f g : Fld} (v : Nat) (h : g.key ≠ f.key) : (u.wr f v).is g = u.is g := by
  simp [Units.is, Units.rd_wr_other u v h]

@[simp] theorem Units.wr_census (u : Units) (f : Fld) (v : Nat) : (u.wr f v).census = u.census := rfl
@[simp] theorem Units.wr_clock (u : Units) (f : Fld) (v : Nat) : (u.wr f v).clock = u.clock := rfl
@[simp] theorem Units.wr_free (u : Units) (f : Fld) (v : Nat) : (u.wr f v).free = u.free := rfl
@[simp] theorem Units.wr_tbase (u : Units) (f : Fld) (v : Nat) : (u.wr f v).tbase = u.tbase := rfl
@[simp] theorem Units.wr_evq (u : Units) (f : Fld) (v : Nat) : (u.wr f v).evq = u.evq := rfl
@[simp] theorem Units.wr_ang (u : Units) (f : Fld) (v : Nat) : (u.wr f v).ang = u.ang := rfl
@[simp] theorem Units.wr_run (u : Units) (f : Fld) (v : Nat) : (u.wr f v).run = u.run := rfl
@[simp] theorem Units.wr_reqFly (u : Units) (f : Fld) (v : Nat) : (u.wr f v).reqFly = u.reqFly := rfl
@[simp] theorem Units.wr_stream (u : Units) (f : Fld) (v : Nat) : (u.wr f v).stream = u.stream := rfl
@[simp] theorem Units.wr_dinMeas (u : Units) (f : Fld) (v : Nat) : (u.wr f v).dinMeas = u.dinMeas := rfl
@[simp] theorem Units.wr_exc (u : Units) (f : Fld) (v : Nat) : (u.wr f v).exc = u.exc := rfl
@[simp] theorem Units.wr_excHot (u : Units) (f : Fld) (v : Nat) : (u.wr f v).excHot = u.excHot := rfl
@[simp] theorem Units.wr_trg (u : Units) (f : Fld) (v : Nat) : (u.wr f v).trg = u.trg := rfl
@[simp] theorem Units.wr_trgQ (u : Units) (f : Fld) (v : Nat) : (u.wr f v).trgQ = u.trgQ := rfl
@[simp] theorem Units.wr_contact (u : Units) (f : Fld) (v : Nat) : (u.wr f v).contact = u.contact := rfl
@[simp] theorem Units.wr_tim (u : Units) (f : Fld) (v : Nat) : (u.wr f v).tim = u.tim := rfl
@[simp] theorem Units.wr_out (u : Units) (f : Fld) (v : Nat) : (u.wr f v).out = u.out := rfl
@[simp] theorem Units.wr_rdata (u : Units) (f : Fld) (v : Nat) : (u.wr f v).rdata = u.rdata := rfl
@[simp] theorem Units.wr_pulse (u : Units) (f : Fld) (v : Nat) : (u.wr f v).pulse = u.pulse := rfl
@[simp] theorem Units.wr_dom (u : Units) (f : Fld) (v : Nat) : (u.wr f v).dom = u.dom := rfl
@[simp] theorem Units.wr_late (u : Units) (f : Fld) (v : Nat) : (u.wr f v).late = u.late := rfl
@[simp] theorem Units.wr_wdFly (u : Units) (f : Fld) (v : Nat) : (u.wr f v).wdFly = u.wdFly := rfl
@[simp] theorem Units.wr_weir (u : Units) (f : Fld) (v : Nat) : (u.wr f v).weir = u.weir := rfl
@[simp] theorem Units.wr_queue (u : Units) (f : Fld) (v : Nat) : (u.wr f v).queue = u.queue := rfl
@[simp] theorem Units.wr_paused (u : Units) (f : Fld) (v : Nat) : (u.wr f v).paused = u.paused := rfl
@[simp] theorem Units.wr_twl (u : Units) (f : Fld) (v : Nat) : (u.wr f v).twl = u.twl := rfl
@[simp] theorem Units.wr_cpu (u : Units) (f : Fld) (v : Nat) : (u.wr f v).cpu = u.cpu := rfl
@[simp] theorem Units.wr_gate (u : Units) (f : Fld) (v : Nat) : (u.wr f v).gate = u.gate := rfl
@[simp] theorem Units.wr_slc (u : Units) (f : Fld) (v : Nat) : (u.wr f v).slc = u.slc := rfl
@[simp] theorem Units.wr_volt (u : Units) (f : Fld) (v : Nat) : (u.wr f v).volt = u.volt := rfl
@[simp] theorem Units.wr_wcs (u : Units) (f : Fld) (v : Nat) : (u.wr f v).wcs = u.wcs := rfl
@[simp] theorem Units.wr_rsv (u : Units) (f : Fld) (v : Nat) : (u.wr f v).rsv = u.rsv := rfl
@[simp] theorem Units.wr_pst (u : Units) (f : Fld) (v : Nat) : (u.wr f v).pst = u.pst := rfl
@[simp] theorem Units.wr_sink (u : Units) (f : Fld) (v : Nat) : (u.wr f v).sink = u.sink := rfl
@[simp] theorem Units.wr_switch (u : Units) (f : Fld) (v : Nat) : (u.wr f v).switch = u.switch := rfl
@[simp] theorem Units.wr_can (u : Units) (f : Fld) (v : Nat) : (u.wr f v).can = u.can := rfl
@[simp] theorem Units.wr_cam (u : Units) (f : Fld) (v : Nat) : (u.wr f v).cam = u.cam := rfl
@[simp] theorem Units.wr_downs (u : Units) (f : Fld) (v : Nat) : (u.wr f v).downs = u.downs := rfl
@[simp] theorem Units.wr_stw (u : Units) (f : Fld) (v : Nat) : (u.wr f v).stw = u.stw := rfl
@[simp] theorem Units.wr_pair (u : Units) (f : Fld) (v : Nat) : (u.wr f v).pair = u.pair := rfl
@[simp] theorem Units.wr_jet (u : Units) (f : Fld) (v : Nat) : (u.wr f v).jet = u.jet := rfl
@[simp] theorem Units.wr_pkcfg (u : Units) (f : Fld) (v : Nat) : (u.wr f v).pkcfg = u.pkcfg := rfl
@[simp] theorem Units.wr_cop (u : Units) (f : Fld) (v : Nat) : (u.wr f v).cop = u.cop := rfl
@[simp] theorem Units.wr_chain (u : Units) (f : Fld) (v : Nat) : (u.wr f v).chain = u.chain := rfl
@[simp] theorem Units.wr_pwr (u : Units) (f : Fld) (v : Nat) : (u.wr f v).pwr = u.pwr := rfl

/-! ## Messages, time, free values -/

@[simp] theorem Units.send_census (u : Units) (m : OutMsg) : (u.send m).census = u.census := rfl
@[simp] theorem Units.send_regs (u : Units) (m : OutMsg) : (u.send m).regs = u.regs := rfl
@[simp] theorem Units.send_clock (u : Units) (m : OutMsg) : (u.send m).clock = u.clock := rfl
@[simp] theorem Units.send_free (u : Units) (m : OutMsg) : (u.send m).free = u.free := rfl
@[simp] theorem Units.send_tbase (u : Units) (m : OutMsg) : (u.send m).tbase = u.tbase := rfl
@[simp] theorem Units.send_evq (u : Units) (m : OutMsg) : (u.send m).evq = u.evq := rfl
@[simp] theorem Units.send_ang (u : Units) (m : OutMsg) : (u.send m).ang = u.ang := rfl
@[simp] theorem Units.send_run (u : Units) (m : OutMsg) : (u.send m).run = u.run := rfl
@[simp] theorem Units.send_reqFly (u : Units) (m : OutMsg) : (u.send m).reqFly = u.reqFly := rfl
@[simp] theorem Units.send_stream (u : Units) (m : OutMsg) : (u.send m).stream = u.stream := rfl
@[simp] theorem Units.send_dinMeas (u : Units) (m : OutMsg) : (u.send m).dinMeas = u.dinMeas := rfl
@[simp] theorem Units.send_exc (u : Units) (m : OutMsg) : (u.send m).exc = u.exc := rfl
@[simp] theorem Units.send_excHot (u : Units) (m : OutMsg) : (u.send m).excHot = u.excHot := rfl
@[simp] theorem Units.send_trg (u : Units) (m : OutMsg) : (u.send m).trg = u.trg := rfl
@[simp] theorem Units.send_trgQ (u : Units) (m : OutMsg) : (u.send m).trgQ = u.trgQ := rfl
@[simp] theorem Units.send_contact (u : Units) (m : OutMsg) : (u.send m).contact = u.contact := rfl
@[simp] theorem Units.send_tim (u : Units) (m : OutMsg) : (u.send m).tim = u.tim := rfl
@[simp] theorem Units.send_rdata (u : Units) (m : OutMsg) : (u.send m).rdata = u.rdata := rfl
@[simp] theorem Units.send_pulse (u : Units) (m : OutMsg) : (u.send m).pulse = u.pulse := rfl
@[simp] theorem Units.send_dom (u : Units) (m : OutMsg) : (u.send m).dom = u.dom := rfl
@[simp] theorem Units.send_late (u : Units) (m : OutMsg) : (u.send m).late = u.late := rfl
@[simp] theorem Units.send_wdFly (u : Units) (m : OutMsg) : (u.send m).wdFly = u.wdFly := rfl
@[simp] theorem Units.send_weir (u : Units) (m : OutMsg) : (u.send m).weir = u.weir := rfl
@[simp] theorem Units.send_queue (u : Units) (m : OutMsg) : (u.send m).queue = u.queue := rfl
@[simp] theorem Units.send_paused (u : Units) (m : OutMsg) : (u.send m).paused = u.paused := rfl
@[simp] theorem Units.send_twl (u : Units) (m : OutMsg) : (u.send m).twl = u.twl := rfl
@[simp] theorem Units.send_cpu (u : Units) (m : OutMsg) : (u.send m).cpu = u.cpu := rfl
@[simp] theorem Units.send_gate (u : Units) (m : OutMsg) : (u.send m).gate = u.gate := rfl
@[simp] theorem Units.send_slc (u : Units) (m : OutMsg) : (u.send m).slc = u.slc := rfl
@[simp] theorem Units.send_volt (u : Units) (m : OutMsg) : (u.send m).volt = u.volt := rfl
@[simp] theorem Units.send_wcs (u : Units) (m : OutMsg) : (u.send m).wcs = u.wcs := rfl
@[simp] theorem Units.send_rsv (u : Units) (m : OutMsg) : (u.send m).rsv = u.rsv := rfl
@[simp] theorem Units.send_pst (u : Units) (m : OutMsg) : (u.send m).pst = u.pst := rfl
@[simp] theorem Units.send_sink (u : Units) (m : OutMsg) : (u.send m).sink = u.sink := rfl
@[simp] theorem Units.send_switch (u : Units) (m : OutMsg) : (u.send m).switch = u.switch := rfl
@[simp] theorem Units.send_can (u : Units) (m : OutMsg) : (u.send m).can = u.can := rfl
@[simp] theorem Units.send_cam (u : Units) (m : OutMsg) : (u.send m).cam = u.cam := rfl
@[simp] theorem Units.send_downs (u : Units) (m : OutMsg) : (u.send m).downs = u.downs := rfl
@[simp] theorem Units.send_stw (u : Units) (m : OutMsg) : (u.send m).stw = u.stw := rfl
@[simp] theorem Units.send_pair (u : Units) (m : OutMsg) : (u.send m).pair = u.pair := rfl
@[simp] theorem Units.send_jet (u : Units) (m : OutMsg) : (u.send m).jet = u.jet := rfl
@[simp] theorem Units.send_pkcfg (u : Units) (m : OutMsg) : (u.send m).pkcfg = u.pkcfg := rfl
@[simp] theorem Units.send_cop (u : Units) (m : OutMsg) : (u.send m).cop = u.cop := rfl
@[simp] theorem Units.send_chain (u : Units) (m : OutMsg) : (u.send m).chain = u.chain := rfl
@[simp] theorem Units.send_pwr (u : Units) (m : OutMsg) : (u.send m).pwr = u.pwr := rfl
@[simp] theorem Units.send_out (u : Units) (m : OutMsg) : (u.send m).out = u.out ++ [m] := rfl
@[simp] theorem Units.advance_census (u : Units) (t : Nat) : (u.advance t).census = u.census := rfl
@[simp] theorem Units.advance_regs (u : Units) (t : Nat) : (u.advance t).regs = u.regs := rfl
@[simp] theorem Units.advance_free (u : Units) (t : Nat) : (u.advance t).free = u.free := rfl
@[simp] theorem Units.advance_tbase (u : Units) (t : Nat) : (u.advance t).tbase = u.tbase := rfl
@[simp] theorem Units.advance_evq (u : Units) (t : Nat) : (u.advance t).evq = u.evq := rfl
@[simp] theorem Units.advance_ang (u : Units) (t : Nat) : (u.advance t).ang = u.ang := rfl
@[simp] theorem Units.advance_run (u : Units) (t : Nat) : (u.advance t).run = u.run := rfl
@[simp] theorem Units.advance_reqFly (u : Units) (t : Nat) : (u.advance t).reqFly = u.reqFly := rfl
@[simp] theorem Units.advance_stream (u : Units) (t : Nat) : (u.advance t).stream = u.stream := rfl
@[simp] theorem Units.advance_dinMeas (u : Units) (t : Nat) : (u.advance t).dinMeas = u.dinMeas := rfl
@[simp] theorem Units.advance_exc (u : Units) (t : Nat) : (u.advance t).exc = u.exc := rfl
@[simp] theorem Units.advance_excHot (u : Units) (t : Nat) : (u.advance t).excHot = u.excHot := rfl
@[simp] theorem Units.advance_trg (u : Units) (t : Nat) : (u.advance t).trg = u.trg := rfl
@[simp] theorem Units.advance_trgQ (u : Units) (t : Nat) : (u.advance t).trgQ = u.trgQ := rfl
@[simp] theorem Units.advance_contact (u : Units) (t : Nat) : (u.advance t).contact = u.contact := rfl
@[simp] theorem Units.advance_tim (u : Units) (t : Nat) : (u.advance t).tim = u.tim := rfl
@[simp] theorem Units.advance_out (u : Units) (t : Nat) : (u.advance t).out = u.out := rfl
@[simp] theorem Units.advance_rdata (u : Units) (t : Nat) : (u.advance t).rdata = u.rdata := rfl
@[simp] theorem Units.advance_pulse (u : Units) (t : Nat) : (u.advance t).pulse = u.pulse := rfl
@[simp] theorem Units.advance_dom (u : Units) (t : Nat) : (u.advance t).dom = u.dom := rfl
@[simp] theorem Units.advance_late (u : Units) (t : Nat) : (u.advance t).late = u.late := rfl
@[simp] theorem Units.advance_wdFly (u : Units) (t : Nat) : (u.advance t).wdFly = u.wdFly := rfl
@[simp] theorem Units.advance_weir (u : Units) (t : Nat) : (u.advance t).weir = u.weir := rfl
@[simp] theorem Units.advance_queue (u : Units) (t : Nat) : (u.advance t).queue = u.queue := rfl
@[simp] theorem Units.advance_paused (u : Units) (t : Nat) : (u.advance t).paused = u.paused := rfl
@[simp] theorem Units.advance_twl (u : Units) (t : Nat) : (u.advance t).twl = u.twl := rfl
@[simp] theorem Units.advance_cpu (u : Units) (t : Nat) : (u.advance t).cpu = u.cpu := rfl
@[simp] theorem Units.advance_gate (u : Units) (t : Nat) : (u.advance t).gate = u.gate := rfl
@[simp] theorem Units.advance_slc (u : Units) (t : Nat) : (u.advance t).slc = u.slc := rfl
@[simp] theorem Units.advance_volt (u : Units) (t : Nat) : (u.advance t).volt = u.volt := rfl
@[simp] theorem Units.advance_wcs (u : Units) (t : Nat) : (u.advance t).wcs = u.wcs := rfl
@[simp] theorem Units.advance_rsv (u : Units) (t : Nat) : (u.advance t).rsv = u.rsv := rfl
@[simp] theorem Units.advance_pst (u : Units) (t : Nat) : (u.advance t).pst = u.pst := rfl
@[simp] theorem Units.advance_sink (u : Units) (t : Nat) : (u.advance t).sink = u.sink := rfl
@[simp] theorem Units.advance_switch (u : Units) (t : Nat) : (u.advance t).switch = u.switch := rfl
@[simp] theorem Units.advance_can (u : Units) (t : Nat) : (u.advance t).can = u.can := rfl
@[simp] theorem Units.advance_cam (u : Units) (t : Nat) : (u.advance t).cam = u.cam := rfl
@[simp] theorem Units.advance_downs (u : Units) (t : Nat) : (u.advance t).downs = u.downs := rfl
@[simp] theorem Units.advance_stw (u : Units) (t : Nat) : (u.advance t).stw = u.stw := rfl
@[simp] theorem Units.advance_pair (u : Units) (t : Nat) : (u.advance t).pair = u.pair := rfl
@[simp] theorem Units.advance_jet (u : Units) (t : Nat) : (u.advance t).jet = u.jet := rfl
@[simp] theorem Units.advance_pkcfg (u : Units) (t : Nat) : (u.advance t).pkcfg = u.pkcfg := rfl
@[simp] theorem Units.advance_cop (u : Units) (t : Nat) : (u.advance t).cop = u.cop := rfl
@[simp] theorem Units.advance_chain (u : Units) (t : Nat) : (u.advance t).chain = u.chain := rfl
@[simp] theorem Units.advance_pwr (u : Units) (t : Nat) : (u.advance t).pwr = u.pwr := rfl
@[simp] theorem Units.advance_clock (u : Units) (t : Nat) : (u.advance t).clock = max u.clock t := rfl
@[simp] theorem Units.draw_census (u : Units) : u.draw.2.census = u.census := rfl
@[simp] theorem Units.draw_regs (u : Units) : u.draw.2.regs = u.regs := rfl
@[simp] theorem Units.draw_clock (u : Units) : u.draw.2.clock = u.clock := rfl
@[simp] theorem Units.draw_tbase (u : Units) : u.draw.2.tbase = u.tbase := rfl
@[simp] theorem Units.draw_evq (u : Units) : u.draw.2.evq = u.evq := rfl
@[simp] theorem Units.draw_ang (u : Units) : u.draw.2.ang = u.ang := rfl
@[simp] theorem Units.draw_run (u : Units) : u.draw.2.run = u.run := rfl
@[simp] theorem Units.draw_reqFly (u : Units) : u.draw.2.reqFly = u.reqFly := rfl
@[simp] theorem Units.draw_stream (u : Units) : u.draw.2.stream = u.stream := rfl
@[simp] theorem Units.draw_dinMeas (u : Units) : u.draw.2.dinMeas = u.dinMeas := rfl
@[simp] theorem Units.draw_exc (u : Units) : u.draw.2.exc = u.exc := rfl
@[simp] theorem Units.draw_excHot (u : Units) : u.draw.2.excHot = u.excHot := rfl
@[simp] theorem Units.draw_trg (u : Units) : u.draw.2.trg = u.trg := rfl
@[simp] theorem Units.draw_trgQ (u : Units) : u.draw.2.trgQ = u.trgQ := rfl
@[simp] theorem Units.draw_contact (u : Units) : u.draw.2.contact = u.contact := rfl
@[simp] theorem Units.draw_tim (u : Units) : u.draw.2.tim = u.tim := rfl
@[simp] theorem Units.draw_out (u : Units) : u.draw.2.out = u.out := rfl
@[simp] theorem Units.draw_rdata (u : Units) : u.draw.2.rdata = u.rdata := rfl
@[simp] theorem Units.draw_pulse (u : Units) : u.draw.2.pulse = u.pulse := rfl
@[simp] theorem Units.draw_dom (u : Units) : u.draw.2.dom = u.dom := rfl
@[simp] theorem Units.draw_late (u : Units) : u.draw.2.late = u.late := rfl
@[simp] theorem Units.draw_wdFly (u : Units) : u.draw.2.wdFly = u.wdFly := rfl
@[simp] theorem Units.draw_weir (u : Units) : u.draw.2.weir = u.weir := rfl
@[simp] theorem Units.draw_queue (u : Units) : u.draw.2.queue = u.queue := rfl
@[simp] theorem Units.draw_paused (u : Units) : u.draw.2.paused = u.paused := rfl
@[simp] theorem Units.draw_twl (u : Units) : u.draw.2.twl = u.twl := rfl
@[simp] theorem Units.draw_cpu (u : Units) : u.draw.2.cpu = u.cpu := rfl
@[simp] theorem Units.draw_gate (u : Units) : u.draw.2.gate = u.gate := rfl
@[simp] theorem Units.draw_slc (u : Units) : u.draw.2.slc = u.slc := rfl
@[simp] theorem Units.draw_volt (u : Units) : u.draw.2.volt = u.volt := rfl
@[simp] theorem Units.draw_wcs (u : Units) : u.draw.2.wcs = u.wcs := rfl
@[simp] theorem Units.draw_rsv (u : Units) : u.draw.2.rsv = u.rsv := rfl
@[simp] theorem Units.draw_pst (u : Units) : u.draw.2.pst = u.pst := rfl
@[simp] theorem Units.draw_sink (u : Units) : u.draw.2.sink = u.sink := rfl
@[simp] theorem Units.draw_switch (u : Units) : u.draw.2.switch = u.switch := rfl
@[simp] theorem Units.draw_can (u : Units) : u.draw.2.can = u.can := rfl
@[simp] theorem Units.draw_cam (u : Units) : u.draw.2.cam = u.cam := rfl
@[simp] theorem Units.draw_downs (u : Units) : u.draw.2.downs = u.downs := rfl
@[simp] theorem Units.draw_stw (u : Units) : u.draw.2.stw = u.stw := rfl
@[simp] theorem Units.draw_pair (u : Units) : u.draw.2.pair = u.pair := rfl
@[simp] theorem Units.draw_jet (u : Units) : u.draw.2.jet = u.jet := rfl
@[simp] theorem Units.draw_pkcfg (u : Units) : u.draw.2.pkcfg = u.pkcfg := rfl
@[simp] theorem Units.draw_cop (u : Units) : u.draw.2.cop = u.cop := rfl
@[simp] theorem Units.draw_chain (u : Units) : u.draw.2.chain = u.chain := rfl
@[simp] theorem Units.draw_pwr (u : Units) : u.draw.2.pwr = u.pwr := rfl

/-! ## Events -/

@[simp] theorem Units.setEvQueue_census (u : Units) (n : Nat) (q : EvQueue) : (u.setEvQueue n q).census = u.census := rfl
@[simp] theorem Units.setEvQueue_regs (u : Units) (n : Nat) (q : EvQueue) : (u.setEvQueue n q).regs = u.regs := rfl
@[simp] theorem Units.setEvQueue_clock (u : Units) (n : Nat) (q : EvQueue) : (u.setEvQueue n q).clock = u.clock := rfl
@[simp] theorem Units.setEvQueue_free (u : Units) (n : Nat) (q : EvQueue) : (u.setEvQueue n q).free = u.free := rfl
@[simp] theorem Units.setEvQueue_tbase (u : Units) (n : Nat) (q : EvQueue) : (u.setEvQueue n q).tbase = u.tbase := rfl
@[simp] theorem Units.setEvQueue_ang (u : Units) (n : Nat) (q : EvQueue) : (u.setEvQueue n q).ang = u.ang := rfl
@[simp] theorem Units.setEvQueue_run (u : Units) (n : Nat) (q : EvQueue) : (u.setEvQueue n q).run = u.run := rfl
@[simp] theorem Units.setEvQueue_reqFly (u : Units) (n : Nat) (q : EvQueue) : (u.setEvQueue n q).reqFly = u.reqFly := rfl
@[simp] theorem Units.setEvQueue_stream (u : Units) (n : Nat) (q : EvQueue) : (u.setEvQueue n q).stream = u.stream := rfl
@[simp] theorem Units.setEvQueue_dinMeas (u : Units) (n : Nat) (q : EvQueue) : (u.setEvQueue n q).dinMeas = u.dinMeas := rfl
@[simp] theorem Units.setEvQueue_exc (u : Units) (n : Nat) (q : EvQueue) : (u.setEvQueue n q).exc = u.exc := rfl
@[simp] theorem Units.setEvQueue_excHot (u : Units) (n : Nat) (q : EvQueue) : (u.setEvQueue n q).excHot = u.excHot := rfl
@[simp] theorem Units.setEvQueue_trg (u : Units) (n : Nat) (q : EvQueue) : (u.setEvQueue n q).trg = u.trg := rfl
@[simp] theorem Units.setEvQueue_trgQ (u : Units) (n : Nat) (q : EvQueue) : (u.setEvQueue n q).trgQ = u.trgQ := rfl
@[simp] theorem Units.setEvQueue_contact (u : Units) (n : Nat) (q : EvQueue) : (u.setEvQueue n q).contact = u.contact := rfl
@[simp] theorem Units.setEvQueue_tim (u : Units) (n : Nat) (q : EvQueue) : (u.setEvQueue n q).tim = u.tim := rfl
@[simp] theorem Units.setEvQueue_out (u : Units) (n : Nat) (q : EvQueue) : (u.setEvQueue n q).out = u.out := rfl
@[simp] theorem Units.setEvQueue_rdata (u : Units) (n : Nat) (q : EvQueue) : (u.setEvQueue n q).rdata = u.rdata := rfl
@[simp] theorem Units.setEvQueue_pulse (u : Units) (n : Nat) (q : EvQueue) : (u.setEvQueue n q).pulse = u.pulse := rfl
@[simp] theorem Units.setEvQueue_dom (u : Units) (n : Nat) (q : EvQueue) : (u.setEvQueue n q).dom = u.dom := rfl
@[simp] theorem Units.setEvQueue_late (u : Units) (n : Nat) (q : EvQueue) : (u.setEvQueue n q).late = u.late := rfl
@[simp] theorem Units.setEvQueue_wdFly (u : Units) (n : Nat) (q : EvQueue) : (u.setEvQueue n q).wdFly = u.wdFly := rfl
@[simp] theorem Units.setEvQueue_weir (u : Units) (n : Nat) (q : EvQueue) : (u.setEvQueue n q).weir = u.weir := rfl
@[simp] theorem Units.setEvQueue_queue (u : Units) (n : Nat) (q : EvQueue) : (u.setEvQueue n q).queue = u.queue := rfl
@[simp] theorem Units.setEvQueue_paused (u : Units) (n : Nat) (q : EvQueue) : (u.setEvQueue n q).paused = u.paused := rfl
@[simp] theorem Units.setEvQueue_twl (u : Units) (n : Nat) (q : EvQueue) : (u.setEvQueue n q).twl = u.twl := rfl
@[simp] theorem Units.setEvQueue_cpu (u : Units) (n : Nat) (q : EvQueue) : (u.setEvQueue n q).cpu = u.cpu := rfl
@[simp] theorem Units.setEvQueue_gate (u : Units) (n : Nat) (q : EvQueue) : (u.setEvQueue n q).gate = u.gate := rfl
@[simp] theorem Units.setEvQueue_slc (u : Units) (n : Nat) (q : EvQueue) : (u.setEvQueue n q).slc = u.slc := rfl
@[simp] theorem Units.setEvQueue_volt (u : Units) (n : Nat) (q : EvQueue) : (u.setEvQueue n q).volt = u.volt := rfl
@[simp] theorem Units.setEvQueue_wcs (u : Units) (n : Nat) (q : EvQueue) : (u.setEvQueue n q).wcs = u.wcs := rfl
@[simp] theorem Units.setEvQueue_rsv (u : Units) (n : Nat) (q : EvQueue) : (u.setEvQueue n q).rsv = u.rsv := rfl
@[simp] theorem Units.setEvQueue_pst (u : Units) (n : Nat) (q : EvQueue) : (u.setEvQueue n q).pst = u.pst := rfl
@[simp] theorem Units.setEvQueue_sink (u : Units) (n : Nat) (q : EvQueue) : (u.setEvQueue n q).sink = u.sink := rfl
@[simp] theorem Units.setEvQueue_switch (u : Units) (n : Nat) (q : EvQueue) : (u.setEvQueue n q).switch = u.switch := rfl
@[simp] theorem Units.setEvQueue_can (u : Units) (n : Nat) (q : EvQueue) : (u.setEvQueue n q).can = u.can := rfl
@[simp] theorem Units.setEvQueue_cam (u : Units) (n : Nat) (q : EvQueue) : (u.setEvQueue n q).cam = u.cam := rfl
@[simp] theorem Units.setEvQueue_downs (u : Units) (n : Nat) (q : EvQueue) : (u.setEvQueue n q).downs = u.downs := rfl
@[simp] theorem Units.setEvQueue_stw (u : Units) (n : Nat) (q : EvQueue) : (u.setEvQueue n q).stw = u.stw := rfl
@[simp] theorem Units.setEvQueue_pair (u : Units) (n : Nat) (q : EvQueue) : (u.setEvQueue n q).pair = u.pair := rfl
@[simp] theorem Units.setEvQueue_jet (u : Units) (n : Nat) (q : EvQueue) : (u.setEvQueue n q).jet = u.jet := rfl
@[simp] theorem Units.setEvQueue_pkcfg (u : Units) (n : Nat) (q : EvQueue) : (u.setEvQueue n q).pkcfg = u.pkcfg := rfl
@[simp] theorem Units.setEvQueue_cop (u : Units) (n : Nat) (q : EvQueue) : (u.setEvQueue n q).cop = u.cop := rfl
@[simp] theorem Units.setEvQueue_chain (u : Units) (n : Nat) (q : EvQueue) : (u.setEvQueue n q).chain = u.chain := rfl
@[simp] theorem Units.setEvQueue_pwr (u : Units) (n : Nat) (q : EvQueue) : (u.setEvQueue n q).pwr = u.pwr := rfl

/-- An event that its source's queue has room for leaves every register alone. -/
theorem Units.emit_rd {u : Units} {src kind pay : Nat} {f : Fld} (h : (u.evQueue src).q.length < evDepth src) :
    (u.emit src kind pay).rd f = u.rd f := by
  simp [Units.emit, Units.emitAt, h, Units.rd]

end Sys2Proof.Machine
end

