-- ==== Sys2Proof/Laws/Core.lean ====
section
/-! SUPPORT. A core's registers, stacks and counters: what an instruction's issue and completion do, once for all
instructions. -/
namespace Sys2Proof.Machine

/-! ## The core table -/

@[simp] theorem Units.cpuOf_setCpu (u : Units) (k j : Nat) (x : Cpu) : (u.setCpu k x).cpuOf j = if j = k then x else u.cpuOf j := by
  unfold Units.cpuOf Units.setCpu
  split
  · rename_i h; subst h; exact SMap.get_set_same ..
  · rename_i h; exact SMap.get_set_other _ h
@[simp] theorem Units.rd_setCpu (u : Units) (k : Nat) (x : Cpu) (f : Fld) : (u.setCpu k x).rd f = u.rd f := rfl
@[simp] theorem Units.is_setCpu (u : Units) (k : Nat) (x : Cpu) (f : Fld) : (u.setCpu k x).is f = u.is f := rfl
@[simp] theorem Units.cpuOf_wr (u : Units) (k v : Nat) (f : Fld) : (u.wr f v).cpuOf k = u.cpuOf k := rfl
@[simp] theorem Units.cpuOf_wrb (u : Units) (k : Nat) (b : Bool) (f : Fld) : (u.wrb f b).cpuOf k = u.cpuOf k := rfl

@[simp] theorem Cpu.stk_setStk (x : Cpu) {t n : Nat} (l : List Nat) (ht : t < 4) (hn : n < 4) :
    (x.setStk t l).stk n = if n = t then l else x.stk n := by
  rcases t with _ | _ | _ | _ | t <;> rcases n with _ | _ | _ | _ | n <;> first | omega | simp [Cpu.stk, Cpu.setStk]

/-! ## Counters leave the cores alone and write only themselves -/

@[simp] theorem Units.cpuOf_countN (u : Units) (c o : Fld) (n k : Nat) : (u.countN c o n).cpuOf k = u.cpuOf k := by
  unfold Units.countN; split <;> rfl
@[simp] theorem Units.cpuOf_count (u : Units) (c o : Fld) (k : Nat) : (u.count c o).cpuOf k = u.cpuOf k := Units.cpuOf_countN ..
theorem Units.rd_countN_other (u : Units) {c o f : Fld} (n : Nat) (hc : f.key ≠ c.key) (ho : f.key ≠ o.key) :
    (u.countN c o n).rd f = u.rd f := by
  unfold Units.countN
  split
  · rw [Units.rd_wr_other _ _ ho, Units.rd_wr_other _ _ hc]
  · exact Units.rd_wr_other _ _ hc
theorem Units.rd_count_other (u : Units) {c o f : Fld} (hc : f.key ≠ c.key) (ho : f.key ≠ o.key) : (u.count c o).rd f = u.rd f :=
  Units.rd_countN_other u 1 hc ho

/-! ## Completion -/

/-- The fields completion may write. -/
def doneRegs (k : Nat) : List Fld :=
  [Reg.CORE_INSNS.COUNT k, Reg.CORE_INSNS.OVF k, Reg.CORE_TOKS.COUNT k, Reg.CORE_TOKS.OVF k, Reg.CORE_PAIRS.COUNT k,
   Reg.CORE_PAIRS.OVF k, Reg.CORE_STATUS.RS k]

theorem Units.rd_retire (u : Units) (k tok cls moved : Nat) {f : Fld} (h : f.key ∉ (doneRegs k).map Fld.key) :
    (u.retire k tok cls moved).rd f = u.rd f := by
  simp only [doneRegs, List.map_cons, List.map_nil, List.mem_cons, List.not_mem_nil, or_false, not_or] at h
  obtain ⟨h1, h2, h3, h4, h5, h6, -⟩ := h
  unfold Units.retire
  simp only [Units.rd_setCpu]
  split
  · rw [Units.rd_count_other _ h5 h6, Units.rd_countN_other _ _ h3 h4, Units.rd_count_other _ h1 h2]
  · rw [Units.rd_countN_other _ _ h3 h4, Units.rd_count_other _ h1 h2]

theorem Units.cpuOf_retire (u : Units) (k tok cls moved j : Nat) :
    ∃ p, (u.retire k tok cls moved).cpuOf j = if j = k then { u.cpuOf k with pair := p } else u.cpuOf j := by
  have h : ∀ (w : Units) (p : Option Nat), (∀ j, w.cpuOf j = u.cpuOf j) →
      (w.setCpu k { w.cpuOf k with pair := p }).cpuOf j = if j = k then { u.cpuOf k with pair := p } else u.cpuOf j := by
    intro w p hw; simp only [Units.cpuOf_setCpu, hw]
  unfold Units.retire
  exact ⟨_, h _ _ fun j => by split <;> simp⟩

/-- Outside a repeat, completion goes on at the next pc. -/
theorem Units.complete_plain {u : Units} {k : Nat} (h : (u.cpuOf k).rep = none) (tok npc cls moved : Nat) :
    u.complete k tok npc cls moved = ((u.retire k tok cls moved).wr (Reg.CORE_STATUS.RS k) 0).setPc k npc := by
  unfold Units.complete
  obtain ⟨p, hp⟩ := Units.cpuOf_retire u k tok cls moved k
  simp only [Units.cpuOf_wr, hp, if_true, h]

theorem Units.rd_complete {u : Units} {k : Nat} (h : (u.cpuOf k).rep = none) (tok npc cls moved : Nat) {f : Fld}
    (hf : f.key ∉ (doneRegs k).map Fld.key) : (u.complete k tok npc cls moved).rd f = u.rd f := by
  rw [Units.complete_plain h]
  unfold Units.setPc
  rw [Units.rd_setCpu, Units.rd_wr_other, Units.rd_retire _ _ _ _ _ hf]
  intro he
  apply hf
  rw [he]
  simp [doneRegs]

theorem Units.cpuOf_complete {u : Units} {k : Nat} (h : (u.cpuOf k).rep = none) (tok npc cls moved j : Nat) :
    ∃ p, (u.complete k tok npc cls moved).cpuOf j =
      if j = k then { u.cpuOf k with pair := p, pc := npc % 2 ^ 32 } else u.cpuOf j := by
  rw [Units.complete_plain h]
  obtain ⟨p, hp⟩ := Units.cpuOf_retire u k tok cls moved k
  obtain ⟨q, hq⟩ := Units.cpuOf_retire u k tok cls moved j
  refine ⟨p, ?_⟩
  unfold Units.setPc
  simp only [Units.cpuOf_setCpu, Units.cpuOf_wr, hp, if_true]
  split
  · rfl
  · rename_i hj; rw [hq, if_neg hj]

/-! ## Issue with the operands in registers -/

theorem Units.fresh_parts {u : Units} {k : Nat} (h : u.coreFresh k = true) :
    u.coreRuns k = true ∧ (u.cpuOf k).rep = none ∧ (u.cpuOf k).micro = none := by
  simpa [Units.coreFresh, and_assoc] using h

theorem Units.stkPlan_fits {u : Units} {k t need pops pushes : Nat} (hn : need ≤ (u.stk k t).length)
    (hc : (u.stk k t).length + pushes ≤ stkCap t + pops ∨ pushes = 0) : u.stkPlan k t need pops pushes = .ok (0, 0) := by
  unfold Units.stkPlan
  simp only
  rw [if_neg (by omega)]
  have hb : min (u.rd (stkUsed t k)) (min need (stkCap t) - (u.stk k t).length) = 0 := by omega
  rw [hb]
  have ho : (if pushes = 0 then 0 else (u.stk k t).length + 0 + pushes - pops - stkCap t) = 0 := by split <;> omega
  rw [ho]
  simp

/-- An instruction on the operand stack alone whose operands and results lie in the stack registers. -/
theorem State.op_fits {s : State} {k pops pushes : Nat} (hp : pops ≤ (s.u.stk k (s.u.dsT k)).length)
    (hc : (s.u.stk k (s.u.dsT k)).length + pushes ≤ 16 + pops) (f : Nat → State → State) : s.op k pops pushes 0 0 f = f 0 s := by
  have h16 : stkCap (s.u.dsT k) = 16 := by unfold Units.dsT; split <;> rfl
  unfold State.op State.prep
  rw [Units.stkPlan_fits hp (by omega), Units.stkPlan_fits (Nat.zero_le _) (Or.inr rfl)]
  rfl

theorem Units.dsT_lt (u : Units) (k : Nat) : u.dsT k < 4 := by unfold Units.dsT; split <;> omega

theorem State.stackOp_fits {s : State} {k pops pushes : Nat} (hf : s.u.coreFresh k = true)
    (hp : pops ≤ (s.u.stk k (s.u.dsT k)).length) (hc : (s.u.stk k (s.u.dsT k)).length + pushes ≤ 16 + pops) (tok set : Nat)
    (f : Units → List Nat → List Nat × Units) :
    s.stackOp k tok set pops pushes f = s.onU fun u =>
      ((f u (u.tops k pops)).2.put k pops (f u (u.tops k pops)).1).complete k tok ((f u (u.tops k pops)).2.pcOf k + 1) set 0 := by
  obtain ⟨h1, -, h3⟩ := Units.fresh_parts hf
  unfold State.stackOp State.issue
  rw [h1, h3]
  simp only [Option.isNone_none, Bool.and_self, if_true]
  rw [State.op_fits hp hc]
  rfl

/-- What stands after an instruction on the operand stack alone that writes the registers of `fl` besides: results above the
rest, the next pc, the other stacks, cores and registers as before. -/
theorem State.stackOp_done {s : State} {k pops pushes : Nat} {args rest res : List Nat} {v : Units} {fl : List Fld} {tok set : Nat}
    {f : Units → List Nat → List Nat × Units} (hf : s.u.coreFresh k = true) (hs : s.u.stk k (s.u.dsT k) = args ++ rest)
    (ha : args.length = pops) (hc : rest.length + pushes ≤ 16) (hr : f s.u args = (res, v)) (hv : v.cpu = s.u.cpu)
    (hd : v.dsT k = s.u.dsT k) (hk : ∀ g : Fld, g.key ∉ fl.map Fld.key → v.rd g = s.u.rd g) :
    ∃ t, s.stackOp k tok set pops pushes f = t ∧ t.mem = s.mem ∧ t.pending = s.pending ∧
      t.u.stk k (s.u.dsT k) = res ++ rest ∧ (∀ n, n < 4 → n ≠ s.u.dsT k → t.u.stk k n = s.u.stk k n) ∧
      t.u.pcOf k = (s.u.pcOf k + 1) % 2 ^ 32 ∧ (∀ j, j ≠ k → t.u.cpuOf j = s.u.cpuOf j) ∧
      (∀ g : Fld, g.key ∉ (doneRegs k).map Fld.key → t.u.rd g = v.rd g) ∧
      (∀ g : Fld, g.key ∉ (doneRegs k ++ fl).map Fld.key → t.u.rd g = s.u.rd g) := by
  have hcv : ∀ j, v.cpuOf j = s.u.cpuOf j := fun j => by unfold Units.cpuOf; rw [hv]
  have ht : s.u.tops k pops = args := by unfold Units.tops; rw [hs, ← ha]; simp
  have hrep : ((v.put k pops res).cpuOf k).rep = none := by
    have h := (Units.fresh_parts hf).2.1
    unfold Units.put Units.setStk
    rw [Units.cpuOf_setCpu, if_pos rfl, hcv]
    unfold Cpu.setStk
    split <;> exact h
  have hst : v.stk k (v.dsT k) = args ++ rest := by unfold Units.stk at *; rw [hcv, hd, hs]
  refine ⟨_, rfl, ?_⟩
  rw [State.stackOp_fits hf (by rw [hs, ← ha]; simp) (by rw [hs, ← ha]; simp; omega)]
  simp only [State.onU_mem, State.onU_pending, State.onU_u]
  rw [ht, hr]
  dsimp only
  have hstk : ∀ n, n < 4 → ((v.put k pops res).cpuOf k).stk n = if n = s.u.dsT k then res ++ rest else (s.u.cpuOf k).stk n := by
    intro n hn
    unfold Units.put Units.setStk
    rw [Units.cpuOf_setCpu, if_pos rfl, Cpu.stk_setStk _ _ (Units.dsT_lt ..) hn, hd, hcv]
    split
    · rw [← hd, hst, ← ha]; simp
    · rfl
  have hpair : ∀ (x : Cpu) p pc n, ({ x with pair := p, pc := pc } : Cpu).stk n = x.stk n := fun x p pc n => by
    unfold Cpu.stk; split <;> rfl
  have hrd : ∀ g : Fld, g.key ∉ (doneRegs k).map Fld.key →
      ((v.put k pops res).complete k tok (v.pcOf k + 1) set 0).rd g = v.rd g := fun g hg => by
    rw [Units.rd_complete hrep _ _ _ _ hg]; rfl
  obtain ⟨p, hp⟩ := Units.cpuOf_complete hrep tok (v.pcOf k + 1) set 0 k
  rw [if_pos rfl] at hp
  refine ⟨trivial, trivial, ?_, ?_, ?_, ?_, hrd, ?_⟩
  · unfold Units.stk
    rw [hp, hpair, hstk _ (Units.dsT_lt ..), if_pos rfl]
  · intro n hn hne
    unfold Units.stk
    rw [hp, hpair, hstk n hn, if_neg hne]
  · rw [show v.pcOf k = s.u.pcOf k by unfold Units.pcOf; rw [hcv]] at hp ⊢
    show (Units.cpuOf _ k).pc = _
    rw [hp]
  · intro j hj
    obtain ⟨q, hq⟩ := Units.cpuOf_complete hrep tok (v.pcOf k + 1) set 0 j
    rw [hq, if_neg hj]
    unfold Units.put Units.setStk
    rw [Units.cpuOf_setCpu, if_neg hj, hcv]
  · intro g hg
    rw [List.map_append, List.mem_append, not_or] at hg
    rw [hrd g hg.1, hk g hg.2]

/-! ## Instructions on both stacks -/

theorem State.op_fits_both {s : State} {k pops pushes rpops rpushes : Nat} (hp : pops ≤ (s.u.stk k (s.u.dsT k)).length)
    (hc : (s.u.stk k (s.u.dsT k)).length + pushes ≤ 16 + pops) (hrp : rpops ≤ (s.u.stk k (s.u.rsT k)).length)
    (hrc : (s.u.stk k (s.u.rsT k)).length + rpushes ≤ 8 + rpops) (f : Nat → State → State) :
    s.op k pops pushes rpops rpushes f = f 0 s := by
  have h16 : stkCap (s.u.dsT k) = 16 := by unfold Units.dsT; split <;> rfl
  have h8 : stkCap (s.u.rsT k) = 8 := by unfold Units.rsT Units.dsT; split <;> rfl
  unfold State.op State.prep
  rw [Units.stkPlan_fits hp (by omega), Units.stkPlan_fits hrp (by omega)]
  rfl

theorem Units.rsT_lt (u : Units) (k : Nat) : u.rsT k < 4 := by unfold Units.rsT Units.dsT; split <;> omega
theorem Units.rsT_ne (u : Units) (k : Nat) : u.rsT k ≠ u.dsT k := by unfold Units.rsT; omega

/-- After both stacks have been rewritten and the instruction has completed. -/
theorem Units.done_both {u : Units} {k pops rpops : Nat} {args rest rargs rrest d r : List Nat} (hrep : (u.cpuOf k).rep = none)
    (hs : u.stk k (u.dsT k) = args ++ rest) (hr : u.stk k (u.rsT k) = rargs ++ rrest) (ha : args.length = pops)
    (hra : rargs.length = rpops) (tok npc set : Nat) :
    let v := ((u.put k pops d).rput k rpops r).complete k tok npc set 0
    v.stk k (u.dsT k) = d ++ rest ∧ v.stk k (u.rsT k) = r ++ rrest ∧
      (∀ n, n < 4 → n ≠ u.dsT k → n ≠ u.rsT k → v.stk k n = u.stk k n) ∧ v.pcOf k = npc % 2 ^ 32 ∧
      (∀ j, j ≠ k → v.cpuOf j = u.cpuOf j) ∧ (∀ g : Fld, g.key ∉ (doneRegs k).map Fld.key → v.rd g = u.rd g) := by
  have hdT : (u.put k pops d).dsT k = u.dsT k := rfl
  have hrT : (u.put k pops d).rsT k = u.rsT k := rfl
  have hrep2 : (((u.put k pops d).rput k rpops r).cpuOf k).rep = none := by
    unfold Units.rput Units.put Units.setStk
    simp only [Units.cpuOf_setCpu, if_true]
    unfold Cpu.setStk
    repeat (first | exact hrep | split)
  have hstk : ∀ n, n < 4 → (((u.put k pops d).rput k rpops r).cpuOf k).stk n =
      if n = u.dsT k then d ++ rest else if n = u.rsT k then r ++ rrest else (u.cpuOf k).stk n := by
    intro n hn
    unfold Units.rput
    rw [hrT]
    unfold Units.setStk
    rw [Units.cpuOf_setCpu, if_pos rfl, Cpu.stk_setStk _ _ (Units.rsT_lt ..) hn]
    have hx : ∀ m, m < 4 → (u.put k pops d).stk k m = if m = u.dsT k then d ++ rest else u.stk k m := by
      intro m hm
      unfold Units.put Units.stk Units.setStk
      rw [Units.cpuOf_setCpu, if_pos rfl, Cpu.stk_setStk _ _ (Units.dsT_lt ..) hm]
      split
      · have : (u.cpuOf k).stk (u.dsT k) = args ++ rest := hs
        rw [this, ← ha]; simp
      · rfl
    split
    · rename_i hne; subst hne
      rw [if_neg (Units.rsT_ne u k), hx _ (Units.rsT_lt ..), if_neg (Units.rsT_ne u k), hr, ← hra]; simp
    · have := hx n hn; unfold Units.stk at this; rw [this]
  have hoth : ∀ j, j ≠ k → ((u.put k pops d).rput k rpops r).cpuOf j = u.cpuOf j := by
    intro j hj
    unfold Units.rput Units.put Units.setStk
    rw [Units.cpuOf_setCpu, if_neg hj, Units.cpuOf_setCpu, if_neg hj]
  have hpair : ∀ (x : Cpu) p pc n, ({ x with pair := p, pc := pc } : Cpu).stk n = x.stk n := fun x p pc n => by
    unfold Cpu.stk; split <;> rfl
  obtain ⟨p, hp⟩ := Units.cpuOf_complete hrep2 tok npc set 0 k
  rw [if_pos rfl] at hp
  intro v
  have hv : ∀ n, n < 4 → v.stk k n = if n = u.dsT k then d ++ rest else if n = u.rsT k then r ++ rrest else (u.cpuOf k).stk n := by
    intro n hn; show Cpu.stk (Units.cpuOf _ k) n = _; rw [hp, hpair, hstk n hn]
  refine ⟨by rw [hv _ (Units.dsT_lt ..), if_pos rfl], by rw [hv _ (Units.rsT_lt ..), if_neg (Units.rsT_ne u k), if_pos rfl],
    fun n hn h1 h2 => by rw [hv n hn, if_neg h1, if_neg h2]; rfl, ?_, ?_, ?_⟩
  · show (Units.cpuOf _ k).pc = _; rw [hp]
  · intro j hj
    obtain ⟨q, hq⟩ := Units.cpuOf_complete hrep2 tok npc set 0 j
    show Units.cpuOf _ j = _
    rw [hq, if_neg hj, hoth j hj]
  · intro g hg
    show Units.rd _ g = _
    rw [Units.rd_complete hrep2 _ _ _ _ hg]; rfl

/-- The hypotheses every instruction on both stacks shares. -/
theorem State.retOp_done {s : State} {k tok pops pushes rpops rpushes : Nat} {args rest rargs rrest : List Nat}
    {f : Units → List Nat → List Nat → List Nat × List Nat} (hf : s.u.coreFresh k = true)
    (hs : s.u.stk k (s.u.dsT k) = args ++ rest) (hr : s.u.stk k (s.u.rsT k) = rargs ++ rrest) (ha : args.length = pops)
    (hra : rargs.length = rpops) (hc : rest.length + pushes ≤ 16) (hrc : rrest.length + rpushes ≤ 8) :
    s.retOp k tok pops pushes rpops rpushes f = s.onU fun u =>
      ((u.put k pops (f s.u args rargs).1).rput k rpops (f s.u args rargs).2).complete k tok (s.u.pcOf k + 1) 0 0 := by
  have ht : s.u.tops k pops = args := by unfold Units.tops; rw [hs, ← ha]; simp
  have hrt : s.u.rtops k rpops = rargs := by unfold Units.rtops; rw [hr, ← hra]; simp
  obtain ⟨h1, -, h3⟩ := Units.fresh_parts hf
  unfold State.retOp State.issue
  rw [h1, h3]
  simp only [Option.isNone_none, Bool.and_self, if_true]
  rw [State.op_fits_both (by rw [hs, ← ha]; simp) (by rw [hs, ← ha]; simp; omega) (by rw [hr, ← hra]; simp) (by rw [hr, ← hra]; simp; omega)]
  simp only [State.onU, ht, hrt]
  rfl

theorem State.jumpOp_done {s : State} {k set pops rpops rpushes : Nat} {args rest rargs rrest : List Nat}
    {f : Units → List Nat → List Nat → Nat × List Nat} (hf : s.u.coreFresh k = true)
    (hs : s.u.stk k (s.u.dsT k) = args ++ rest) (hr : s.u.stk k (s.u.rsT k) = rargs ++ rrest) (ha : args.length = pops)
    (hra : rargs.length = rpops) (hc : rest.length ≤ 16) (hrc : rrest.length + rpushes ≤ 8) :
    s.jumpOp k set pops rpops rpushes f = s.onU fun u =>
      ((u.put k pops []).rput k rpops (f s.u args rargs).2).complete k 2 (f s.u args rargs).1 set 0 := by
  have ht : s.u.tops k pops = args := by unfold Units.tops; rw [hs, ← ha]; simp
  have hrt : s.u.rtops k rpops = rargs := by unfold Units.rtops; rw [hr, ← hra]; simp
  unfold State.jumpOp State.issueAlone
  rw [if_pos hf]
  dsimp only
  rw [State.op_fits_both (by rw [hs, ← ha]; simp) (by rw [hs, ← ha]; simp; omega) (by rw [hr, ← hra]; simp) (by rw [hr, ← hra]; simp; omega)]
  simp only [State.onU, ht, hrt]

end Sys2Proof.Machine
end

