-- ==== Sys2Proof/Tests/Slice0.lean ====
section
/-! SUPPORT. Small checks: ill-formed commands are refused, table words decode, and for every statement with hypotheses a state and operands
that meet them (the witnesses, named hyp_<statement>). -/
namespace Sys2Proof.Tests
set_option Elab.async false
open Sys2Proof Sys2Proof.Machine

/-! ## Building states -/

/-- The state after reset with some register fields written, and more of it changed. -/
def mk (vals : List (Fld × Nat)) (f : Units → Units := id) : State :=
  { State.reset with u := f (vals.foldl (fun u p => u.wr p.1 p.2) State.reset.u) }

/-- Every core released, with the entries of core k's normal stacks given (top first). -/
def core (k : Nat) (ds rs : List Nat) (vals : List (Fld × Nat) := []) (f : Units → Units := id) : State :=
  mk ([(Reg.RST_HELD_LO.CORE, 0), (Reg.RST_HELD_HI.CORE, 0)] ++ vals) fun u => f ((u.setStk k 0 ds).setStk k 1 rs)

/-- n entries of a stack. -/
def full (n : Nat) : List Nat := List.replicate n 7

/-- Core k's own state changed. -/
def onCpu (k : Nat) (g : Cpu → Cpu) (u : Units) : Units := u.setCpu k (g (u.cpuOf k))

/-- A frame of session tag 9 in mailbox 15 that carries a command and its payload. -/
def frame (cmd : Nat) (payload : List Nat) (tag : Nat := 9) : MbFrame :=
  { transport := 0, src := 5, lane := 0, partner := false, mbox := 15, tag := tag, seq := 1, cmd := cmd, payload := payload, raw := [] }

/-- Steward firmware runs a service session with tag 9 and has one frame waiting. -/
def served (f : MbFrame) (vals : List (Fld × Nat) := []) (g : Units → Units := id) : State :=
  mk ([(Reg.SES_STATUS.OPEN, 1), (Reg.SES_STATUS.LEVEL, 1)] ++ vals) fun u =>
    g { u with stw := { u.stw with running := true, tag := 9, arrivals := [f] } }

/-- A committed group of n bytes. -/
def aGroup (n gseq : Nat) : Group :=
  { gseq := gseq, tMin := 0, tMax := 0, fprint := 0, fgen := 0, rcount := 0, sealed := false, hash := [], bytes := List.replicate n 0 }
/-- An open volume. -/
def aVol (isOpen : Bool) : Volume := { id := List.replicate 16 1, isOpen := isOpen, hash := [] }
def withVols (vs : List Volume) (u : Units) : Units := { u with rsv := { u.rsv with vols := vs } }
def withPwr (g : Power → Power) (u : Units) : Units := { u with pwr := g u.pwr }


/-- A still angle x published by an engine. -/
def stillAt (x : Int) (e : AngEngine := {}) : AngEngine :=
  { e with segs := [{ start := 0, theta := x, t0 := 0, w0 := 0, a := 0, cap := x, floor := x, full := true, crank := true }] }
/-- Stream i with a given state. -/
def stream (i : Nat) (x : Stream) (vals : List (Fld × Nat) := []) (f : Units → Units := id) : State := mk vals fun u => f (u.setStrm i x)
def withRsv (g : Reservoir → Reservoir) (u : Units) : Units := { u with rsv := g u.rsv }

/-! ## Ill-formed commands: one for each check, which the check refuses and whose meaning stops -/

def stops (i : Instr) : Bool := match exec i State.reset with | .fault .noSuchUnit => true | _ => false
def illFormed (i : Instr) : Bool := !i.wf && stops i

theorem test_wf_refuses_core_operands : ([.registerWrite 65 0x100000 0, .registerWrite 0 (2 ^ 32) 0, .registerWrite 0 0x100002 0, .nop 65,
    .eventRecordArrive 0xFFF, .eventRecordArrive 0xD000, .evtRingRdWrite 65 false 0, .evtRingRdWrite 0 false 65536, .lit 65 0, .lit 0 4096, .sk 65 0 false,
    .sk 0 8 false, .skf 65 0, .skf 0 6, .skc 65 0 false, .skc 0 10 false, .ski 65 0 0 false, .ski 0 8 0 false, .ski 0 0 64 false, .inp 65 0, .inp 0 2048,
    .wcsEntry 65 0 .clean, .wcsEntry 0 256 .clean, .undef 65 0, .undef 0 65536, .coreApWrite 65 0 0, .coreApWrite 0 8 0, .coreSpillCfgWrite 65 0 0,
    .coreSpillCfgWrite 0 4 0] : List Instr).all illFormed = true := by decide +kernel
theorem test_wf_refuses_acquisition_operands : ([.bsnMonitorReading 8 0 0, .bsnMonitorReading 0 65536 0, .bsnMonitorReading 0 0 256, .bsnVctrlUpdate 8,
    .angEnable 4, .hallTransition 4 0 0, .hallTransition 0 0 8, .angDoneWrite 4 0 0, .angDoneWrite 0 2 0, .gptpSyncRx 13 0 0, .streamEnable 54, .ainGo 32 0,
    .finGo 16 0, .dinSnapGo 6 0, .streamGridPoint 48 0, .trgActionApply 5 0, .openWireTest 0 96 0 0, .openWireTest 1 16 0 0, .openWireTest 5 4 0 0,
    .openWireTest 2 0 0 0, .outputFaultDetect true 16 0, .outputFaultDetect false 8 0] : List Instr).all illFormed = true := by decide +kernel
theorem test_wf_refuses_movement_operands : ([.runClaim 64 0, .slcError 64 0 .none, .slcError 0 3 .none, .weirReserve 65 0 0, .weirReserve 0 16 0, .eraseStart 160 0,
    .eraseStart 0 3725, .eraseAllowanceRefill 160, .fabricTimeout 0 65, .fabricTimeout 2 64, .fabricTimeout 5 0, .pulseDeliver (4 * 256), .pulseDeliver 112,
    .domainWakeRequest 0, .domainWakeRequest 26, .debugAccess false (2 ^ 40) 0, .debugAccess false 2 0] : List Instr).all illFormed = true := by decide +kernel
theorem test_wf_refuses_network_operands : ([.netLinkUp 13 1 false, .netLinkUp 0 0 false, .netLinkUp 0 5 false, .tc10Sleep 7, .tc10Sleep 12, .netPdiagDone 13 1 0,
    .netPdiagDone 0 0 0, .netPdiagDone 0 5 0, .netPdiagDone 0 1 1024, .sqiLow 13 0, .sqiLow 0 8, .sinkEnable 3, .canRxpop 12, .canErrorState 12 0 0 0,
    .canErrorState 0 3 0 0, .canErrorState 0 0 256 0, .canErrorState 0 0 0 256, .camLockChange 8 0, .camLockChange 0 6, .camI2cDone 8 0 false,
    .camI2cDone 0 256 false, .canLineFault 12 0, .canLineFault 0 4] : List Instr).all illFormed = true := by decide +kernel
theorem test_wf_refuses_host_operands : ([.dockDatagramRx 8 0 0 0 [], .dockDatagramRx 0 0 65536 0 [], .dockDatagramRx 0 0 0 65536 [], .dockPauseFrame 8 0,
    .dockPauseFrame 0 65536, .twinLaneUp 2, .mailboxFrameRx 2 0 0 [], .mailboxFrameRx 0 0 8 [], .identify [], .volList [[]], .pstWordWrite 4096 0, .wake 0 0,
    .wake 7 0, .wake 1 16, .trimLoad true true true 0 1, .trimLoad true true true 0x7240 0, .trimLoad true true true 0x7240 256,
    .coprocessorOpDone 17 .clean false 0, .coprocessorOpDone 0 .clean false 256] : List Instr).all illFormed = true := by decide +kernel
theorem test_wf_admits : ([.nop 64, .eventRecordArrive 0x1000, .openWireTest 5 3 0 0, .fabricTimeout 4 63, .pulseDeliver (3 * 256 + 111), .tc10Sleep 8,
    .registerWrite 64 0xFFFFFFFC 0] : List Instr).all Instr.wf = true := by decide +kernel

/-! ## The spec's own worked examples; every expected value is the example's -/

def afterNext (i : Instr) (s : State) : State := match exec i s with | .next t => t | _ => s
/-- 10_ehrel_isa.md, literals: 0x1234_5678 by LIT 0x012, LITX 0x345 and LITX 0x678; LIT sign-extends. -/
theorem test_literals :
    ((afterNext (.lit 0 0x012) (core 0 [] [])).u.stk 0 0).head? = some 0x12 ∧
    ((afterNext (.litx 0 0x345) (core 0 [0x12] [])).u.stk 0 0).head? = some 0x12345 ∧
    ((afterNext (.litx 0 0x678) (core 0 [0x12345] [])).u.stk 0 0).head? = some 0x12345678 ∧
    ((afterNext (.lit 0 0x800) (core 0 [] [])).u.stk 0 0).head? = some 0xFFFFF800 := by decide +kernel
/-- 10_ehrel_isa.md, closing a deadline slot: SKNZ with K passes the branch over when x is not 0, and keeps x. -/
theorem test_skip_keeps :
    (afterNext (.sk 0 1 true) (core 0 [5] [])).u.pcOf 0 = 2 ∧ (afterNext (.sk 0 1 true) (core 0 [0] [])).u.pcOf 0 = 1 ∧
    ((afterNext (.sk 0 1 true) (core 0 [5] [])).u.stk 0 0).head? = some 5 := by decide +kernel
/-- 02_angle_bases.md, the 60-2 crank: positions 44 at 348 degrees from the first tooth's 84, 57 at 426, the gap of two before position 0. -/
theorem test_wheel :
    let s := mk [(Reg.ANG_WHEEL.POS 0 0, 0xFFFFFFFF), (Reg.ANG_WHEEL.POS 0 1, 0x03FFFFFF), (Reg.ANG_WHEEL_CFG.POSITIONS 0, 60)]
    s.u.wheelValid 0 = true ∧ (s.u.gaps 0).map (fun g => (g.start, g.width)) = [(58, 2)] ∧ 86016 + s.u.wheelAngle 0 44 = 356352 ∧
      86016 + s.u.wheelAngle 0 57 = 436224 ∧ s.u.classify 0 82760 (27586, 1) = .gap 2 ∧ s.u.classify 0 27586 (27586, 1) = .tooth := by decide +kernel
/-- 06_runnels.md: the first and last length words of a packet of 2,887 words. -/
theorem test_length_words :
    lengthWord 63 63 true true false false false = 0x003F033F ∧ lengthWord 52 2887 false false false false false = 0x0B470034 := by decide
/-- 08_sluices.md: the accesses of the example's reads and writes (bursts of 509 and 492 bytes, 1,001 bytes written). -/
theorem test_sluice_accesses :
    let pieces (a n : Nat) : List Nat := (List.range 40).foldl (fun (p : List Nat × Nat × Nat) _ =>
      if p.2.2 = 0 then p else let k := accessSize p.2.1 p.2.2; (p.1 ++ [k], p.2.1 + k, p.2.2 - k)) ([], a, n) |>.1
    pieces 0x1003 509 = [1, 4, 8, 16] ++ List.replicate 15 32 ∧ pieces 0x1200 492 = List.replicate 15 32 ++ [8, 4] ∧
      pieces 0x106 1001 = [2, 8, 16] ++ List.replicate 30 32 ++ [8, 4, 2, 1] ∧ pieces 0x106 509 = [2, 8, 16] ++ List.replicate 15 32 ++ [2, 1] := by
  decide +kernel
/-- 04_acquisition.md, cylinder pressure on a V10: header words 0, 3 and 4, and the marker. -/
theorem test_pressure_header :
    let s := mk [(Reg.FIN_STREAM.BASE 0, 0), (Reg.FIN_STEP.AC 0, 128), (Reg.FIN_CFG.TRIG 0, 4), (Reg.FIN_CFG.FE 0, 2), (Reg.FIN_CFG.RANGE 0, 1)]
    let h := s.u.header 32 { kind := 5, gap := false, tstep := false, time := 0, angle := 0x01187002, words := [] } 0x41
    h.getD 0 0 = 0x52000041 ∧ h.getD 3 0 = 0x01187002 ∧ h.getD 4 0 = 0x00340080 ∧ h.getD 5 0 = 0 ∧ markWord 1 552960 = 0x90087000 := by decide +kernel
/-- 07_records.md: bytes 0x00 to 0x1B of the example's SAMPLE header. -/
theorem test_sample_header :
    (recHeader 1 0 37 92 0x17F30A2100001000 0x01157800 0 43).take 28 =
      [0x01, 0, 0x25, 0, 0x5C, 0, 0, 0, 0, 0x10, 0, 0, 0x21, 0x0A, 0xF3, 0x17, 0, 0x78, 0x15, 0x01, 0, 0, 0, 0, 0x2B, 0, 0, 0] := by decide +kernel
/-- 11_pipeline_and_timing.md: the required periods of 10,000, 14,500, 18,000, 20,000 and 21,000 rpm under a budget of 5,000 tokens. -/
theorem test_required_periods : [10000, 14500, 18000, 20000, 21000].map (fun rpm => treqOf ⟨2, some (100000000000 / (6 * rpm * 5000)), false⟩ 0) =
    [333, 229, 185, 166, 158] := by decide +kernel
/-- 16_networks.md: a permit for channel 3 with RATE 20, BURST 2 and MODE 2 in words 0x019 to 0x01B. -/
theorem test_permit :
    let s := mk [] fun u => { u with pst := { u.pst with words := [(0x19, some 0x00014022), (0x1A, some 0x6F0), (0x1B, some 0x6F0)] } }
    let u := s.u.permitLoad 3
    u.rd (Reg.CAN_PERMIT0.RATE 3) = 20 ∧ u.rd (Reg.CAN_PERMIT0.BURST 3) = 2 ∧ u.rd (Reg.CAN_PERMIT0.MODE 3) = 2 := by decide +kernel
/-- 16_networks.md, striping: with lanes 0, 2 and 5 up, chunks 0 and 3 go to lane 0, 1 and 4 to lane 2, 2 and 5 to lane 5. -/
theorem test_striping :
    let m := 1048576
    (dealTo [0, 2, 5] 0 (chunksOf 6 0 (6 * m)) [{ lane := 0, host := 0, todo := [] }, { lane := 2, host := 0, todo := [] }, { lane := 5, host := 0, todo := [] }]).map (fun d => (d.lane, d.todo)) =
      [(0, [(0, m), (3 * m, 4 * m)]), (2, [(m, 2 * m), (4 * m, 5 * m)]), (5, [(2 * m, 3 * m), (5 * m, 6 * m)])] := by decide +kernel
/-- 20_power.md, parked overnight: ports 8 and 9 and CAN channels 0 and 1 may wake the module, 1,405 uA; port 12 as well, 1,805. -/
theorem test_always_on_load :
    let v := [(Reg.NET_PCFG.WAKEEN 8, 1), (Reg.NET_PCFG.WAKEEN 9, 1), (Reg.CAN_CFG.WAKEEN 0, 1), (Reg.CAN_CFG.WAKEEN 1, 1)]
    (mk v).u.aoLoad = 1405 ∧ (mk ((Reg.NET_PCFG.WAKEEN 12, 1) :: v)).u.aoLoad = 1805 := by decide +kernel
/-- 22_connectors_electrical.md, the desert car: at 84.5 degrees P_max is 57.6 W; at 84 it is 59.2 W and at 85 it is 56 W. -/
theorem test_envelope : overEnvelope 5920 84 = false ∧ overEnvelope 5921 84 = true ∧ overEnvelope 5600 85 = false ∧ overEnvelope 5601 85 = true := by decide
/-! ## The block, and instructions on the stacks -/

theorem hyp_StepTakesFront : ({ State.reset with pending := [.nop 64] }).pending = [.nop 64] ∧ State.reset.pending = [] := by decide
theorem hyp_WellFormedCompletes : (Instr.nop 64).wf = true ∧ (Instr.nop 65).wf = false := by decide
theorem hyp_MemoryStaysCanonical : ∃ t, State.reset.Inv ∧ step State.reset = .next t :=
  ⟨_, by unfold State.Inv; decide, rfl⟩
theorem hyp_FedRunsAreSafe : ({ State.reset with pending := [.nop 64, .slcGo 63] }).Fed := by
  unfold State.Fed; decide

theorem hyp_StackShuffles :
    Issues (core 64 (full 15) []) 64 [] (full 15) 1 ∧ Issues (core 64 (full 15) []) 64 [7] (full 14) 2 ∧
    Issues (core 0 (full 15) []) 0 [7, 7] (full 13) 3 ∧ Issues (core 63 (full 16) []) 63 [7, 7, 7] (full 13) 3 := by
  unfold Issues; decide
theorem hyp_Arithmetic :
    Issues (core 64 (0x80000000 :: full 15) []) 64 [(0x80000000 : Word).toNat] (full 15) 1 ∧
    Issues (core 0 (0xFFFFFFFF :: 1 :: full 14) [] [(Reg.CORE_STATUS.C 0, 1)]) 0 [(0xFFFFFFFF : Word).toNat, (1 : Word).toNat] (full 14) 1 := by
  unfold Issues; decide
theorem hyp_Shifts : Issues (core 0 (63 :: 1 :: full 14) []) 0 [(63 : Word).toNat, (1 : Word).toNat] (full 14) 1 := by
  unfold Issues; decide
theorem hyp_Division : (0xFFFFFFFF : Word) ≠ 0 ∧
    Issues (core 0 (0xFFFFFFFF :: 0x80000000 :: full 14) []) 0 [(0xFFFFFFFF : Word).toNat, (0x80000000 : Word).toNat] (full 14) 2 := by
  unfold Issues; decide
theorem hyp_LogicBitsProducts :
    Issues (core 0 (1 :: 2 :: full 14) []) 0 [(1 : Word).toNat, (2 : Word).toNat] (full 14) 2 ∧
    Issues (core 64 (0xFF00 :: full 15) []) 64 [(0xFF00 : Word).toNat] (full 15) 1 := by
  unfold Issues; decide
theorem hyp_DivisionByZero :
    Issues (core 64 (0 :: 5 :: full 14) []) 64 [0, 5] (full 14) 2 ∧ (core 64 (0 :: 5 :: full 14) []).u.is (Reg.CORE_STATUS.AFT 64) = false ∧
    Issues (core 0 (0 :: 5 :: full 14) [] [(Reg.CORE_STATUS.AFT 0, 1)]) 0 [0, 5] (full 14) 2 ∧
      (core 0 (0 :: 5 :: full 14) [] [(Reg.CORE_STATUS.AFT 0, 1)]).u.is (Reg.CORE_STATUS.AFT 0) = true := by
  unfold Issues; decide
theorem hyp_ReturnStackMoves :
    IssuesBoth (core 64 (full 16) (full 7)) 64 [7] (full 15) 0 [] (full 7) 1 ∧ IssuesBoth (core 0 (full 15) (full 8)) 0 [] (full 15) 1 [7] (full 7) 0 ∧
    IssuesBoth (core 0 (full 15) (full 8)) 0 [] (full 15) 1 [7] (full 7) 1 ∧ IssuesBoth (core 0 (full 16) (full 8)) 0 [] (full 16) 0 [7] (full 7) 0 ∧
    IssuesBoth (core 0 (14 :: full 15) (full 8)) 0 [14] (full 15) 1 [] (full 8) 0 ∧ 14 < (full 15).length ∧ 14 ≤ 15 := by
  unfold IssuesBoth Issues; decide
theorem hyp_ConstantsAndBranches : 4095 < 4096 ∧
    IssuesBoth (core 64 (full 16) (full 8)) 64 [] (full 16) 0 [7] (full 7) 0 ∧ IssuesBoth (core 0 (full 16) (full 7)) 0 [7] (full 15) 0 [] (full 7) 1 ∧
    IssuesBoth (core 0 (full 16) (full 8)) 0 [7] (full 15) 0 [] (full 8) 0 ∧ IssuesBoth (core 0 (full 16) (full 8)) 0 [] (full 16) 0 [] (full 8) 0 ∧
    IssuesBoth (core 0 (full 16) (full 7)) 0 [] (full 16) 0 [] (full 7) 1 ∧ IssuesBoth (core 0 (full 15) (full 8)) 0 [] (full 15) 1 [] (full 8) 0 ∧
    IssuesBoth (core 0 (full 16) (full 8)) 0 [7] (full 15) 1 [] (full 8) 0 := by
  unfold IssuesBoth Issues; decide
theorem hyp_Skips : 7 < 8 ∧ 5 < 6 ∧ 9 < 10 ∧ 63 < 64 ∧
    Issues (core 64 (0 :: full 15) []) 64 [(0 : Word).toNat] (full 15) 1 ∧ Issues (core 0 (full 16) []) 0 [] (full 16) 0 ∧
    Issues (core 0 (1 :: 2 :: full 14) []) 0 [(1 : Word).toNat, (2 : Word).toNat] (full 14) 2 := by
  unfold Issues; decide
theorem hyp_StackUnderflow : 64 < 65 ∧ (core 64 [1] []).u.coreFresh 64 = true ∧
    (core 64 [1] []).u.stkDepth 64 ((core 64 [1] []).u.dsT 64) < 2 ∧ (core 64 [1] []).u.stkDepth 64 ((core 64 [1] []).u.rsT 64) = 0 := by
  decide

/-! ## Memory and IO -/

theorem hyp_LoadsFromDataRam :
    Issues (core 0 (0x1FFFC :: full 14) []) 0 [0x1FFFC] (full 14) 2 ∧ 0x1FFFC < 0x20000 ∧ (∀ l ∈ loadForms 0, 0x1FFFC % l.n = 0) ∧
    ((core 0 (0x1FFFC :: full 14) []).u.cpuOf 0).sbuf = [] ∧
    Issues (core 0 (0x1FFFC :: full 14) [] [] (onCpu 0 fun c => { c with sbuf := [⟨0x1FFFC, 4, 0xFFFFFFFF, dataRam 0 + 0x1FFFC, 0, 0⟩] })) 0
      [0x1FFFC] (full 14) 2 ∧
    Issues (core 64 (full 15) []) 64 [] (full 15) 1 ∧ frameAt (core 64 (full 15) []) 64 2047 < 0x20000 := by
  unfold Issues; decide
theorem hyp_Stores :
    ((core 0 (4 :: 5 :: full 14) []).u.cpuOf 0).sbuf.length < 4 ∧ Issues (core 0 (4 :: 5 :: full 14) []) 0 [4, 5] (full 14) 1 ∧
    (∀ l ∈ storeForms 0, 4 % l.n = 0) ∧ Issues (core 64 (5 :: full 15) []) 64 [5] (full 15) 0 ∧
    (core 64 [] [] [] (onCpu 64 fun c => { c with sbuf := [⟨0x1FFFC, 4, 1, dataRam 64 + 0x1FFFC, 0, 0⟩] })).u.coreLive 64 = true := by
  unfold Issues; decide
theorem hyp_FaultsAndResponses :
    Issues (core 0 (0x1FFFF :: 1 :: full 13) []) 0 (0x1FFFF :: 1 :: full 13) [] 0 ∧ (core 0 (0x1FFFF :: 1 :: full 13) []).u.pcOf 0 < 2 ^ 32 ∧
    (∀ l ∈ loadForms 0, 0x1FFFF % l.n ≠ 0 ∨ l.n = 1) ∧
    (core 0 (0xF0000000 :: 1 :: full 13) []).u.dmap 0 0xF0000000 = .none ∧ 0xF0000000 % 4 = 0 := by
  unfold Issues; decide
theorem hyp_FaultsAndResponses_response :
    let s := core 0 [] [] [] (onCpu 0 fun c => { c with acc := some (.load 0x1000000 4 false false false) })
    s.u.coreLive 0 = true ∧ (s.u.cpuOf 0).rep = none ∧ s.u.dmap 0 0x1000000 = .phys (sramBase 0) 0 ∧ physTarget (sramBase 0) = .sram 0 ∧
      s.u.mustWait (sramBase 0) = false ∧ s.u.physCode false (sramBase 0) 4 = 0 ∧ s.u.stk 0 (s.u.dsT 0) = [] := by
  decide
theorem hyp_LoadReserveStoreConditional :
    let s := core 0 (0x1FFFC :: 1 :: full 14) []
    let r := core 0 (0x1FFFC :: 1 :: full 14) [] [] (onCpu 0 fun c => { c with res := some ((dataRam 0 + 0x1FFFC) / 16) })
    (s.u.cpuOf 0).sbuf = [] ∧ Issues s 0 [0x1FFFC] (1 :: full 14) 1 ∧ Issues s 0 [0x1FFFC, 1] (full 14) 1 ∧
      (s.u.cpuOf 0).res ≠ some ((dataRam 0 + 0x1FFFC) / 16) ∧ Issues r 0 [0x1FFFC, 1] (full 14) 1 ∧ (r.u.cpuOf 0).sbuf = [] ∧
      (r.u.cpuOf 0).res = some ((dataRam 0 + 0x1FFFC) / 16) ∧ (r.u.cpuOf 0).res ≠ none := by
  unfold Issues; decide
theorem hyp_InstructionSpace : 0x7FFF < 0x8000 ∧ Issues (core 64 (0x7FFF :: full 15) []) 64 [0x7FFF] (full 15) 1 ∧
    Issues (core 0 (0x7FFF :: 0xFFFF :: full 14) []) 0 [0x7FFF, 0xFFFF] (full 14) 0 := by
  unfold Issues; decide
theorem hyp_IoAccesses :
    let s := core 0 (full 15) [] [(Reg.CORE_IOB.ADDR 0, 0x400)]
    0x1000 ≤ (4 * s.u.rd (Reg.CORE_IOB.ADDR 0) + 4 * 2047) % 2 ^ 32 ∧ (s.u.cpuOf 0).sbuf = [] ∧ Issues s 0 [] (full 15) 1 ∧
      Issues s 0 [7] (full 14) 0 ∧ Issues (core 0 (0x1000 :: full 15) []) 0 [0x1000] (full 15) 1 ∧
      Issues (core 0 (0x1000 :: 1 :: full 14) []) 0 [0x1000, 1] (full 14) 0 ∧ Issues (core 0 (8 :: full 15) []) 0 [0x008] (full 15) 1 ∧
      Issues (core 0 (12 :: full 15) []) 0 [0x00C] (full 15) 1 ∧ Issues (core 0 (12 :: 0xFFFFFFFF :: full 14) []) 0 [0x00C, 0xFFFFFFFF] (full 14) 0 := by
  unfold Issues; decide

/-! ## Prefixes, system operations, events -/

theorem hyp_Prefixes :
    let s := core 0 (65 :: full 15) []
    let z := core 0 (0 :: full 15) [] [] (onCpu 0 fun c => { c with pc := 0x7FFE })
    let r := core 0 (1 :: 2 :: full 14) [] [(Reg.CORE_CNT.CNT 0, 1), (Reg.CORE_STATUS.RS 0, 1)] (onCpu 0 fun c => { c with rep := some ⟨4, false⟩ })
    Issues s 0 [65] (full 15) 0 ∧ s.u.is (Reg.CORE_STATUS.RS 0) = false ∧ 64 < 65 ∧
      Issues (core 0 (65536 :: full 15) []) 0 [65536] (full 15) 0 ∧ 65535 < 65536 ∧
      Issues z 0 [0] (full 15) 0 ∧ z.u.pcOf 0 < 0x7FFF ∧ permitted z.u 0 (z.load (instrRam 0 + 2 * (z.u.pcOf 0 + 1)) 2) ∧
      r.u.coreRuns 0 = true ∧ (r.u.cpuOf 0).micro = none ∧ r.u.stk 0 (r.u.dsT 0) = (1 : Word).toNat :: (2 : Word).toNat :: full 14 ∧
      r.u.rd (Reg.CORE_CNT.CNT 0) ≠ 0 := by
  unfold Issues permitted; decide
theorem hyp_WaitFenceBreakUndefined : Issues (core 64 (full 16) []) 64 [] (full 16) 0 ∧ ((core 64 (full 16) []).u.cpuOf 64).sbuf = [] ∧
    (core 64 (full 16) []).u.defined 64 0xFFFF = false ∧ 0xFFFF < 65536 := by
  unfold Issues; decide
theorem hyp_CoreRegisterMoves : Issues (core 64 (full 15) []) 64 [] (full 15) 1 ∧ 4095 < 4096 ∧
    Issues (core 0 (0xFFFFFFFF :: full 15) []) 0 [0xFFFFFFFF] (full 15) 0 := by
  unfold Issues; decide
theorem hyp_EventEntryAndReturn :
    let n := core 0 [] [] [(Reg.EVT_CTRL.NIE 0, 1), (Reg.EVT_NRING_WR.INDEX 0, 1)]
    let f := core 64 [] [] [] (onCpu 64 fun c => { c with sync := some ⟨7, 0, false⟩ })
    let a := core 0 [] [] [(Reg.EVT_ACTIVE.NACT 0, 1)]
    AtEntry n 0 ∧ n.u.entryDue 0 = some false ∧ AtEntry f 64 ∧ f.u.entryDue 64 = some true ∧ (f.u.cpuOf 64).sbuf = [] ∧
      a.u.coreFresh 0 = true ∧ a.u.is (actF false 0) = true ∧ a.u.is (Reg.EVT_ACTIVE.FACT 0) = false ∧
      (core 0 [] []).u.coreFresh 0 = true ∧ (core 0 [] []).u.is (Reg.EVT_ACTIVE.FACT 0) = false ∧
      (core 0 [] []).u.is (Reg.EVT_ACTIVE.NACT 0) = false := by
  unfold AtEntry; decide
theorem hyp_EventsSentAndDelivered :
    let s := core 64 [] [] [(Reg.EVT_NRING_WR.INDEX 64, 1)]
    let off := core 0 [] [] [(Reg.EVT_NRING_CFG.EN 0, 0)]
    let d := core 0 [] [] [(Reg.EVT_FLTn_B.EN 0 0, 1)] fun u => u.setEvQueue 0x1003 { q := [⟨0x1003, 1, 0, 0, []⟩] }
    64 < 65 ∧ s.u.coreLive 64 = true ∧ (1 + 65536 - s.u.rd (ringRdF false 64)) % 65536 ≤ s.u.ringHeld 64 false ∧ (s.u.cpuOf 64).drops false = 0 ∧
      s.u.ringHeld 64 false < (2 + 65536 - s.u.rd (ringRdF false 64)) % 65536 ∧ off.u.is (ringCfgEn false 0) = false ∧
      isSource 0x1003 = true ∧ (d.u.evQueue 0x1003).q = [⟨0x1003, 1, 0, 0, []⟩] ∧
      Issues (core 0 (0xFFFFFFFF :: full 15) []) 0 [0xFFFFFFFF] (full 15) 0 ∧ RingOpen (core 0 (0xFFFFFFFF :: full 15) []) 0 false ∧
      bits 64 6 0 < 65 ∧ s.u.hears (bits 64 6 0) = true ∧ RingOpen s (bits 64 6 0) (bit 64 7) ∧ 64 < bits 0x7F 6 0 := by
  unfold Issues RingOpen; decide
theorem hyp_EventsSentAndDelivered_routed :
    let d (en : Nat) := core 0 [] [] [(Reg.EVT_FLTn_B.EN 0 0, en), (Reg.EVT_FLTn_B.KHI 0 0, 255)]
    (d 1).u.hears 0 = true ∧ (d 1).u.route 0 0x1003 1 = some 0 ∧ RingOpen (d 1) 0 ((d 1).u.is (Reg.EVT_FLTn_B.CLASS 0 0)) ∧
      (∀ j < 65, j ≠ 0 → (d 1).u.route j 0x1003 1 = none) ∧ (∀ j < 65, (d 0).u.route j 0x1003 1 = none) := by
  unfold RingOpen; decide +kernel
theorem hyp_CacheLineOperations :
    let line : CacheLine := { line := 0xFFFFFC0, bytes := List.replicate 64 0, dirty := true }
    let s := core 0 (0x8FFFFFC0 :: full 15) [] [(Reg.CORE_APa.EN 0 0, 1), (Reg.CORE_APa.ATTR 0 0, 1)] (onCpu 0 fun c => { c with dc := [line] })
    let i := core 0 (0x40000000 :: full 15) [] [(Reg.CORE_APa.EN 0 0, 1), (Reg.CORE_APa.ATTR 0 0, 1)]
    Issues (core 0 (0x1FFFF :: full 15) []) 0 [0x1FFFF] (full 15) 0 ∧ ((core 0 (0x1FFFF :: full 15) []).u.cpuOf 0).sbuf = [] ∧ 0x7FFF < 0x8000 ∧
      Issues s 0 [0x8FFFFFC0] (full 15) 0 ∧ s.u.dmap 0 0x8FFFFFC0 = .phys 0xFFFFFC0 1 ∧ (1 : Nat) ≠ 0 ∧
      findLine (s.u.cpuOf 0).dc 0xFFFFFC0 = some line ∧ line.dirty = true ∧ line.bytes.length = 64 ∧ physTarget line.line = .dram ∧
      s.u.physCode true line.line 64 = 0 ∧ Issues i 0 [0x40000000] (full 15) 0 ∧ i.u.imap 0 0x40000000 = .phys 0 1 := by
  unfold Issues; decide
theorem hyp_Routines :
    Issues (core 0 (0xFFFFFFFF :: full 11) []) 0 [(0xFFFFFFFF : Word).toNat] (full 11) 5 ∧
    Issues (core 0 (31 :: 2 :: 3 :: full 9) []) 0 [(31 : Word).toNat, (2 : Word).toNat, (3 : Word).toNat] (full 9) 7 ∧
    Issues (core 0 (0 :: 2 :: 3 :: full 9) []) 0 [0, 2, 3] (full 9) 7 ∧ Issues (core 0 (0 :: 2 :: 3 :: full 9) []) 0 [0, 2, (3 : Word).toNat] (full 9) 7 ∧
    Issues (core 0 (0 :: 2 :: 3 :: 4 :: full 8) []) 0 [0, 2, (3 : Word).toNat, (4 : Word).toNat] (full 8) 8 ∧
    Issues (core 0 (8 :: 5 :: 0x1FFE0 :: full 9) []) 0 [8, 5, 0x1FFE0] (full 9) 7 ∧ 0x1FFE0 % 4 = 0 ∧ 0x1FFE0 + 4 * 8 ≤ 0x20000 ∧
    Issues (core 0 (32 :: 0x1FFE0 :: 0x1FFC0 :: full 9) []) 0 [32, 0x1FFE0, 0x1FFC0] (full 9) 7 ∧ 0x1FFE0 + 32 ≤ 0x20000 ∧ 0x1FFC0 + 32 ≤ 0x1FFE0 := by
  unfold Issues; decide
/-- A store with one entry at i, taking n operands and ending at once; its nanoword moves nothing and drops the operands. -/
theorem hyp_Routines_customer : ∀ p ∈ [(0, [], full 12), (255, [1, 2, 3], full 9)],
    let n := p.2.1.length
    let x : Wcs := { micro := [(p.1, 2 ^ 18 + n * 2 ^ 20 + 2 ^ 10)], nano := [(0, some (0xBB + n * 2 ^ 18))] }
    let s := core 63 (p.2.1 ++ p.2.2) [] [(Reg.BSN_WCS_STATUS.STATE 7, 2)] fun u => u.setWcs 7 x
    Issues s 63 p.2.1 p.2.2 0 ∧ (s.u.cpuOf 63).sbuf = [] ∧ s.u.wcsState 7 = 2 ∧ (s.u.wcsOf 7).isEntry p.1 = true ∧ (s.u.wcsOf 7).fmt p.1 = false ∧
      mBranch ((s.u.wcsOf 7).word p.1) = false ∧ mEnd ((s.u.wcsOf 7).word p.1) = true ∧
      (s.u.wcsOf 7).nanoOf (mNano ((s.u.wcsOf 7).word p.1)) = some (0xBB + n * 2 ^ 18) ∧ (s.u.wcsOf 7).kOf p.1 = n ∧ p.2.2.length + n ≤ 12 ∧
      (core 0 [] []).u.wcsState 0 ≠ 2 ∧ Issues (core 64 (full 3) []) 64 [7] (full 2) 0 := by
  unfold Issues; decide +kernel

/-! ## Attached units, voltage, control stores -/

theorem hyp_CoprocessorIssue :
    let s := core 63 (0x7FFFFFF :: full 13) []
    Issues s 63 [0x7FFFFFF] (full 13) 3 ∧ Issues (core 63 (256 :: 15 :: 0 :: full 13) []) 63 [256, 15, 0] (full 13) 3 ∧
      Issues (core 63 (full 13) []) 63 [] (full 13) 3 ∧ Issues (core 63 (4096 :: 2 :: full 13) []) 63 [4096, 2] (full 13) 3 ∧
      (s.u.cpuOf 63).sbuf = [] ∧ s.u.copDefined 63 0xE000 = true ∧ (s.u.copOf (copUnit 63 0xE000)).cur = none ∧
      (core 64 (full 13) []).u.copDefined 64 0xE000 = false := by
  unfold Issues; decide
theorem hyp_CoprocessorIssue_accepts : ∀ u : Units, SMap.get 0 u.pkcfg 63 = 0x1F → cfgLog ((u.jetOf 7).cfgOf 7) = 10 →
    copAccepts u 63 0xE000 [0x7FFFFFF] ∧ copAccepts u 63 0xE001 [256, 15, 0] ∧ copAccepts u 63 0xE011 [0, 0] ∧ copAccepts u 63 0xE012 [4096, 0] ∧
      copAccepts u 63 0xE400 [0x25F] ∧ copAccepts u 63 0xE401 [256, 0, 0] := by
  intro u h g
  refine ⟨?_, ?_, ?_, ?_, ?_, ?_⟩ <;> simp [copAccepts, h, g, bits, bit]
theorem hyp_CoprocessorDone :
    let at_ (w : Nat) (ops : List Nat) : State := core 0 (full 13) [] [] fun u =>
      (onCpu 0 (fun c => { c with acc := some (.cop w ops) }) u).setCop (copUnit 0 w) { cur := some 0 }
    (∀ w ∈ [0xE000, 0xE002, 0xE400], ((at_ w [5]).u.copOf (copUnit 0 w)).cur = some 0 ∧ ((at_ w [5]).u.cpuOf 0).acc = some (.cop w [5]) ∧
      ((at_ w [5]).u.cpuOf 0).rep = none ∧ copUnit 0 w < 17) ∧
    (((at_ 0xE800 [0x13FFFE0]).u.copOf (copUnit 0 0xE800)).cur = some 0 ∧ 0x13FFFE0 % 4 = 0 ∧ 0x13FFFE0 + 32 ≤ 0x1400000 ∧
      ∀ j, j < 8 → (at_ 0xE800 [0x13FFFE0]).u.physCode true (sramBase 0 + (0x13FFFE0 - 0x1000000) + 4 * j) 4 = 0) := by
  decide
theorem hyp_CoreModesAndVoltage :
    let s := core 64 [] []
    let w := core 64 [] [] [(stkUsed 3 64, 1), (Reg.CORE_MODE.ICE 64, 0), (Reg.CORE_MODE.DCE 64, 0)]
    s.u.coreLive 64 = true ∧ s.u.basinPresent 7 = true ∧ w.u.coreLive 64 = true ∧ w.u.dcOn 64 = false ∧ w.u.icOn 64 = false ∧ bits 0x2FF 9 8 ≠ 3 ∧ bits 0xFF05 2 1 ≠ 3 ∧
      s.u.rd (stkUsed 3 64) = 0 ∧ 0x1FFFC % 2 ^ 17 / 4 * 4 + 4 * bits 0x11FFFC 31 20 ≤ 0x20000 ∧ w.u.rd (stkUsed 3 64) ≠ 0 ∧
      0x20000 < 0x21FFFC % 2 ^ 17 / 4 * 4 + 4 * bits 0x21FFFC 31 20 ∧ s.u.basinDark 7 = false ∧ s.u.basinIdle 7 = false ∧
      s.u.rd (Reg.BSN_VCTRL.MODE 7) = 0 ∧ s.u.rd (Reg.BSN_BUDGET.TOKENS 7) = 0 ∧
      bits 0x6464 6 0 ≤ 100 ∧ bits 0x6464 14 8 ≤ 100 ∧ bits 0x6464 6 0 ≤ bits 0x6464 14 8 ∧ bits 0x6364 14 8 < bits 0x6364 6 0 := by
  decide
theorem hyp_ControlStoreLoading :
    let loading (x : Wcs) : State := mk [(Reg.BSN_WCS_STATUS.STATE 7, 1)] fun u => u.setWcs 7 x
    let routine : State := mk [(Reg.BSN_WCS_STATUS.STATE 7, 2)] fun u => onCpu 63 (fun c => { c with
      micro := some { entry := 0xF800, addr := 0, depth := 0, k := 0, dorgen := false, check := [] } }) u
    State.reset.u.basinPresent 7 = true ∧ State.reset.u.rd (Reg.BSN_WCS_STATUS.STATE 7) ≠ 3 ∧ State.reset.u.wcsIdle 7 = true ∧
      routine.u.wcsIdle 7 = false ∧ (mk [(Reg.BSN_WCS_STATUS.STATE 7, 3)]).u.rd (Reg.BSN_WCS_STATUS.STATE 7) = 3 ∧
      (loading {}).u.rd (Reg.BSN_WCS_STATUS.STATE 7) = 1 ∧ (loading {}).u.is (Reg.BSN_WCS_ADDR.SPACE 7) = false ∧
      ((loading { checking := true }).u.wcsOf 7).checking = true ∧ ((loading { checking := true, micro := [(0, 0x40400)], nano := [(0, some 0)] }).u.wcsOf 7).check.1 = 0 ∧
      ((loading { checking := true, micro := [(0, 0x7FFFFF)] }).u.wcsOf 7).check.1 ≠ 0 := by
  decide

/-! ## Angle engines -/

def engine (vals : List (Fld × Nat)) (e : AngEngine := {}) : State := mk vals fun u => u.setEng 3 e
def atState (st : Nat) (e : AngEngine := {}) (vals : List (Fld × Nat) := []) : State := engine ([(Reg.ANG_CTRL.EN 3, 1), (Reg.ANG_STATUS.STATE 3, st)] ++ vals) e

theorem hyp_AngleDecoder_enable :
    let ok := engine [(Reg.ANG_CTRL.MODE 3, 2)]
    ok.u.rd (Reg.ANG_CTRL.EN 3) = 0 ∧ ok.u.angCode 3 = 0 ∧ ok.u.angMode 3 ≠ 4 ∧ NoWindows ok ∧ State.reset.u.angCode 3 ≠ 0 ∧
      State.reset.u.rd (Reg.ANG_CTRL.EN 3) = 0 ∧ (atState 4).u.rd (Reg.ANG_CTRL.EN 3) = 1 ∧ (atState 3).u.angState 3 = 3 ∧ (atState 4).u.angState 3 = 4 := by
  unfold NoWindows; decide +kernel
theorem hyp_AngleDecoder_edges :
    let cam := atState 4 (stillAt 0) [(Reg.ANG_SRC.CAM_EN 3, 1), (Reg.ANG_CAM_LO.ANGLE 3, 0), (Reg.ANG_CAM_HI.ANGLE 3, 0)]
    let wrap (p : Nat) := atState 4 (stillAt 368640) [(Reg.ANG_STATUS.PENDING 3, p)]
    let pulse := atState 2 { pulseStart := some 5 } [(Reg.ANG_SRC.DIR_MODE 3, 1)]
    (atState 2).u.angMode 3 = 0 ∧ (atState 2).u.rd (Reg.ANG_SRC.DIR_MODE 3) = 0 ∧ (atState 2).u.pwr.frontOff = false ∧
      (atState 2).u.angState 3 = 2 ∧ ((atState 2).u.eng 3).lastEdge = none ∧ (atState 1).u.angState 3 = 1 ∧
      cam.u.rd (Reg.ANG_SRC.CAM_EN 3) = 1 ∧ cam.u.angState 3 = 4 ∧ cam.u.absAngle 3 7 = some 0 ∧
      (cam.u.rd (Reg.ANG_CAM_LO.ANGLE 3) : Int) ≤ 0 % cam.u.cycleLen 3 ∧ 0 % cam.u.cycleLen 3 ≤ cam.u.rd (Reg.ANG_CAM_HI.ANGLE 3) ∧
      (∀ p ∈ [0, 1], (wrap p).u.rd (Reg.ANG_SRC.CAM_EN 3) = 0 ∧ (wrap p).u.absAngle 3 7 = some 368640 ∧
        368640 / (wrap p).u.cycleLen 3 > ((wrap p).u.eng 3).cyc ∧ (wrap p).u.bankDone 3 = true ∧ (wrap p).u.rd (Reg.ANG_STATUS.PENDING 3) = p) ∧
      (∀ st ∈ [2, 3, 4], (atState st { lastEdge := some 0 }).u.angState 3 = st ∧ ((atState st { lastEdge := some 0 }).u.eng 3).lastEdge ≠ none) ∧
      pulse.u.rd (Reg.ANG_SRC.DIR_MODE 3) = 1 ∧ (pulse.u.eng 3).pulseStart = some 5 ∧ pulse.u.angState 3 = 2 ∧ (pulse.u.eng 3).lastEdge = none := by
  decide +kernel
theorem hyp_AngleDecoder_motors :
    let res (k : Nat) := atState 2 { resLock := k } [(Reg.ANG_CTRL.MODE 3, 1)]
    let hall := atState 2 { hall := 4 } [(Reg.ANG_CTRL.MODE 3, 2)]
    let enc := atState 2 {} [(Reg.ANG_CTRL.MODE 3, 3)]
    (∀ k ∈ [0, 62, 63], (res k).u.angMode 3 = 1 ∧ (res k).u.angState 3 = 2 ∧ (res k).u.sourceFaulted 3 = false ∧ ((res k).u.eng 3).resLock = k) ∧
      hall.u.angMode 3 = 2 ∧ hallIndex (hall.u.eng 3).hall = some 0 ∧ hallIndex 6 = some ((0 + 1) % 6) ∧ hall.u.sourceFaulted 3 = false ∧
      hall.u.angState 3 ≠ 0 ∧ hall.u.angState 3 ≠ 6 ∧ 7 ≠ (hall.u.eng 3).hall ∧ hallIndex 7 = none ∧
      enc.u.angMode 3 = 3 ∧ enc.u.angState 3 = 2 ∧ enc.u.sourceFaulted 3 = false := by
  decide +kernel

/-- Engine 3 in FULL_SYNC at angle 9, with one entry of its active bank: action a, target g. -/
def due (a g : Nat) (evt : Bool := false) (vals : List (Fld × Nat) := []) : State :=
  atState 4 { stillAt 9 with active := [{ idx := 511, a := 0x80000009, b := a + b2n evt * 16 + g * 256 }] } vals

theorem due_of {s : State} {n t : Nat} {e : SchedEntry} (x : Int) (h : s.u.clock ≤ t ∧ (s.u.absAngle n t = some x ∧
    (s.u.eng n).cyc * s.u.cycleLen n + e.angle ≤ x) ∧ s.u.angState n = 4 ∧ s.u.rd (Reg.ANG_STATUS.REV n) = 0 ∧
    (s.u.eng n).active[(s.u.eng n).ptr]? = some e ∧ e.passes (s.u.eng n).cyc = true) : Due s n t e :=
  ⟨h.1, ⟨x, h.2.1⟩, h.2.2⟩
theorem hyp_AngleSchedule_due : Due (due 0 0 true) 3 7 ⟨511, 0x80000009, 16⟩ ∧ Due (due 1 31) 3 7 ⟨511, 0x80000009, 0x1F01⟩ ∧
    Due (due 9 63) 3 7 ⟨511, 0x80000009, 0x3F09⟩ :=
  ⟨due_of 9 (by decide +kernel), due_of 9 (by decide +kernel), due_of 9 (by decide +kernel)⟩
theorem hyp_AngleSchedule_entries :
    (∀ a, a < 10 → (⟨511, 0x80000009, a + 0xF00⟩ : SchedEntry).act = a ∧ (⟨511, 0x80000009, a + 0xF00⟩ : SchedEntry).evt = false ∧
      (⟨511, 0x80000009, a + 0xF00⟩ : SchedEntry).target = 15) ∧
    (let s := due 1 31 false [(Reg.AIN_GCFG.EN 31, 1), (Reg.AIN_GSTREAM.BASE 31, 3), (Reg.AIN_GCFG.TRIG 31, 2)]
     s.u.strmOn 31 = true ∧ s.u.rd (Reg.AIN_GSTREAM.BASE 31) = 3 ∧ s.u.rd (Reg.AIN_GCFG.TRIG 31) = 2 ∧ s.u.domState 5 = 0 ∧
      (s.u.pulseLine (256 * 3 + (64 + 31))).flight = 0) ∧
    (∀ k ∈ [2, 3], let s := due 2 15 false [(Reg.FIN_CFG.EN 15, 1), (Reg.FIN_STREAM.BASE 15, 3), (Reg.FIN_CFG.TRIG 15, k)]
     s.u.strmOn (32 + 15) = true ∧ s.u.rd (Reg.FIN_STREAM.BASE 15) = 3 ∧ s.u.rd (Reg.FIN_CFG.TRIG 15) = k ∧ s.u.domState 6 = 0 ∧
      (s.u.pulseLine (256 * 3 + (96 + 15))).flight = 0) ∧
    (due 6 63).u.pulseLine (256 * 3 + 63) = {} ∧
    (let s := due 7 5 false [(Reg.DIN_GSTREAM.BASE 5, 3), (Reg.DIN_GCFG.EN 5, 1)]
     s.u.rd (Reg.DIN_GSTREAM.BASE 5) = 3 ∧ s.u.strmOn (48 + 5) = true ∧ s.u.strm (48 + 5) = {}) ∧
    (∀ d ∈ [0, 1], let s := due 9 63 false [(openFld 3 63, 0x80000000), (doneFld 3 63, d * 0x80000000)]
     bit (s.u.rd (openFld 3 63)) (63 % 32) = true ∧ bit (s.u.rd (doneFld 3 63)) (63 % 32) = (d == 1)) := by
  decide +kernel
theorem hyp_AngleSchedule_window :
    State.reset.u.rd (Reg.ANG_STATUS.BUSY 3) = 0 ∧
      (let s := engine [(Reg.ANG_STATUS.BUSY 3, 1)] (stillAt (-1))
       s.u.rd (Reg.ANG_STATUS.BUSY 3) = 1 ∧ s.u.absAngle 3 s.u.clock = some (-1)) := by
  decide +kernel

/-! ## The time base -/

def withTim (g : TimeUnit → TimeUnit) (u : Units) : Units := { u with tim := g u.tim }

theorem hyp_TimeSteps :
    let p := mk [(Reg.TIM_STATUS.STEP_PEND, 1)] (withTim fun t => { t with pendStep := -1 })
    let r := mk [(Reg.TIM_RTC_ALARM.SEC, 0xFFFFFFFF)] fun u => withPwr (fun p => { p with target := 2 }) (withTim (fun t => { t with rtcBase := 0xFFFFFFFF * 32768 }) u)
    let w := mk [(Reg.TIM_RTC_ALARM.SEC, 1)] fun u => withPwr (fun p => { p with down := 2 }) (withTim (fun t => { t with rtcBase := 32768 }) u)
    toInt 64 (State.reset.u.tim.stepLo + (0xFFFFFFFF % 2 ^ 32) * 2 ^ 32) ≠ 0 ∧ toInt 64 (State.reset.u.tim.stepLo + (0 % 2 ^ 32) * 2 ^ 32) = 0 ∧
      p.u.rd Reg.TIM_STATUS.STEP_PEND = 1 ∧ p.u.tim.pendStep = -1 ∧ NothingOpen p ∧ 64 < 65 ∧
      1 ≤ (mk [(Reg.TIM_STATUS.ACTIVE, 1)]).u.active ∧ (mk [(Reg.TIM_STATUS.ACTIVE, 4)]).u.active ≤ 4 ∧
      r.u.rd Reg.TIM_RTC_ALARM.SEC ≠ 0 ∧ (r.u.tim.rtcBase + (0 - r.u.tim.rtcTick) * 32768 / 400000000) / 32768 = r.u.rd Reg.TIM_RTC_ALARM.SEC ∧
      r.u.pwr.target ≠ 0 ∧ r.u.pwr.latched = none ∧
      (w.u.tim.rtcBase + (0 - w.u.tim.rtcTick) * 32768 / 400000000) / 32768 = w.u.rd Reg.TIM_RTC_ALARM.SEC ∧ w.u.pwr.target = 0 ∧ w.u.pwr.down = 2 := by
  unfold NothingOpen; decide +kernel
theorem hyp_TimeSources :
    let a := mk [(Reg.TIM_PPS_CFG.EN, 1)] (withTim fun t => { t with lastPps := some 0 })
    let b (k : Nat) := mk [(Reg.TIM_PPS_CFG.EN, 1), (Reg.TIM_CTRL.SRC, k), (Reg.TIM_CTRL.STEP_LIMIT, 1)] (withTim fun t => { t with nextSec := some 1 })
    let g := mk [(Reg.TIM_CTRL.SRC, 2), (Reg.TIM_CTRL.STEP_LIMIT, 0), (Reg.TIM_GPTP_CFG.ROLE, 2), (Reg.TIM_GPTP_STATUS.SLAVE_PORT, 12)] (withTim fun t => { t with good := 7 })
    12 < 13 ∧ State.reset.u.portPresent 12 = true ∧
      a.u.rd Reg.TIM_PPS_CFG.EN = 1 ∧ a.u.tim.lastPps = some 0 ∧ 359999999 < 0 + 360000000 ∧
      (∀ k ∈ [0, 1], (b k).u.rd Reg.TIM_PPS_CFG.EN = 1 ∧ (b k).u.tim.lastPps = none ∧ (b k).u.tim.nextSec = some 1 ∧ (b k).u.rd Reg.TIM_CTRL.SRC = k ∧
        ((b k).u.timeAt 0 : Int) + 5 - (b k).u.rd Reg.TIM_PPS_CFG.CABLE - 1 * 1000000000 = -999999995 ∧
        -999999995 < -(((b k).u.rd Reg.TIM_CTRL.STEP_LIMIT * 100000 : Nat) : Int) ∧ (b k).u.rd Reg.TIM_CTRL.STEP_LIMIT ≠ 0) ∧
      (mk [(Reg.TIM_STATUS.ACTIVE, 1)]).u.active = 1 ∧ (mk [(Reg.TIM_STATUS.ACTIVE, 1)]).u.rd Reg.TIM_STATUS.LOCK = 0 ∧
      (mk [(Reg.TIM_STATUS.ACTIVE, 3), (Reg.TIM_GPTP_STATUS.SYNCED, 1)]).u.active = 3 ∧
      (mk [(Reg.TIM_STATUS.ACTIVE, 3), (Reg.TIM_GPTP_STATUS.SYNCED, 1)]).u.rd Reg.TIM_GPTP_STATUS.SYNCED = 1 ∧
      g.u.rd Reg.TIM_GPTP_CFG.ROLE ≠ 0 ∧ g.u.rd Reg.TIM_GPTP_STATUS.SLAVE_PORT = 12 ∧ g.u.rd Reg.TIM_CTRL.SRC = 2 ∧
      g.u.rd Reg.TIM_CTRL.STEP_LIMIT = 0 ∧ ((-99 : Int)).natAbs < 100 ∧ 7 ≤ g.u.tim.good ∧ g.u.rd Reg.TIM_STATUS.LOCK = 0 ∧
      g.u.rd Reg.TIM_GPTP_CFG.ROLE = 2 ∧ g.u.rd Reg.TIM_STATUS.GM = 0 ∧
      (let m := mk [(Reg.TIM_GPTP_CFG.ROLE, 3), (Reg.TIM_GPTP_CFG.PORT, 12), (Reg.TIM_STATUS.GM, 1)]
       m.u.rd Reg.TIM_GPTP_CFG.ROLE = 3 ∧ m.u.rd Reg.TIM_GPTP_CFG.PORT = 12 ∧ m.u.rd Reg.TIM_GPTP_STATUS.SLAVE_PORT ≠ 12 ∧ m.u.rd Reg.TIM_STATUS.GM = 1) := by
  decide +kernel

/-! ## Acquisition -/


theorem hyp_StreamCommands :
    let item : StreamItem := { words := List.replicate 63 5, time := 0, angle := 0, kind := 6 }
    let open_ : Runnel := { words := [{ data := 0, tag := 1, filled := false }] }
    let s := stream 53 { buf := [item], openPkt := true, pktKind := 6, pktWords := 1 }
      [(strmEn 53, 1), (strmPkt 53, 64), (Reg.DIN_GSTREAM.AGE 5, 1), (Reg.RUN_STATUS.OPEN 0, 1), (strmRunnel 53, 0)] fun u => u.setRunnel 0 open_
    let free := mk [(strmPkt 53, 64)]
    53 < 54 ∧ free.u.rd (strmEn 53) = 0 ∧ free.u.streamCode 53 = 0 ∧ State.reset.u.rd (strmEn 0) = 0 ∧ State.reset.u.streamCode 0 ≠ 0 ∧
      (mk [(strmEn 53, 1)]).u.rd (strmEn 53) = 1 ∧ (mk [(strmEn 53, 1)]).u.strm 53 = {} ∧
      s.u.rd (strmEn 53) = 1 ∧ (s.u.strm 53).pre = [] ∧ (s.u.strm 53).buf = [item] ∧ (s.u.strm 53).openPkt = true ∧ (s.u.strm 53).closing = false ∧
      s.u.rd (streamFld 53 Reg.AIN_GSTREAM.AGE Reg.FIN_STREAM.AGE Reg.DIN_GSTREAM.AGE) ≠ 0 ∧ (s.u.strm 53).run = 0 ∧ (free.u.strm 53).closing = false ∧
      s.u.rd (Reg.RUN_STATUS.OPEN 0) = 1 ∧ s.u.rd (Reg.RUN_STATUS.FLUSH_PEND 0) = 0 ∧ (splitOpen (s.u.runnel 0).words).2.length ≤ 63 ∧
      s.u.needsPkt 53 item = false ∧ item.last = false ∧ (s.u.runnel 0).words.length + item.words.length ≤ 64 ∧
      (s.u.runnel 0).openWords + item.words.length ≤ 4096 ∧ (stream 53 { ovr := 65536 }).u.strm 53 = { ovr := 65536 } := by
  decide +kernel
theorem hyp_Conversions_requests :
    let ain (trig fly : Nat) (l : Option Nat) := stream 31 { fly := fly, lastHold := l } [(strmEn 31, 1), (Reg.AIN_GCFG.TRIG 31, trig)]
    let fin (trig fly : Nat) (l : Option Nat) := stream 47 { fly := fly, lastHold := l } [(strmEn 47, 1), (Reg.FIN_CFG.TRIG 15, trig)]
    47 < 48 ∧ (∀ l ∈ [none, some 0], ∀ k ∈ [0, 1, 2, 3], (ain k 1 l).u.strmOn 31 = true ∧ (fin k 1 l).u.strmOn 47 = true ∧
        (ain k 1 l).u.rd (trigOf 31) = k ∧ (fin k 1 l).u.rd (trigOf 47) = k ∧ ((fin k 1 l).u.strm 47).fly = 1 ∧
        (ain k 1 l).u.convFree 31 0 = l.isNone ∧ (fin k 1 l).u.convFree 47 0 = l.isNone) ∧
      2 ≤ ((fin 2 2 none).u.strm 47).fly ∧ (fin 2 2 none).u.convFree 47 0 = true := by
  decide +kernel
theorem hyp_Conversions_grid :
    let s := stream 47 { lastGrid := 5 } [(strmEn 47, 1), (Reg.FIN_CFG.TRIG 15, 1), (Reg.FIN_PERIOD.NS 15, 250), (Reg.FIN_PHASE.NS 15, 7)] fun u =>
      { u with tbase := [{ tick := 0, acc := 260 * 10 ^ 12, rate := 0 }] }
    s.u.rd (trigOf 47) = 1 ∧ s.u.rd (Reg.FIN_PERIOD.NS 15) ≠ 0 ∧
      gridAt (s.u.timeAt 0) (s.u.rd (Reg.FIN_PERIOD.NS 15)) (s.u.rd (Reg.FIN_PHASE.NS 15)) = 257 ∧ 257 % 250 = 7 ∧ 257 ≠ (s.u.strm 47).lastGrid ∧
      s.u.strmOn 47 = true ∧ s.u.convFree 47 0 = true := by
  decide +kernel
theorem hyp_Conversions_fast :
    let h : Hold := { tick := 0, time := 0, angle := 0 }
    let b := stream 47 { burstLeft := 1, holds := [h] } [(strmEn 47, 1)]
    let a := stream 47 { win := some { start := -600, next := 6 } } [(strmEn 47, 1), (Reg.FIN_CFG.TRIG 15, 4), (strmBase 47, 3), (Reg.FIN_STEP.AC 15, 100),
      (Reg.FIN_AWIN_LO.ANGLE 15, 368040), (Reg.FIN_AWIN_HI.ANGLE 15, 200)] fun u => u.setEng 3 (stillAt 0)
    b.u.strmOn 47 = true ∧ (b.u.strm 47).burstLeft = 0 + 1 ∧ (b.u.strm 47).holds = h :: [] ∧ h.flt = false ∧ bufWords (b.u.strm 47).buf + 3 ≤ 256 ∧
      a.u.strmOn 47 = true ∧ a.u.rd (trigOf 47) = 4 ∧ a.u.rd (strmBase 47) = 3 ∧ a.u.rd (Reg.FIN_STEP.AC 15) ≠ 0 ∧ a.u.absAngle 3 0 = some 0 ∧
      (a.u.strm 47).win = some { start := -600, next := 6 } ∧ (-600 : Int) = 0 - (0 - 368040) % a.u.cycleLen 3 ∧ 6 = ((0 - (-600)) / (100 : Int)).toNat ∧
      6 < a.u.aclkLast 15 3 ∧ a.u.convFree 47 0 = true ∧ (mk [(Reg.FIN_CFG.FE 15, 2)]).u.rd (Reg.FIN_CFG.FE 15) = 2 := by
  decide +kernel

/-! ## Outputs and the harness guard -/

def exc (vals : List (Fld × Nat)) (x : ExcOut := {}) (c : Contact := {}) : State := mk vals fun u => (u.setExcOut 7 x).setContact 3 7 c
def trg (vals : List (Fld × Nat)) (x : TrgOut := {}) (f : Units → Units := id) : State := mk vals fun u => f (u.setTrgOut 15 x)

theorem hyp_ExcitationOutputs :
    let en := (Reg.EXC_CFG.EN 7, 1)
    let a := exc [(Reg.EXC_CFG.LIMIT 7, 150)]
    let o := exc [en, (Reg.EXC_FAULT.RETRY_MAX 7, 1)] { fold := true }
    let l := exc [en, (Reg.EXC_FAULT.RETRY_MAX 7, 0)] { fold := true }
    let f := exc [en, (Reg.EXC_FAULT.NOW 7, 6)] {} { rep := 2 ^ 6 }
    7 < 8 ∧ a.u.rd (Reg.EXC_CFG.EN 7) = 0 ∧ a.u.rd (Reg.EXC_CFG.LIMIT 7) = 150 ∧ a.u.excSum + a.u.excLoad 7 ≤ 6000 ∧
      State.reset.u.rd (Reg.EXC_CFG.LIMIT 7) = 0 ∧ 150 < (exc [(Reg.EXC_CFG.LIMIT 7, 151)]).u.rd (Reg.EXC_CFG.LIMIT 7) ∧
      (exc [en]).u.rd (Reg.EXC_CFG.EN 7) = 1 ∧ (exc [en]).u.pwr.frontOff = false ∧ ((exc [en]).u.excOut 7).fold = false ∧
      ((exc [en]).u.excOut 7).isOver = false ∧ Quiet (exc [en]) 3 7 ∧ 10 * (exc [en]).u.rd (Reg.EXC_CFG.LIMIT 7) < [0, 0, 0, 0, 0, 0, 0, 1].getD 7 0 ∧
      20 ≤ (mk [en] fun u => { u with excHot := 20 }).u.excHot ∧ (∀ m < 8, 7 < m → (exc [en]).u.is (Reg.EXC_CFG.EN m) = false) ∧
      (f.u.contactOf 3 7).rep = 2 ^ 6 ∧ f.u.rd (Reg.EXC_FAULT.NOW 7) = 6 ∧
      (o.u.excOut 7).fold = true ∧ o.u.rd (Reg.EXC_FAULT.RETRIES 7) < o.u.rd (Reg.EXC_FAULT.RETRY_MAX 7) ∧
      l.u.rd (Reg.EXC_FAULT.RETRY_MAX 7) ≤ l.u.rd (Reg.EXC_FAULT.RETRIES 7) ∧ (exc [en, (Reg.EXC_FAULT.LATCHED 7, 1)]).u.rd (Reg.EXC_FAULT.LATCHED 7) = 1 ∧
      bit ((exc [en]).u.contactOf 3 7).rep 7 = false := by
  unfold Quiet; decide +kernel
theorem hyp_TriggerOutputs :
    let en := (Reg.TRG_CFG.EN 15, 1)
    let q := trg [en] { ret := true } fun u => { u with trgQ := [(4, [(15, 2)])] }
    let h := trg [en, (Reg.TRG_STATUS.LEVEL 15, 1)] { ret := true }
    let o (n m : Nat) := trg [en, (Reg.TRG_FAULT.NOW 15, n), (Reg.TRG_FAULT.RETRY_MAX 15, m)]
    15 < 16 ∧ State.reset.u.rd (Reg.TRG_CFG.EN 15) = 0 ∧ q.u.rd (Reg.TRG_CFG.EN 15) = 1 ∧ SMap.get [] q.u.trgQ 4 = (15, 2) :: [] ∧
      q.u.trgDriving 15 = true ∧ q.u.rd (Reg.TRG_STATUS.LEVEL 15) ≤ 1 ∧ (q.u.trgOut 15).deferred = none ∧ (q.u.trgOut 15).lastChange = none ∧
      (h.u.trgOut 15).ret = true ∧ (h.u.trgOut 15).retAt ≤ max h.u.clock 0 ∧ h.u.rd (Reg.TRG_STATUS.LEVEL 15) = 1 ∧ h.u.trgDriving 15 = true ∧
      (∀ v, ((trg [en, (Reg.TRG_STATUS.LEVEL 15, b2n !v)] { deferred := some v }).u.trgOut 15).deferred = some v ∧
        (trg [en, (Reg.TRG_STATUS.LEVEL 15, b2n !v)] { deferred := some v }).u.rd (Reg.TRG_STATUS.LEVEL 15) = b2n !v) ∧
      Quiet (trg [en]) 4 15 ∧ (trg [en, (Reg.TRG_CFG.DRIVE 15, 0)]).u.rd (Reg.TRG_CFG.DRIVE 15) = 0 ∧
      (∀ n ∈ [2, 3, 6], ∀ m ∈ [0, 1], (o n m).u.trgDriving 15 = true ∧ (o n m).u.rd (Reg.TRG_FAULT.NOW 15) = n ∧
        (o n m).u.rd (Reg.TRG_FAULT.RETRIES 15) = 0 ∧ (o n m).u.rd (Reg.TRG_FAULT.RETRY_MAX 15) = m) ∧
      (trg [en, (Reg.TRG_FAULT.LATCHED 15, 1)]).u.rd (Reg.TRG_FAULT.LATCHED 15) = 1 := by
  unfold Quiet; decide +kernel
theorem hyp_DigitalInputsAndDiagnosis :
    let en := (Reg.DIN_CFG.EN 47, 1)
    let d := mk [en, (Reg.DIN_CFG.COND 47, 0)] fun u => u.setContact 2 47 { hits := [0, 0, 0, 0, 0, 1, 0, 0] }
    let c := mk [en, (Reg.DIN_CFG.COND 47, 0), (Reg.DIN_CFG.LOG 47, 0), (Reg.DIN_CFG.MEAS 47, 4), (Reg.DIN_CFG.MEDGE 47, 0)]
    let a := mk [(Reg.AIN_CH.EN 95, 1), (Reg.AIN_FAULT.DIAG 95, 1)]
    d.u.rd (Reg.DIN_CFG.EN 47) = 1 ∧ d.u.rd (Reg.DIN_CFG.COND 47) ≠ 1 ∧ d.u.contactOf 2 47 = { hits := [0, 0, 0, 0, 0, 1, 0, 0] } ∧
      a.u.rd (Reg.AIN_CH.EN 95) = 1 ∧ a.u.rd (Reg.AIN_FAULT.DIAG 95) = 1 ∧ a.u.rd (Reg.CAN_STATUS.FAULT 11) ≠ 3 ∧
      c.u.pwr.frontOff = false ∧ c.u.dinLevel 47 = !true ∧ c.u.rd (Reg.DIN_CFG.COND 47) ≠ 1 ∧ c.u.rd (Reg.DIN_CFG.EN 47) = 1 ∧
      State.reset.u.rd (Reg.DIN_CFG.EN 47) = 0 ∧ State.reset.u.rd (Reg.DIN_CFG.COND 47) ≠ 1 ∧
      c.u.rd (Reg.DIN_CFG.LOG 47) = 0 ∧ c.u.rd (Reg.DIN_CFG.MEAS 47) = 4 ∧ true = (!c.u.is (Reg.DIN_CFG.MEDGE 47)) ∧
      (∀ k ∈ [1, 2, 3], (mk [en, (Reg.DIN_CFG.MEAS 47, k)]).u.rd (Reg.DIN_CFG.MEAS 47) = k) ∧
      (stream 53 { lostEdges := 65536 }).u.strm 53 = { lostEdges := 65536 } ∧ (stream 53 {} [(strmEn 53, 1)]).u.strmOn 53 = true := by
  decide +kernel

/-! ## Runnels -/

/-- Runnel 63 with a given content, claimed by the steward core. -/
def runnel (x : Runnel) (vals : List (Fld × Nat) := []) : State :=
  mk ([(Reg.RUN_OWNER.CLASS 63, 2), (Reg.RUN_OWNER.INDEX 63, 64)] ++ vals) fun u => u.setRunnel 63 x
def words (n : Nat) (tag : Nat := 0) : List RunWord := List.replicate n { data := 5, tag := tag }

theorem hyp_Runnels_producer :
    let s := runnel { words := words 63 }
    let slot : RunWord := { data := 0, tag := 1, filled := false }
    let o := runnel { words := words 62, total := 4095 - 62 } [(Reg.RUN_STATUS.OPEN 63, 1)]
    let c := runnel { words := words 2 2 ++ slot :: words 63 } [(Reg.RUN_STATUS.OPEN 63, 1)]
    State.reset.u.rd (Reg.RUN_OWNER.CLASS 63) = 0 ∧ s.u.rd (Reg.RUN_OWNER.CLASS 63) = 2 ∧ s.u.rd (Reg.RUN_OWNER.INDEX 63) = 64 ∧
      s.u.rd (Reg.RUN_STATUS.OPEN 63) = 0 ∧ s.u.rd (Reg.RUN_STATUS.FLUSH_PEND 63) = 0 ∧ (s.u.runnel 63).words.length ≤ 63 ∧
      o.u.rd (Reg.RUN_STATUS.OPEN 63) = 1 ∧ (o.u.runnel 63).words.length ≤ 63 ∧ (o.u.runnel 63).openWords < 4096 ∧
      (∃ w ∈ ((runnel { words := words 65 }).u.runnel 63).words.drop 64, w.tag = 0) ∧
      (c.u.runnel 63).words = words 2 2 ++ slot :: words 63 ∧ (∀ w ∈ words 2 2, w.unfilled = false) ∧ slot.unfilled = true ∧ (words 63).length ≤ 63 ∧
      62 < (words 63).length := by
  decide +kernel
theorem hyp_Runnels_consumer :
    let w : RunWord := { data := 5, tag := 2 }
    let s := runnel { words := w :: words 63 2 } [(Reg.RUN_CFG.REQ_EN 63, 0)]
    let p := runnel { words := [w], prom := [(0, 2)] } [(Reg.RUN_CFG.REQ_EN 63, 1)]
    let t (ch : Nat) : State :=
      let r := runnel { words := words 1 ++ [w] } [(Reg.RUN_CFG.REQ_EN 63, 1), (Reg.RUN_CFG.TAIL 63, 1), (Reg.RUN_CFG.BURST 63, 3), (Reg.RUN_CFG.REQ_CH 63, ch)]
      { r with u := { r.u with census := { r.u.census with part := .swk7210 } } }
    s.u.rd (Reg.RUN_CFG.REQ_EN 63) = 0 ∧ s.u.rd (Reg.RUN_STATUS.FLUSH_PEND 63) = 0 ∧ (s.u.runnel 63).words = w :: words 63 2 ∧
      w.unfilled = false ∧ w.tag ≠ 1 ∧ (s.u.runnel 63).words.length ≤ 64 ∧ (State.reset.u.runnel 63).words = [] ∧
      p.u.rd (Reg.RUN_CFG.REQ_EN 63) = 1 ∧ (p.u.runnel 63).prom = (0, 0 + 2) :: [] ∧
      (∀ ch ∈ [0, 63], (t ch).u.rd (Reg.RUN_CFG.REQ_EN 63) = 1 ∧ (t ch).u.rd (Reg.RUN_CFG.TAIL 63) ≠ 0 ∧ (t ch).u.rd (Reg.RUN_STATUS.FLUSH_PEND 63) = 0 ∧
        0 < ((t ch).u.runnel 63).readable - ((t ch).u.runnel 63).promised ∧
        ((t ch).u.runnel 63).readable - ((t ch).u.runnel 63).promised < (t ch).u.runBurst 63 ∧ ((t ch).u.runnel 63).tailEnds = true ∧
        (t ch).u.basinPresent ((t ch).u.rd (Reg.RUN_CFG.REQ_CH 63) / 8) = (ch == 0)) ∧
      (runnel {} [(Reg.RUN_STATUS.FLUSH_PEND 63, 1)]).u.rd (Reg.RUN_STATUS.FLUSH_PEND 63) = 1 := by
  decide +kernel

/-! ## Sluices -/

/-- Channel 63 with given state and registers. -/
def sluice (st : Nat) (x : Sluice := {}) (vals : List (Fld × Nat) := []) : State := mk ((Reg.SLC_STATUS.STATE 63, st) :: vals) fun u => u.setSl 63 x

theorem hyp_SluiceCommands :
    let go (st : Nat) := sluice st {} [(Reg.SLC_COUNT.BYTES 63, 5)]
    let odd (st : Nat) := sluice st {} [(Reg.SLC_CFG.SMODE 63, 1), (Reg.SLC_SRC_LO.ADDR 63, 2)]
    let r (p n : Nat) := mk [(Reg.SLC_REQS.PENDING 63, p)] fun u => { u with reqFly := SMap.set 0 [] 63 n, wdFly := SMap.set 0 [] 63 n }
    State.reset.u.slPresent 63 = true ∧
      (∀ st ∈ [0, 4, 5], (go st).u.rd (Reg.SLC_STATUS.STATE 63) = st ∧ (go st).u.slCode 63 = 0 ∧ (go st).u.slCnt 63 ≠ 0 ∧
        (odd st).u.rd (Reg.SLC_CFG.SMODE 63) ≠ 0 ∧ (odd st).u.slSrc 63 % 4 ≠ 0 ∧ (odd st).u.rd (Reg.SLC_STATUS.STATE 63) = st) ∧
      (go 1).u.rd (Reg.SLC_STATUS.STATE 63) = 1 ∧ (go 1).u.slCnt 63 ≠ 0 ∧ ((go 1).u.slOf 63).still ∧
      ((sluice 1 { reads := [(0, 5)] }).u.slOf 63).reads ≠ [] ∧ ((sluice 1 { reads := [(0, 5)] }).u.slOf 63).buf = [] ∧
      (∀ st ∈ [2, 3], (go st).u.rd (Reg.SLC_STATUS.STATE 63) = st) ∧
      SMap.get 0 (r 254 1).u.reqFly 63 = 0 + 1 ∧ (r 254 1).u.rd (Reg.SLC_REQS.PENDING 63) + 0 + 1 ≤ 255 ∧
      SMap.get 0 (r 255 1).u.reqFly 63 = 0 + 1 ∧ 255 < (r 255 1).u.rd (Reg.SLC_REQS.PENDING 63) + 0 + 1 ∧ SMap.get 0 (r 255 1).u.wdFly 63 = 0 + 1 := by
  unfold Sluice.still; decide +kernel
theorem hyp_SluiceTransfer :
    let b := sluice 1 { left := 5, buf := List.replicate 511 0 } [(Reg.SLC_SRC_LO.ADDR 63, 3), (Reg.SLC_CFG.PACE 63, 0), (Reg.SLC_CFG.BURST 63, 0)]
    let r := sluice 1 { reads := [(0xFFFFFFFFC, 4)] } [(Reg.SLC_COUNT.BYTES 63, 5)]
    let w := sluice 1 { writes := [⟨0xFFFFFFFFC, [1, 2, 3, 4]⟩] } [(Reg.SLC_COUNT.BYTES 63, 5)]
    let k := sluice 1 { backs := [0xFFFFFFFFC] }
    b.u.rd (Reg.SLC_STATUS.STATE 63) = 1 ∧ b.u.slPresent 63 = true ∧ b.u.rd (Reg.SLC_CFG.SMODE 63) = 0 ∧ b.u.rd (Reg.SLC_CFG.PACE 63) = 0 ∧
      b.u.slSrc 63 = 3 ∧ (b.u.slOf 63).left ≠ 0 ∧ (let n := min 5 (4 * 2 ^ b.u.rd (Reg.SLC_CFG.BURST 63) - 3 % (4 * 2 ^ b.u.rd (Reg.SLC_CFG.BURST 63)))
        (b.u.slOf 63).asked + n ≤ 512 ∧ 3 + n < 2 ^ 40) ∧ (∀ r, r < 16 → b.u.rd (Reg.WEIR_RGN_CTRL.EN r) = 0) ∧
      r.u.slOf 63 = { reads := [(0xFFFFFFFFC, 4)] } ∧ DramReady r 0xFFFFFFFFC 4 ∧ r.u.slCnt 63 ≠ 0 ∧
      w.u.slOf 63 = { writes := [⟨0xFFFFFFFFC, [1, 2, 3, 4]⟩] } ∧ DramReady w 0xFFFFFFFFC 4 ∧ w.u.weirRefusing 0xFFFFFFFFC 4 = [] ∧
      w.u.rd (Reg.SLC_CFG.DMODE 63) ≠ 2 ∧ w.u.slCnt 63 < 2 ^ 32 ∧ w.u.slDst 63 + 4 < 2 ^ 40 ∧
      k.u.slOf 63 = { backs := [0xFFFFFFFFC] } ∧ DramReady k 0xFFFFFFFFC 0 ∧ k.u.rd (Reg.SLC_CFG.RELOAD 63) = 0 ∧ k.u.rd (Reg.SLC_CFG.SLOT_EN 63) = 0 ∧
      (∀ d, d < 64 → k.u.rd (Reg.SLC_CFG.CHAIN_EN d) = 0) ∧ (∀ n, n < 8 → k.u.rd (Reg.RSV_RING_CFG.DB_EN n) = 0) := by
  unfold DramReady; decide +kernel

/-! ## The weir and the command rings -/

/-- Region 15, of `size` MiB at the top of DRAM, enabled or not, with FILL and DONE. -/
def region (on size fill done : Nat) (vals : List (Fld × Nat) := []) (g : Weir → Weir := id) : State :=
  mk ([(Reg.WEIR_RGN_CTRL.EN 15, on), (Reg.WEIR_RGN_CFG.BASE 15, 65536 - size), (Reg.WEIR_RGN_CFG.SIZE 15, size),
    (Reg.WEIR_RGN_FILL.OFFSET 15, fill), (Reg.WEIR_RGN_DONE.OFFSET 15, done)] ++ vals) fun u => { u with weir := g u.weir }

theorem hyp_Weir_regions :
    let off := region 0 2 0 0
    let clash := region 0 2 0 0 [(Reg.WEIR_RGN_CTRL.EN 0, 1), (Reg.WEIR_RGN_CFG.BASE 0, 65535), (Reg.WEIR_RGN_CFG.SIZE 0, 1)]
    let on := region 1 1 0xFFFFF 0xFFFFF [(Reg.WEIR_DEPTH.DEPTH, 1)]
    let low := region 1 1 0xFFFFF 0 [(Reg.WEIR_DEPTH.DEPTH, 0)]
    off.u.rd (Reg.WEIR_RGN_CTRL.EN 15) = 0 ∧ off.u.rgnSize 15 ≠ 0 ∧ off.u.rgnBase 15 + off.u.rgnSize 15 ≤ 0x1000000000 ∧
      (∀ q, q < 16 → q ≠ 15 → off.u.rgnOn q = true → off.u.rgnBase 15 + off.u.rgnSize 15 ≤ off.u.rgnBase q ∨ off.u.rgnBase q + off.u.rgnSize q ≤ off.u.rgnBase 15) ∧
      State.reset.u.rgnSize 15 = 0 ∧ clash.u.rgnOn 0 = true ∧ clash.u.rgnBase 0 < clash.u.rgnBase 15 + clash.u.rgnSize 15 ∧
      clash.u.rgnBase 15 < clash.u.rgnBase 0 + clash.u.rgnSize 0 ∧
      on.u.rd (Reg.WEIR_RGN_CTRL.EN 15) = 1 ∧ on.u.rgnFill 15 = on.u.rgnDone 15 ∧ low.u.rgnFill 15 ≠ low.u.rgnDone 15 ∧
      on.u.rgnFill 15 + 1 ≤ on.u.rgnSize 15 ∧ on.u.rgnFill 15 + 1 < 2 ^ 32 ∧ on.u.weir = {} ∧ on.u.held + 1 ≤ on.u.depthBytes ∧
      low.u.depthBytes < low.u.held + 1 ∧ on.u.rgnSize 15 < on.u.rgnFill 15 + 2 := by
  decide +kernel
theorem hyp_Weir_grants :
    let g : GrantWait := ⟨63, 15, 0x100000, false⟩
    let i : RefusalInterval := ⟨1, 2, 3, 4⟩
    let s (x : Option RefusalInterval) := region 1 1 0xFFFFF 0xFFFFF [(Reg.WEIR_DEPTH.DEPTH, 1)] fun w => { w with waits := [g], interval := x }
    let f := region 1 1 0xFFFFF 0xFFFFF [] fun w => { w with waits := [{ g with failed := true }], interval := some i }
    (∀ x ∈ [none, some i], (s x).u.weir.waits = [g] ∧ (s x).u.rd (Reg.WEIR_RGN_CTRL.EN 15) = 1 ∧ (s x).u.rgnFill 15 < g.end_ ∧ g.end_ ≤ (s x).u.rgnSize 15 ∧
        (s x).u.weir.closed = false ∧ (s x).u.held + (g.end_ - (s x).u.rgnFill 15) ≤ (s x).u.depthBytes ∧ (s x).u.weir.interval = x) ∧
      (s (some i)).u.weir.waits.any GrantWait.failed = false ∧ f.u.weir.waits.any GrantWait.failed = true ∧ f.u.weir.interval = some i := by
  decide +kernel
theorem hyp_Weir_depth :
    let s (vals : List (Fld × Nat)) := mk ([(Reg.WEIR_VRES.MV, 20000), (Reg.RSV_STATUS.STATE, 2), (Reg.RSV_POOL.MIB, 65535), (Reg.RSV_RATE.CAP, 24000)] ++ vals)
    let dip := s [(Reg.WEIR_STATUS.DIP, 1), (Reg.WEIR_CFG.DIP_PCT, 15)]
    let d (x : State) := min (x.u.edepth (x.u.rd Reg.WEIR_CFG.GRACE)) (min x.u.census.part.depthMax (x.u.rd Reg.RSV_POOL.MIB - 1024))
    let full := region 1 1 0xFFFFF 0 [(Reg.WEIR_VRES.MV, 0)]
    State.reset.u.held ≤ State.reset.u.edepth 255 * 1048576 ∧ full.u.edepth 255 * 1048576 < full.u.held ∧
      (s [(Reg.WEIR_STATUS.FROZEN, 1)]).u.rd Reg.WEIR_STATUS.FROZEN = 1 ∧ State.reset.u.rd Reg.WEIR_STATUS.FROZEN = 0 ∧
      State.reset.u.rd Reg.WEIR_DEPTH.DEPTH < 65536 ∧ (mk [(Reg.RSV_STATUS.STATE, 1)]).u.rd Reg.RSV_STATUS.STATE ≤ 1 ∧
      dip.u.rd Reg.WEIR_STATUS.DIP = 1 ∧ dip.u.rd Reg.WEIR_CFG.DIP_PCT = 15 ∧ 2 ≤ dip.u.rd Reg.RSV_STATUS.STATE ∧
      (s []).u.edepth ((s []).u.rd Reg.WEIR_CFG.GRACE) ≠ d (s []) ∧ d (s []) = (s []).u.census.part.depthMax ∧
      (let x := s [(Reg.RSV_POOL.MIB, 2048)]
       x.u.edepth (x.u.rd Reg.WEIR_CFG.GRACE) ≠ d x ∧ d x ≠ x.u.census.part.depthMax) ∧
      (let x := s [(Reg.WEIR_VRES.MV, 0)]
       x.u.edepth (x.u.rd Reg.WEIR_CFG.GRACE) = d x) := by
  decide +kernel

/-- Ring 7 fetches, with its HEAD at the first address of DRAM, where these bytes stand. -/
def ring (mem : List (Nat × Byte)) (vals : List (Fld × Nat) := []) (f : Units → Units := id) : State :=
  { mk ([(Reg.RSV_RING_STATUS.STATE 7, 2), (Reg.RSV_RING_STATUS.ALLOW 7, 1), (Reg.RSV_STATUS.STATE, 2)] ++ vals) f with mem := mem }

theorem hyp_CommandRings_control :
    (∀ n ∈ [0, 1, 2, 3], (mk [(Reg.RSV_RING_STATUS.STATE 7, n)]).u.rd (Reg.RSV_RING_STATUS.STATE 7) = n) ∧ State.reset.u.weir.closed = false ∧
      (let z := ring [] [(Reg.RSV_RING_STATUS.ALLOW 7, 0)]
       z.u.ringFetches 7 = true ∧ z.u.rd (Reg.RSV_RING_STATUS.ALLOW 7) = 0) ∧
      (∀ op ∈ [0, 7, 255], let b := ring ((if op = 0 then [] else [(0, BitVec.ofNat 8 op)]) ++ [(1, 1)])
       b.u.ringFetches 7 = true ∧ b.u.rd (Reg.RSV_RING_STATUS.ALLOW 7) = 1 ∧ DramReady b (b.u.ringHead 7) 64 ∧ b.load (b.u.ringHead 7 + 1) 1 = 1 ∧
         b.load (b.u.ringHead 7) 1 = op) ∧
      (∀ k ∈ [0, 1], let e := ring [] [(Reg.RSV_RING_STATUS.RECHECK 7, k)]
       e.u.ringFetches 7 = true ∧ e.load (e.u.ringHead 7 + 1) 1 % 2 = 0 ∧ e.u.rd (Reg.RSV_RING_STATUS.RECHECK 7) = k) := by
  unfold DramReady; decide +kernel
theorem hyp_CommandRings_heads :
    (∀ op ∈ [1, 2, 3, 4, 5, 6], AtHead (ring [(0, BitVec.ofNat 8 op), (1, 1)]) 7 op ∧ AtHead (ring [(0, BitVec.ofNat 8 op), (1, 3)]) 7 op) ∧
      (ring []).load (0 + 0x28) 8 = 0 ∧ (ring []).u.rsv.lastTok ≤ (ring []).u.rsv.doneTok ∧
      (ring [] [] fun u => { u with rsv := { u.rsv with lastTok := 1 } }).u.rsv.doneTok < 1 ∧ (ring []).u.postRegion 0 0 = none ∧
      (ring []).u.admitting = false ∧ (ring []).u.openVol = none := by
  unfold AtHead DramReady; decide +kernel
/-- One record of a posted buffer, at address 0x80000000. -/
def posted : List Nat := [1, 0, 0, 0, 32, 0, 0, 0, 0, 0, 0, 0, 0, 0, 0, 0, 0, 0, 0, 0, 0, 0, 0, 0, 0, 0, 0, 0, 90, 50, 102, 91]
theorem hyp_CommandRings_posts :
    let v : Volume := { aVol true with lastFp := some (0, 0), groups := [aGroup 9 0] }
    let s := ring [] [(Reg.WEIR_RGN_CTRL.EN 15, 1), (Reg.WEIR_RGN_CFG.BASE 15, 2048), (Reg.WEIR_RGN_CFG.SIZE 15, 1),
      (Reg.WEIR_RGN_FILL.OFFSET 15, 32)] (withVols [v])
    s.u.postRegion 0x80000000 32 = some 15 ∧ s.u.openVol = some v ∧ s.u.findVol v.id = some v ∧ v.due = false ∧ v.begun = false ∧
      v.lastFp = some (s.u.fpNow, s.u.genNow) ∧ s.u.weir.gaps = [] ∧ s.u.rsv.rejoin = false ∧ s.u.rsv.dones = [] ∧
      s.u.rsv.doneTok ≤ s.u.rsv.lastTok ∧ 32 + 160 ≤ s.u.freeCapacity - 2 ^ 30 ∧ s.u.rgnTouches 15 0 64 = false ∧
      v.groups[0]? = some (aGroup 9 0) ∧ 5 + 4 ≤ (aGroup 9 0).bytes.length := by
  decide +kernel
theorem hyp_CommandRings_records :
    let s := ring ([(0, 1), (1, 1), (0xB, 0x80), (0x10, 32)] ++ [(0x80000000, 1), (0x80000004, 32), (0x8000001C, 90), (0x8000001D, 50), (0x8000001E, 102), (0x8000001F, 91)])
    s.load 8 8 = 0x80000000 ∧ s.load 0x10 4 = 32 ∧ s.loadBytes 0x80000000 32 = posted ∧ postedRecords posted = some [posted] ∧ AtHead s 7 1 := by
  unfold AtHead DramReady; decide +kernel
theorem hyp_CommandRings_reads :
    let v : Volume := { aVol true with groups := [aGroup 9 0] }
    let d : Desc := { addr := 0, op := 3, evt := false, tag := 0, gseq := 0, dst := 64, len := 4, off := 5 }
    let s := ring [(0, 3), (1, 1)] [] fun u => (withVols [v] u).setRingDescs 7 [d]
    s.u.ringDescs 7 = [d] ∧ s.u.openVol = some v ∧ v.groups[d.gseq]? = some (aGroup 9 0) ∧ DramReady s d.addr 64 ∧ s.load (d.addr + 1) 1 = 1 ∧
      d.addr + 64 ≤ d.dst ∧ (∀ r, r < 16 → s.u.rgnTouches r d.addr 64 = false) ∧ (∀ r, r < 16 → s.u.rgnTouches r d.dst d.len = false) ∧
      (∀ q, q < 4 → s.u.rd (Reg.XNG_DOMd.STATE (8 + q)) = 0) := by
  unfold DramReady; decide +kernel

/-! ## The reservoir, dips and the holdup flush -/

/-- A group admitted to the volume of `aVol`. -/
def adm : Admitted := { vol := List.replicate 16 1, group := aGroup 9 1, token := 7, cmd := false }

theorem hyp_Reservoir_commit :
    let sig := mk [(Reg.RSV_STATUS.STATE, 2)] (withRsv fun r => { r with signing := some adm })
    let s := mk [] (withRsv fun r => { r with stripe := 1, adm := [adm], vols := [aVol true] })
    let d : Desc := { addr := 0, op := 1, evt := true, tag := 5, token := 7 }
    let w : State := { s with mem := [(0, 1), (1, 3)], u := s.u.setRingDescs 7 [d] }
    sig.u.rsv.signing = some adm ∧ sig.u.rsv.queue = [] ∧ sig.u.rd Reg.RSV_STATUS.STATE = 2 ∧ (mk [] (withRsv fun r => { r with fill := 1 })).u.rsv.fill ≠ 0 ∧
      State.reset.u.rsv.fill = 0 ∧ s.u.rsv.durable < s.u.rsv.stripe ∧ s.u.rsv.adm = [adm] ∧ adm.stripe ≤ s.u.rsv.durable ∧
      s.u.findVol adm.vol = some (aVol true) ∧ s.u.rd Reg.TWN_PAIR.ROLE = 0 ∧ s.u.rsv.dones = [] ∧ s.u.pair.owed = [] ∧
      (∀ n, n < 8 → s.u.ringDescs n = []) ∧ w.u.ringDescs 7 = [d] ∧ (∀ m < 7, w.u.ringDescs m = []) ∧ d.token = adm.token ∧
      adm.group.gseq < 2 ^ 64 ∧ DramReady w d.addr 64 ∧ (∀ r, r < 16 → w.u.rgnTouches r d.addr 64 = false) ∧ w.load (d.addr + 1) 1 = 3 := by
  unfold DramReady; decide +kernel
theorem hyp_Reservoir_flash :
    let pool := withRsv fun r => { r with poolKib := 0 }
    let a := mk [] fun u => withRsv (fun r => { r with allow := [(159, 1)] }) (pool u)
    let z (n : Nat) := mk [] fun u => withRsv (fun r => { r with poolKib := 0, allow := SMap.set 0 [] 159 n }) u
    let b := mk [(Reg.RSV_STATUS.ERASE_DEFER, 1)]
    let c := mk [] (withRsv fun r => { r with erasing := [(159, 3724)] })
    let f := mk [] (withRsv fun r => { r with bad := [(159, 73)] })
    State.reset.u.dieUsable 159 = true ∧ a.u.rd Reg.RSV_STATUS.ERASE_DEFER = 0 ∧ (159, 3724) ∉ a.u.rsv.erasing ∧
      a.u.rsv.poolKib + a.u.rsv.erasing.length * 65536 < a.u.census.part.depthMax * 2048 ∧ a.u.eraseAllow 159 ≠ 0 ∧
      b.u.rd Reg.RSV_STATUS.ERASE_DEFER = 1 ∧ (159, 3724) ∈ c.u.rsv.erasing ∧ (SMap.get 0 f.u.rsv.bad 159 + 1) * 50 < f.u.census.part.dieBlocks ∧
      State.reset.u.rsv.dead.length < 160 := by
  decide +kernel
theorem hyp_Reservoir_recovery :
    let s (gs : List Group) := mk [(Reg.RSV_STATUS.STATE, 1)] (withRsv fun r => { r with vols := [{ aVol true with groups := gs }], adm := [adm] })
    (s []).u.rd Reg.RSV_STATUS.STATE = 1 ∧ (s []).u.rsv.vols = [aVol true] ∧ (aVol true).isOpen = true ∧ (s []).u.rsv.adm = [adm] ∧ adm.vol = (aVol true).id ∧
      (s []).u.rsv.fill = 0 ∧ (s []).u.rsv.gapCause = 0 ∧ (s []).u.rsv.dead = [] ∧ (s [aGroup 9 0]).u.rsv.vols = [{ aVol true with groups := [aGroup 9 0] }] ∧
      [aGroup 9 0].getLast? = some (aGroup 9 0) := by
  decide +kernel
theorem hyp_DipsAndFlush :
    let p (g : Power → Power) := mk [] (withPwr g)
    State.reset.u.pwr.down = 0 ∧ State.reset.u.rd Reg.WEIR_STATUS.DIP = 0 ∧ State.reset.u.pwr.flush = 0 ∧ State.reset.u.pwr.target = 0 ∧
      (mk [(Reg.WEIR_STATUS.DIP, 1)]).u.rd Reg.WEIR_STATUS.DIP = 1 ∧ (p fun x => { x with drain := some 3 }).u.pwr.drain ≠ none ∧
      (p fun x => { x with down := 2 }).u.pwr.down = 2 ∧ (p fun x => { x with down := 3 }).u.pwr.down = 3 ∧ (p fun x => { x with flush := 1 }).u.pwr.flush = 1 ∧
      (p fun x => { x with flush := 2 }).u.pwr.flush = 2 ∧ (∀ n, n < 8 → State.reset.u.rd (Reg.RSV_RING_STATUS.STATE n) ≠ 2) := by
  decide +kernel

/-! ## The fabric -/

theorem hyp_FabricAndRegisters_timeouts :
    let s := mk [(Reg.SLC_STATUS.STATE 63, 1)] fun u => u.setSl 63 { reads := [(0xFFFFFFFFC, 4)] }
    let c := core 64 [] [] [] (onCpu 64 fun x => { x with acc := some (.ioRead 0x1000) })
    let l (d : List Nat) := mk [] fun u => { u with late := [⟨2, 0xFFFFFFFFC, d⟩] }
    s.u.rd (Reg.SLC_STATUS.STATE 63) = 1 ∧ s.u.slOf 63 = { reads := [(0xFFFFFFFFC, 4)] } ∧ c.u.coreLive 64 = true ∧ (c.u.cpuOf 64).acc = some (.ioRead 0x1000) ∧
      (l []).u.late[0]? = some ⟨2, 0xFFFFFFFFC, []⟩ ∧ (l [1, 2, 3, 4]).u.late[0]? = some ⟨2, 0xFFFFFFFFC, [1, 2, 3, 4]⟩ ∧
      DramReady (l [1, 2, 3, 4]) 0xFFFFFFFFC 4 ∧ (l [1, 2, 3, 4]).u.weirRefusing 0xFFFFFFFFC 4 = [] := by
  unfold DramReady; decide +kernel
theorem hyp_FabricAndRegisters_crossings :
    let p (k : Nat) (t : Bool) := mk [] fun u => u.setPulseLine (768 + k) { flight := 1, taken := t }
    let d (st w : Nat) (x : Domain) := mk [(Reg.XNG_DOMd.STATE 24, st), (Reg.XNG_DOMd.WAKEEN 24, w)] fun u => u.setDomn 24 x
    (∀ k ∈ [63, 64, 111], (768 + k) / 256 < 4 ∧ (768 + k) % 256 = k ∧ ((p k false).u.pulseLine (768 + k)).flight ≠ 0 ∧
        ((p k false).u.pulseLine (768 + k)).taken = false ∧ ((p k true).u.pulseLine (768 + k)).taken = true ∧
        (p k false).u.rd (Reg.XNG_DOMd.STATE (lineDomain (768 + k))) = 0) ∧ (State.reset.u.pulseLine 879).flight = 0 ∧
      (d 1 1 {}).u.rd (Reg.XNG_DOMd.STATE 24) = 1 ∧ (d 1 1 {}).u.rd (Reg.XNG_DOMd.WAKEEN 24) = 1 ∧ (d 1 0 {}).u.rd (Reg.XNG_DOMd.WAKEEN 24) = 0 ∧
      (d 3 1 {}).u.rd (Reg.XNG_DOMd.STATE 24) = 3 ∧ wakeTime 24 ≤ wakeTime 24 ∧ (d 0 1 { woken := true }).u.rd (Reg.XNG_DOMd.STATE 24) = 0 ∧
      ((d 0 1 { woken := true }).u.domn 24).woken = true ∧ ((d 0 1 { refused := 1 }).u.domn 24).refused ≠ 0 := by
  decide +kernel
theorem hyp_FabricAndRegisters_accesses :
    let on := mk [(Reg.FAB_DBG.EN, 1)]
    let c := core 63 [] []
    let o := mk [(Reg.XNG_DOMd.STATE 4, 2)]
    State.reset.u.rd Reg.FAB_DBG.EN = 0 ∧ on.u.rd Reg.FAB_DBG.EN = 1 ∧ DramReady on 0xFFFFFFFFC 4 ∧ 0xFFFFFFFFC % 4 = 0 ∧
      on.u.weirRefusing 0xFFFFFFFFC 4 = [] ∧ c.u.coreLive 63 = true ∧ c.u.rd Reg.RST_BLOCK.BUSY = 0 ∧ bit 0x80000000 31 = true ∧
      State.reset.u.rd (Reg.RUN_OWNER.CLASS 63) = 0 ∧ 0xFFFC % 4 = 0 ∧ 0x11FFFC % 4 = 0 ∧ o.u.rd (Reg.XNG_DOMd.STATE 4) = 2 ∧
      o.u.rd Reg.RST_BLOCK.BUSY = 0 := by
  unfold DramReady; decide +kernel

/-! ## The Ethernet switch and the endpoint -/

/-- Port 12 is enabled and its link is up. -/
def port (p : Nat) (vals : List (Fld × Nat) := []) (f : Units → Units := id) : State :=
  mk ([(Reg.NET_PCFG.EN p, 1), (Reg.NET_PSTATUS.LINK p, 1)] ++ vals) f
def withSwitch (g : Switch → Switch) (u : Units) : Units := { u with switch := g u.switch }
/-- An untagged frame of n zero bytes to a group address from host 1. -/
def groupFrame (n : Nat) : List Nat := [1, 0, 0, 0, 0, 0, 0, 0, 0, 0, 0, 1, 0, 0] ++ List.replicate n 0
def hostFrame : List Nat := [0, 0, 0, 0, 0, 2, 0, 0, 0, 0, 0, 1, 0, 0]

theorem hyp_Switch_ports :
    let s := port 12
    let t (l : Nat) := mk [(Reg.NET_PCFG.EN 11, 1), (Reg.NET_PCFG.TC10 11, 1), (Reg.NET_PSTATUS.TC10 11, 0), (Reg.NET_PSTATUS.LINK 11, l)]
    s.u.portPresent 12 = true ∧ s.u.portUp 12 = true ∧ s.u.rd (Reg.NET_PMIR.RX 12) = 0 ∧ s.u.rd (Reg.NET_PMIR.TX 12) = 0 ∧
      s.u.rd (Reg.NET_PCFG.EN 12) = 1 ∧ s.u.pwr.frontOff = false ∧ s.u.rd (Reg.NET_PDIAG.BUSY 12) = 0 ∧ s.u.rd (Reg.NET_PSTATUS.LINK 12) = 1 ∧
      State.reset.u.rd (Reg.NET_PSTATUS.LINK 12) = 0 ∧
      (∀ l ∈ [0, 1], (t l).u.portPresent 11 = true ∧ (t l).u.rd (Reg.NET_PCFG.EN 11) = 1 ∧ (t l).u.rd (Reg.NET_PCFG.TC10 11) = 1 ∧
        (t l).u.rd (Reg.NET_PSTATUS.TC10 11) ≠ 1 ∧ (t l).u.rd (Reg.NET_PSTATUS.LINK 11) = l) ∧
      (mk [(Reg.NET_PSTATUS.TC10 11, 1)]).u.rd (Reg.NET_PSTATUS.TC10 11) = 1 ∧ s.u.pwr.down = 0 ∧ s.u.pwr.target = 0 ∧
      (mk [(Reg.NET_PDIAG.BUSY 12, 1)]).u.rd (Reg.NET_PDIAG.BUSY 12) = 1 ∧ 12 ∉ s.u.switch.sqiSaid ∧
      12 ∈ (port 12 [] (withSwitch fun w => { w with sqiSaid := [12] })).u.switch.sqiSaid := by
  decide +kernel
theorem hyp_Switch_queues :
    let q := port 12 [] fun u => (u.setPortQueue 12 0 [hostFrame]).setPortQueue 12 7 [hostFrame]
    let g := port 12 [] (withSwitch fun w => { w with gates := [(12, { entries := [(1, 100)] })] })
    q.u.portQueue 12 7 = hostFrame :: [] ∧ bit (q.u.gateMask 12) 7 = true ∧ (∀ d < 8, 7 < d → bit (q.u.gateMask 12) d = false ∨ q.u.portQueue 12 d = []) ∧
      bit (g.u.gateMask 12) 7 = false ∧ bit (g.u.gateMask 12) 0 = true ∧ (SMap.get {} g.u.switch.gates 12).entries ≠ [] := by
  decide +kernel
theorem hyp_Switch_frames :
    (groupFrame 9202).length ≤ 9216 ∧ 9216 < (groupFrame 9203).length ∧ macReserved (frameDst (groupFrame 9202)) = false ∧
      macGroup (frameDst (groupFrame 9202)) = true ∧ macGroup (frameSrc (groupFrame 9202)) = false ∧ macGroup (frameDst hostFrame) = false ∧
      frameSrc hostFrame ≠ frameDst hostFrame ∧ (port 12).u.switch.macs.length < 4096 := by
  decide +kernel
theorem hyp_Switch_known :
    let s := port 12 [] (withSwitch fun w => { w with macs := [⟨2, (port 12).u.frameVlan 12 hostFrame, 0, 0⟩] })
    (s.u.switch.macs.find? fun (m : MacEntry) => m.mac == frameDst hostFrame && m.vid == s.u.frameVlan 12 hostFrame) =
      some ⟨2, (port 12).u.frameVlan 12 hostFrame, 0, 0⟩ ∧ s.u.buffered + hostFrame.length ≤ 4194304 := by
  refine ⟨?_, by decide +kernel⟩
  simp [port, mk, withSwitch, frameDst, hostFrame, Units.frameVlan, frameTagged, beNat]
theorem hyp_Switch_room (s : State) (f : List Nat) (members : List Nat) (h : s.u.switch.queues = []) (hf : f.length = 14)
    (hm : members.length ≤ 14) : s.u.buffered + f.length * members.length ≤ 4194304 := by
  simp only [Units.buffered, h, hf, List.foldl_nil]; omega
theorem buffered_one (l : List Nat) : (port 12 [] fun u => u.setPortQueue 0 0 [l]).u.buffered = l.length := by
  simp [port, mk, Units.setPortQueue, Units.buffered, SMap.set, State.reset, Units.wr]
theorem hyp_Switch_noRoom (f : List Nat) (k : Nat) :
    4194304 < (port 12 [] fun u => u.setPortQueue 0 0 [List.replicate 4194305 0]).u.buffered + f.length * k := by
  have h := buffered_one (List.replicate 4194305 0)
  rw [List.length_replicate] at h
  omega
theorem hyp_Switch_endpoint : Config.linkLocal ∈ State.reset.u.endpointAddrs ∧
    ∃ a, a ∉ State.reset.u.endpointAddrs :=
  ⟨List.mem_cons_self, ⟨State.reset.u.endpointAddrs.sum + 1, fun h => by have := List.le_sum_of_mem h; omega⟩⟩

/-! ## Record sinks, CAN, cameras -/

/-- Sink x is on and uses weir region 15, the last MiB of DRAM, from 32 bytes before its end. -/
def sink (x : Nat) (k : Sink) (vals : List (Fld × Nat) := []) : State :=
  mk ([(Reg.SINK_CFG.EN x, 1), (Reg.SINK_CFG.REG0 x, 15), (Reg.SINK_CFG.REG1 x, 0), (Reg.WEIR_RGN_CTRL.EN 15, 1), (Reg.WEIR_RGN_CTRL.EN 0, 1),
    (Reg.WEIR_RGN_CFG.BASE 15, 65535), (Reg.WEIR_RGN_CFG.SIZE 15, 1), (Reg.WEIR_RGN_FILL.OFFSET 15, 0xFFFC0), (Reg.WEIR_RGN_DONE.OFFSET 15, 0xFFFC0),
    (Reg.WEIR_DEPTH.DEPTH, 1)] ++ vals) fun u => u.setSink x k
def piece : Piece := { src := 0, time := 0, angle := 0, steps := 0, bytes := List.replicate 25 1 }
def can (c : CanChan) (vals : List (Fld × Nat) := []) : State := mk ((Reg.CAN_CFG.EN 11, 1) :: vals) fun u => u.setCan 11 c
def cam (c : CamRx) (vals : List (Fld × Nat) := []) : State :=
  mk ([(Reg.CAM_CFG.EN 7, 1), (Reg.CAM_STATUS.LOCK 7, 1), (Reg.SINK_CFG.EN 2, 1)] ++ vals) fun u => u.setCam 7 c

theorem hyp_SinksCanCameras_sinks :
    let o : OpenRec := { off := 0xFFFC0, len := 57, granted := 64, src := 0, time := 0, angle := 0, tstep := true }
    let k := sink 2 { opened := some o } [(Reg.SINK_CFG.AGE 2, 1)]
    (∀ x, x < 3 →
      let s := sink x { pieces := [piece] } [(Reg.SINK_CFG.EN x, 0)]
      let p := sink x { pieces := [piece] }
      let r := s.u.sinkRegion x (s.u.sinkCur x)
      s.u.rd (Reg.SINK_CFG.EN x) = 0 ∧ s.u.rd (Reg.SINK_CFG.REG0 x) ≠ s.u.rd (Reg.SINK_CFG.REG1 x) ∧ s.u.rgnOn (s.u.rd (Reg.SINK_CFG.REG0 x)) = true ∧
        s.u.rgnOn (s.u.rd (Reg.SINK_CFG.REG1 x)) = true ∧ State.reset.u.rgnOn (State.reset.u.rd (Reg.SINK_CFG.REG0 x)) = false ∧ State.reset.u.rd (Reg.SINK_CFG.EN x) = 0 ∧
        p.u.rd (Reg.SINK_CFG.EN x) = 1 ∧ (p.u.sinkOf x).opened = none ∧ (p.u.sinkOf x).pieces = piece :: [] ∧ p.u.rd Reg.RSV_STATUS.STATE ≠ 4 ∧ r < 16 ∧
        p.u.rgnOn r = true ∧ p.u.rgnFill r + occupies (32 + piece.bytes.length) ≤ p.u.rgnSize r ∧ p.u.weir = {} ∧
        p.u.held + occupies (32 + piece.bytes.length) ≤ p.u.depthBytes ∧
        (sink x { pieces := [piece] } [(Reg.RSV_STATUS.STATE, 4)]).u.rd Reg.RSV_STATUS.STATE = 4) ∧
      k.u.rd (Reg.SINK_CFG.AGE 2) ≠ 0 ∧ (k.u.sinkOf 2).opened = some o ∧ 32 ≤ o.len ∧ k.u.sinkRegion 2 (k.u.sinkCur 2) < 16 ∧ o.off + occupies o.len < 2 ^ 32 := by
  decide +kernel
theorem hyp_SinksCanCameras_can :
    let f : CanFrame := { id := 0x1FFFFFFF, ide := true, fdf := false, brs := false, esi := false, rtr := false, data := [1], err := false, own := false }
    let t : CanTx := { eflags := 0, id := 0x7FF, data := [], tag := 0 }
    let no := can {} [(Reg.CAN_RXFLT.ID 11, 0), (Reg.CAN_RXMASK.ID 11, 1)]
    let ok := can { tx := [t], tokens := 1 } [(Reg.CAN_PERMIT0.MODE 11, 2), (Reg.CAN_PERMIT0.RATE 11, 1), (Reg.CAN_PERMIT1.ID_LO 11, 0x7FF),
      (Reg.CAN_PERMIT2.ID_HI 11, 0x7FF), (Reg.CAN_STATUS.STATE 11, 0)]
    let full := can { rx := List.replicate 63 [5], tx := List.replicate 8 t, push := [64, 1] ++ List.replicate 16 7, started := true, reload := true }
    full.u.rd (Reg.CAN_CFG.EN 11) = 1 ∧ full.u.pwr.frontOff = false ∧ full.u.pwr.down = 0 ∧ full.u.pwr.target = 0 ∧ f.fdf = false ∧ f.err = false ∧
      no.u.canMatch 11 f = false ∧ (can {} [(Reg.CAN_RXMASK.ID 11, 0), (Reg.CAN_RXMASK.IDE 11, 0)]).u.canMatch 11 f = true ∧
      (full.u.canOf 11).rx = [5] :: List.replicate 62 [5] ∧ (List.replicate 62 [5]).length < 64 ∧ ((can { rx := [[1, 2]] }).u.canOf 11).rx = (1 :: 2 :: []) :: [] ∧
      ((can {}).u.canOf 11).rx = [] ∧ 8 ≤ (full.u.canOf 11).tx.length ∧ ((can {}).u.canOf 11).tx.length < 8 ∧
      (full.u.canOf 11).push = 64 :: 1 :: List.replicate 16 7 ∧ 64 % 65536 ≤ 64 ∧ (List.replicate 16 7).length = (64 % 65536 + 3) / 4 ∧
      ((can {}).u.canOf 11).push = [] ∧ (ok.u.canOf 11).tx = t :: [] ∧ ok.u.rd (Reg.CAN_STATUS.STATE 11) ≤ 1 ∧ ok.u.guardReason 11 t = none ∧
      full.u.guardReason 11 t = some 0 ∧ (full.u.canOf 11).lastReject = none ∧ (full.u.canOf 11).started = true ∧ (full.u.canOf 11).reload = true ∧
      ok.u.rd (Reg.CAN_STATUS.FAULT 11) ≠ 1 ∧ (ok.u.canOf 11).reload = false ∧ ok.u.rd (Reg.CAN_STATUS.STATE 11) ≠ 2 := by
  decide +kernel
theorem hyp_SinksCanCameras_cameras :
    let s := cam {}
    let k := cam {} [(Reg.CAM_CFG.KEEP 7, 1)]
    let i := cam { inFrame := true, kept := true }
    let e := cam { inFrame := true }
    s.u.camPresent 7 = true ∧ s.u.rd (Reg.CAM_CFG.EN 7) = 1 ∧ s.u.rd (Reg.CAM_STATUS.LOCK 7) = 1 ∧ s.u.pwr.acqOff = false ∧ (s.u.camOf 7).inFrame = false ∧
      ((s.u.camOf 7).frame + 1) % 2 ^ 32 % (s.u.rd (Reg.CAM_CFG.KEEP 7) + 1) = 0 ∧ s.u.sinkOn 2 = true ∧
      ((k.u.camOf 7).frame + 1) % 2 ^ 32 % (k.u.rd (Reg.CAM_CFG.KEEP 7) + 1) ≠ 0 ∧ (i.u.camOf 7).inFrame = true ∧ (i.u.camOf 7).kept = true ∧
      (i.u.camOf 7).data.length + (leBytes 4 0 ++ [1] ++ List.replicate 3 0).length ≤ i.u.fragMax ∧ (e.u.camOf 7).inFrame = true ∧ (e.u.camOf 7).kept = false ∧
      (e.u.camOf 7).errSaid = false ∧ State.reset.u.rd (Reg.CAM_STATUS.LOCK 7) = 0 ∧ s.u.rd (Reg.CAM_CFG.VC 7) ≠ 1 ∧ s.u.rd (Reg.CAM_I2C.BUSY 7) = 0 ∧
      (∀ w ∈ [0, 1], (cam {} [(Reg.CAM_I2C.BUSY 7, 1), (Reg.CAM_I2C.WRITE 7, w)]).u.rd (Reg.CAM_I2C.BUSY 7) = 1 ∧
        (cam {} [(Reg.CAM_I2C.BUSY 7, 1), (Reg.CAM_I2C.WRITE 7, w)]).u.rd (Reg.CAM_I2C.WRITE 7) = w) := by
  decide +kernel

/-! ## The dock and the twin link -/

theorem hyp_DockAndQueues_lanes :
    let on := mk [(Reg.DOCK_STATUS.PRESENT, 1), (Reg.DOCK_CFG.LASER_EN, 1), (Reg.DOCK_CFG.LANES, 255)]
    let up := mk [(Reg.DOCK_STATUS.LANEUP, 128)]
    let x : DownLane := { lane := 7, host := 5, todo := [(0, 8193)] }
    let y : DownLane := { lane := 7, host := 5, todo := [(8192, 8193)] }
    let d (l : DownLane) : Download := { num := 1, vol := List.replicate 16 1, off := 0, dport := 9, path := 0, lanes := [l] }
    let s (l : DownLane) := mk [(Reg.DOCK_STATUS.LANEUP, 128)] fun u => { u with downs := [d l] }
    State.reset.u.rd Reg.DOCK_STATUS.PRESENT = 0 ∧ State.reset.u.rd Reg.DOCK_STATUS.LANEUP = 0 ∧ State.reset.u.pwr.down = 0 ∧ State.reset.u.pwr.target = 0 ∧
      on.u.rd Reg.DOCK_STATUS.PRESENT = 1 ∧ on.u.rd Reg.DOCK_STATUS.LANEUP = 0 ∧ on.u.laserOn 7 = true ∧ bit (on.u.rd Reg.DOCK_STATUS.LANEUP) 7 = false ∧
      State.reset.u.laserOn 7 = false ∧ bit (up.u.rd Reg.DOCK_STATUS.LANEUP) 7 = true ∧ up.u.rd Reg.DOCK_STATUS.LANEUP < 256 ∧ up.u.downs = [] ∧
      (s x).u.downs = [d x] ∧ (d x).path = 0 ∧ x.todo = (0, 8193) :: [] ∧ bit ((s x).u.rd Reg.DOCK_STATUS.LANEUP) 7 = true ∧ bit (s x).u.paused 7 = false ∧
      0 + min 8192 (8193 - 0) < 8193 ∧ (s y).u.downs = [d y] ∧ ¬ 8192 + min 8192 (8193 - 8192) < 8193 := by
  decide +kernel
theorem hyp_DockAndQueues_queues :
    let up := mk [(Reg.DOCK_STATUS.LANEUP, 128), (Reg.DOCK_QCFG.EN 3, 1), (Reg.DOCK_QCFG.PORT 3, 9)]
    let t (h : Nat) (ws : List Nat) := mk [(Reg.DOCK_QCFG.EN 3, 1)] fun u => u.setXq false 3 { tx := h :: 5 :: ws, host := some (7, 1) }
    (Taking up ∧ bit (up.u.rd Reg.DOCK_STATUS.LANEUP) 7 = true ∧ bit (up.u.rd Reg.DOCK_STATUS.LANEUP) 0 = false ∧ mailboxOk [] = false ∧
      9 ≠ 21335 ∧ up.u.rd (Reg.DOCK_QCFG.EN 3) = 1 ∧ up.u.rd (Reg.DOCK_QCFG.PORT 3) = 9 ∧
      (∀ p, p < 3 → up.u.rd (Reg.DOCK_QCFG.EN p) = 0 ∨ up.u.rd (Reg.DOCK_QCFG.PORT p) ≠ 9)) ∧
      ((up.u.xq false 3).rx.map Prod.fst).sum + 8192 ≤ 65536 ∧ (∀ p, p < 4 → (up.u.xq false p).held = []) ∧
      (∀ twin, let z := mk [] fun u => u.setXq twin 3 { rx := [(1, [7]), (4, [8, 9])] }
        (z.u.xq twin 3).rx = (1, [7]) :: [(4, [8, 9])] ∧ (State.reset.u.xq twin 3).rx = [] ∧
        ((mk [] fun u => u.setXq twin 3 { rx := [(4, [8, 9])] }).u.xq twin 3).rx = (4, 8 :: 9 :: []) :: []) ∧
      up.u.queueOn false 3 = true ∧ up.u.queueOn true 3 = true ∧ (up.u.xq false 3).tx = [] ∧ (2 ^ 31 + 8192) % 2 ^ 14 = 8192 ∧
      State.reset.u.rd (Reg.DOCK_QCFG.EN 3) = 0 ∧ ((t (2 ^ 31 + 8) [6]).u.xq false 3).tx = (2 ^ 31 + 8) :: 5 :: [6] ∧
      ([6] : List Nat).length + 1 = ((2 ^ 31 + 8) % 2 ^ 14 + 3) / 4 ∧ ((t (2 ^ 31 + 8) [6]).u.xq false 3).host = some (7, 1) ∧
      bit (t (2 ^ 31 + 8) [6]).u.paused 7 = false ∧ ((t (2 ^ 31 + 8) [6]).u.xq false 3).held = [] := by
  unfold Taking; decide +kernel
/-- A PING frame of the service port. -/
theorem hyp_DockAndQueues_mailbox : ∃ b, mailboxOk b = true := by
  refine ⟨ascii "SWKM" ++ [1, 0, 0, 0, 0, 0, 0, 0, 0, 0, 0, 0, 0, 0, 0, 0] ++
    leBytes 4 (crc32c (ascii "SWKM" ++ [1, 0, 0, 0, 0, 0, 0, 0, 0, 0, 0, 0, 0, 0, 0, 0])), ?_⟩
  decide +kernel

/-! ## Twin mode -/

/-- Twin lane 1 is up, or both. -/
def twin (vals : List (Fld × Nat) := []) (f : Units → Units := id) (lanes : Nat := 2) : State :=
  mk ([(Reg.TWN_CFG.EN, 1), (Reg.TWN_CFG.LANES, 3), (Reg.TWN_STATUS.LANEUP, lanes)] ++ vals) f
def withTwl (g : TwinLink → TwinLink) (u : Units) : Units := { u with twl := g u.twl }
def withPair (g : TwinPair → TwinPair) (u : Units) : Units := { u with pair := g u.pair }

theorem hyp_TwinLink_lanes :
    let f : TwinTx := { seq := 1, type := 3, payload := [1], lane := 0, tries := 8 }
    let off := twin [(Reg.TWN_CFG.LANES, 0)] id 0
    let m (n : Nat) := twin [(Reg.TWN_STATUS.PARTNER, 1)] (withTwl fun t => { t with missed := [0, n] })
    let r (n : Nat) := twin [] (withTwl fun t => { t with unacked := [{ f with tries := n }] }) 3
    twin.u.rd Reg.TWN_CFG.EN = 1 ∧ bit (twin.u.rd Reg.TWN_CFG.LANES) 1 = true ∧ bit ((twin [] id 0).u.rd Reg.TWN_STATUS.LANEUP) 1 = false ∧
      twin.u.twl.hello = none ∧ twin.u.twl.unacked = [] ∧ bit (off.u.rd Reg.TWN_CFG.LANES) 1 = false ∧ bit (twin.u.rd Reg.TWN_STATUS.LANEUP) 1 = true ∧
      State.reset.u.rd Reg.TWN_CFG.EN = 0 ∧ (m 1).u.twl.missed.getD 1 0 < 2 ∧ (m 2).u.twl.missed.getD 1 0 = 2 ∧ (m 2).u.rd Reg.TWN_STATUS.LANEUP = 2 ^ 1 ∧
      (m 2).u.rd Reg.TWN_STATUS.PARTNER = 1 ∧ (m 2).u.rd Reg.TWN_PAIR.ROLE = 0 ∧ (r 7).u.twl.unacked = { f with tries := 7 } :: [] ∧
      f.lane < 2 ∧ (r 8).u.twl.unacked = [f] ∧ (r 8).u.rd Reg.TWN_STATUS.LANEUP = 3 := by
  decide +kernel
theorem hyp_TwinLink_frames :
    let s := twin [(Reg.TWN_PAIR.ROLE, 2)]
    twinParse [] = none ∧ twinParse (twinBytes 1 5 0 [1, 0, 0, 0, 16, 114]) = some ⟨1, 5, 0, [1, 0, 0, 0, 16, 114]⟩ ∧ twin.u.laneUp 1 = true ∧
      twin.u.rd Reg.TWN_STATUS.PARTNER = 0 ∧ twin.u.rd Reg.TWN_PAIR.ROLE = 0 ∧
      NextFrame s 1 (twinBytes 7 0 0 []) ⟨7, 0, 0, []⟩ ∧ NextFrame s 1 (twinBytes 3 0 0 [1]) ⟨3, 0, 0, [1]⟩ ∧ s.u.rd Reg.TWN_PAIR.ROLE = 2 ∧
      Taking s ∧ NextFrame s 1 (twinBytes 4 0 0 [3, 1]) ⟨4, 0, 0, [3, 1]⟩ ∧ ((s.u.xq true 3).rx.map Prod.fst).sum + 1 ≤ 65536 ∧
      twinParse (twinBytes 3 7 0 [1]) = some ⟨3, 7, 0, [1]⟩ ∧ 7 ≠ (s.u.twl.acked + 1) % 65536 := by
  unfold Taking NextFrame; decide +kernel
/-- A mailbox frame with an empty payload, and a twin frame that carries it. -/
theorem hyp_TwinLink_relay : ∃ b, mailboxOk b = true ∧ NextFrame (twin [(Reg.TWN_PAIR.ROLE, 2)]) 1 (twinBytes 3 0 0 b) ⟨3, 0, 0, b⟩ := by
  refine ⟨[83, 87, 75, 77, 1, 0, 0, 0, 0, 0, 0, 0, 0, 0, 0, 0, 0, 0, 0, 0, 3, 69, 114, 2], ?_⟩
  unfold NextFrame; decide +kernel

theorem control {s : State} {p : List Nat} (h : twinParse (twinBytes 2 0 0 p) = some ⟨2, 0, 0, p⟩ ∧ s.u.laneUp 1 = true ∧ s.u.twl.acked = 65535) :
    ControlFrame s 1 (twinBytes 2 0 0 p) (p.getD 0 0) p :=
  ⟨⟨2, 0, 0, p⟩, ⟨by decide, h.1, h.2.1, by rw [h.2.2]⟩, rfl, rfl, rfl⟩
theorem hyp_TwinPairing_control :
    ControlFrame twin 1 (twinBytes 2 0 0 [1, 0, 0, 0, 9, 0, 0, 0, 0, 0, 0, 0, 15]) 1 [1, 0, 0, 0, 9, 0, 0, 0, 0, 0, 0, 0, 15] ∧
    ControlFrame twin 1 (twinBytes 2 0 0 [2, 0, 0, 0, 0, 0]) 2 [2, 0, 0, 0, 0, 0] ∧ ControlFrame twin 1 (twinBytes 2 0 0 [2, 0, 0, 0, 7, 1]) 2 [2, 0, 0, 0, 7, 1] ∧
    ControlFrame twin 1 (twinBytes 2 0 0 [3, 0, 0, 0, 2, 1, 7, 0]) 3 [3, 0, 0, 0, 2, 1, 7, 0] ∧
    ControlFrame twin 1 (twinBytes 2 0 0 [5, 0, 0, 0, 100, 0, 0, 0]) 5 [5, 0, 0, 0, 100, 0, 0, 0] ∧
    ControlFrame twin 1 (twinBytes 2 0 0 [6, 0, 0, 0, 0x51, 0, 0, 0]) 6 [6, 0, 0, 0, 0x51, 0, 0, 0] ∧
    ControlFrame twin 1 (twinBytes 2 0 0 [7, 0, 0, 0]) 7 [7, 0, 0, 0] :=
  ⟨control (by decide +kernel), control (by decide +kernel), control (by decide +kernel), control (by decide +kernel), control (by decide +kernel),
    control (by decide +kernel), control (by decide +kernel)⟩
theorem hyp_TwinPairing_fprint (peer : Nat) (_ : peer ∈ [0, 1]) :
    ControlFrame twin 1 (twinBytes 2 0 0 [4, 0, 0, 0, peer, 0, 0, 0, 0, 0, 0, 0, 0, 0, 0, 0]) 4 [4, 0, 0, 0, peer, 0, 0, 0, 0, 0, 0, 0, 0, 0, 0, 0] := by
  have h : ∀ x ∈ [0, 1], twinParse (twinBytes 2 0 0 [4, 0, 0, 0, x, 0, 0, 0, 0, 0, 0, 0, 0, 0, 0, 0]) =
      some ⟨2, 0, 0, [4, 0, 0, 0, x, 0, 0, 0, 0, 0, 0, 0, 0, 0, 0, 0]⟩ := by decide +kernel
  exact control ⟨h peer ‹_›, by decide, by decide⟩
theorem hyp_TwinPairing_states :
    let lead := twin [(Reg.TWN_PAIR.ROLE, 1), (Reg.TWN_STATUS.PARTNER, 1)] (withPair fun p => { p with sent := some (1, 2), probe := some 0 })
    let fol := twin [(Reg.TWN_PAIR.ROLE, 2), (Reg.TWN_STATUS.PARTNER, 1), (Reg.TIM_CTRL.SRC, 4)] (withPair fun p => { p with dated := [(257, 3)], bad := 3 })
    let idx := twin [(Reg.TWN_PAIR.ROLE, 2)] (withRsv fun r => { r with index := List.replicate 62 [1] })
    let cmp := twin [(Reg.TWN_PAIR.ROLE, 2), (Reg.TWN_PAIR.ATTACHED, 1), (Reg.PST_STATUS.STALE, 0)] fun u => { u with pst := { u.pst with lastCmp := some true } }
    let asked := twin [] fun u => withPair (fun p => { p with asked := some 15 }) (withTwl (fun t => { t with hello := some (1, 2, 0, 0) }) u)
    let vols := twin [(Reg.TWN_PAIR.ROLE, 2), (Reg.RSV_STATUS.STATE, 3)]
    lead.u.rd Reg.TWN_PAIR.ROLE = 1 ∧ lead.u.rd Reg.TWN_STATUS.PARTNER = 1 ∧ lead.u.pair.sent = some (1, 2) ∧ lead.u.pair.probe ≠ none ∧
      NextFrame fol 1 (twinBytes 5 0 0 [1, 1, 0, 0, 0, 0, 0, 0, 0, 0, 0, 0]) ⟨5, 0, 0, [1, 1, 0, 0, 0, 0, 0, 0, 0, 0, 0, 0]⟩ ∧ fol.u.rd Reg.TWN_PAIR.ROLE = 2 ∧
      fol.u.rd Reg.TIM_CTRL.SRC = 4 ∧ fol.u.pair.dated = [(257, 3)] ∧ 257 % 256 = leNat ([1, 1, 0, 0].take 4) % 256 ∧
      NextFrame idx 1 (twinBytes 6 0 0 [1]) ⟨6, 0, 0, [1]⟩ ∧ idx.u.rsv.index.length < 63 ∧
      State.reset.u.rd Reg.SES_STATUS.OPEN = 0 ∧ State.reset.u.lsess = 0 ∧ (mk [(Reg.SES_STATUS.OPEN, 1)]).u.rd Reg.SES_STATUS.OPEN = 1 ∧
      asked.u.pair.asked = some 15 ∧ asked.u.stw.longs = [] ∧ asked.u.twl.hello = some (1, 2, 0, 0) ∧ asked.u.rd Reg.TWN_PAIR.ROLE = 0 ∧
      cmp.u.rd Reg.PST_STATUS.STALE = 0 ∧ leNat ((([4, 0, 0, 0, 0, 0, 0, 0, 0, 0, 0, 0] : List Nat).drop 4).take 8) = cmp.u.fpNow ∧
      leNat ((([4, 0, 0, 0, 1, 0, 0, 0, 0, 0, 0, 0] : List Nat).drop 4).take 8) ≠ cmp.u.fpNow ∧ cmp.u.rd Reg.TWN_PAIR.ATTACHED = 1 ∧ cmp.u.pst.lastCmp = some true ∧
      vols.u.rd Reg.RSV_STATUS.STATE = 3 ∧ vols.u.openVol = none ∧ vols.u.rsv.dead = [] ∧
      fol.u.rd Reg.TWN_PAIR.ATTACHED = 0 ∧ fol.u.pair.bad = 3 ∧ cmp.u.pair.bad < 3 := by
  unfold NextFrame; decide +kernel
theorem hyp_TwinPairing_index :
    let v : Volume := { aVol true with lastFp := some (0, 0) }
    let s := mk [(Reg.RSV_STATUS.STATE, 2)] fun u => withRsv (fun r => { r with index := [[1]] }) (withVols [v] u)
    TakesGroup s v ∧ s.u.rsv.index = [[1]] := by
  unfold TakesGroup; decide +kernel
theorem hyp_TwinPairing_timeout :
    let c : LongCmd := { frame := frame 0x0070 [] }
    let s := mk [] fun u => { u with stw := { u.stw with longs := [c] } }
    (s.u.stw.longs.find? fun (k : LongCmd) => k.frame.cmd == 0x0070 && k.peer == 0) = some c ∧ s.u.pair.joinedAt + 4000000000 ≤ max s.u.clock 4000000000 ∧
      s.u.rd Reg.TWN_PAIR.ATTACHED = 0 ∧ c.orphan = false ∧ c.frame.transport ≠ 2 := by
  decide +kernel
theorem hyp_TwinPairing_sync :
    let b : List Nat := [1] ++ List.replicate 40 0 ++ leBytes 4 (crc32c ([1] ++ List.replicate 40 0))
    let s := twin [(Reg.TWN_PAIR.ROLE, 2), (Reg.TWN_SYNC_DELAY.VALID, 1)] (withPair fun p => { p with lastSeq := some 0, good := 15 })
    GoodSync b ∧ (twin [(Reg.TWN_PAIR.ROLE, 2)]).u.pair.lastSeq = none ∧ (twin [(Reg.TWN_PAIR.ROLE, 2)]).u.rd Reg.TWN_SYNC_STATUS.LOCK = 0 ∧
      s.u.pair.lastSeq = some 0 ∧ b.getD 0 0 = (0 + 1) % 256 ∧ 15 ≤ s.u.pair.good ∧ s.u.rd Reg.TWN_SYNC_DELAY.VALID = 1 := by
  unfold GoodSync; decide +kernel
theorem hyp_TwinPairing_attach :
    let s := twin [(Reg.TWN_PAIR.ROLE, 2), (Reg.TWN_STATUS.PARTNER, 1), (Reg.TWN_SYNC_STATUS.LOCK, 1), (Reg.TIM_STATUS.ACTIVE, 4), (Reg.TIM_STATUS.LOCK, 1)]
      fun u => { u with pst := { u.pst with lastCmp := some true } }
    s.u.rd Reg.TWN_PAIR.ROLE = 2 ∧ s.u.rd Reg.TWN_PAIR.ATTACHED = 0 ∧ s.u.pairWait = 0 ∧ s.u.rd Reg.TWN_STATUS.PARTNER = 1 ∧
      (twin [(Reg.TWN_PAIR.ROLE, 2)]).u.pairWait ≠ 0 := by
  decide +kernel

/-! ## Sessions and settings -/

def withStw (g : Steward → Steward) (u : Units) : Units := { u with stw := g u.stw }
/-- A frame of no session. -/
def hello (cmd : Nat) (p : List Nat) : MbFrame := frame cmd p 0
/-- The frame is served with an empty mailbox 15 (Served), or with mailbox 15 in a given state (Tagged). -/
def boxed (f : MbFrame) (b : Mailbox) : State := served f [] (withStw fun x => { x with boxes := [(15, some b)] })

theorem hyp_Sessions_frames :
    let full := mk [] (withStw fun x => { x with arrivals := List.replicate 32 (hello 4 []) })
    let off := mk [] (withStw fun x => { x with running := false })
    off.u.stw.running = false ∧ Taking State.reset ∧ mailboxOk [83, 87, 75, 77, 1, 0, 0, 0, 0, 0, 0, 0, 0, 0, 0, 0, 0, 0, 0, 0, 3, 69, 114, 2] = true ∧
      mailboxOk [] = false ∧ bit ((mk [(Reg.DOCK_STATUS.LANEUP, 128)]).u.rd Reg.DOCK_STATUS.LANEUP) 7 = true ∧ Taking (mk [(Reg.DOCK_STATUS.LANEUP, 128)]) ∧
      full.u.stw.running = true ∧ 32 ≤ full.u.stw.arrivals.length := by
  unfold Taking; decide +kernel
theorem hyp_Sessions_opening :
    let back := served (hello 1 [1, 0, 0, 0]) [] (withStw fun x => { x with backoff := true })
    Heard (served (hello 0x99 [])) (hello 0x99 []) ∧ cmdCodes.contains 0x99 = false ∧ Heard (served (hello 1 [1, 0, 0, 0])) (hello 1 [1, 0, 0, 0]) ∧
      (served (hello 1 [1, 0, 0, 0])).u.stw.backoff = false ∧ Heard back (hello 1 [1, 0, 0, 0]) ∧ back.u.stw.backoff = true ∧ back.u.clock < back.u.stw.backAt + 400000000 ∧
      Heard (served (hello 2 ([1, 0, 0, 0] ++ List.replicate 32 5))) (hello 2 ([1, 0, 0, 0] ++ List.replicate 32 5)) ∧
      (served (hello 2 ([1, 0, 0, 0] ++ List.replicate 32 5))).u.stw.nonce = none := by
  unfold Heard; decide +kernel
theorem heard_open (f : MbFrame) (o k : Nat) (nonce : List Nat) (h : f.transport < 2) (ho : o = 0 ∨ o = 1) :
    Heard (served f [(Reg.SES_STATUS.OPEN, o)] (withStw fun x => { x with nonce := some (k, nonce) })) f := by
  rcases ho with rfl | rfl <;> exact ⟨rfl, h, of_decide_eq_true rfl, rfl⟩
/-- The right code and a wrong one, with a session open and with none. -/
theorem hyp_Sessions_codes (k o : Nat) (nonce : List Nat) (code : List Nat) (ho : o = 0 ∨ o = 1) :
    Heard (served (hello 2 ([k, 0, 0, 0] ++ code)) [(Reg.SES_STATUS.OPEN, o)] (withStw fun x => { x with nonce := some (k, nonce) }))
      (hello 2 ([k, 0, 0, 0] ++ code)) ∧
    (served (hello 2 ([k, 0, 0, 0] ++ code)) [(Reg.SES_STATUS.OPEN, o)] (withStw fun x => { x with nonce := some (k, nonce) })).u.clock <
      (served (hello 2 ([k, 0, 0, 0] ++ code)) [(Reg.SES_STATUS.OPEN, o)] (withStw fun x => { x with nonce := some (k, nonce) })).u.stw.nonceAt + 4000000000 ∧
    ∃ mac wrong, mac = hmacSha256 (State.reset.u.key k) nonce ∧ wrong ≠ hmacSha256 (State.reset.u.key k) nonce :=
  ⟨heard_open _ o k nonce Nat.zero_lt_two ho, of_decide_eq_true rfl, _, 7 :: hmacSha256 (State.reset.u.key k) nonce, rfl, List.cons_ne_self _ _⟩
/-- A command of the session with an empty mailbox 15. -/
theorem serves (c : Nat) (p : List Nat) (k : Nat) (hk : k ≤ 1) : Served (served (frame c p)) (frame c p) c k :=
  ⟨⟨⟨rfl, Nat.zero_lt_two, of_decide_eq_true rfl, rfl⟩, rfl, rfl, rfl, of_decide_eq_true rfl, hk, rfl⟩, rfl, rfl, rfl⟩
theorem hyp_Sessions_idle :
    let s := served (hello 4 [])
    let e := served (hello 4 []) [] fun u => { u with pst := { u.pst with words := [(0x34, some 0)] } }
    e.u.pstWord 0x34 = 0 ∧ 0 < s.u.stw.heard + s.u.pstWord 0x34 * 400000000 ∧ s.u.stw.running = true ∧ s.u.pstWord 0x34 ≠ 0 ∧
      s.u.stw.heard + s.u.pstWord 0x34 * 400000000 ≤ 48000000000 ∧ s.u.rd Reg.SES_STATUS.OPEN = 1 := by
  decide +kernel
theorem hyp_Sessions_served :
    Served (served (frame 3 [])) (frame 3 []) 3 0 ∧ Served (served (frame 4 [])) (frame 4 []) 4 0 ∧ Served (served (frame 4 [1])) (frame 4 [1]) 4 0 :=
  ⟨serves _ _ _ (by decide), serves _ _ _ (by decide), serves _ _ _ (by decide)⟩
theorem hyp_Sessions_judged :
    Heard (served (hello 4 [])) (hello 4 []) ∧ (hello 4 []).tag = 0 ∧
      Heard (served (frame 4 [] 8)) (frame 4 [] 8) ∧ (frame 4 [] 8).tag ≠ 0 ∧ (frame 4 [] 8).tag ≠ (served (frame 4 [] 8)).u.stw.tag ∧
      Heard (served { frame 4 [] with partner := true }) { frame 4 [] with partner := true } ∧ (served (frame 4 [])).u.rd Reg.TWN_PAIR.ROLE ≠ 1 := by
  unfold Heard; decide +kernel
theorem hyp_Sessions_levels :
    Heard (served (frame 0x24 []) [(Reg.SES_STATUS.LEVEL, 0)]) (frame 0x24 []) ∧ (served (frame 0x24 []) [(Reg.SES_STATUS.LEVEL, 0)]).u.rd Reg.SES_STATUS.LEVEL = 0 ∧
      (served (frame 4 []) [(Reg.TWN_PAIR.ROLE, 2)]).u.frontFrame = some (frame 4 []) ∧ (served (frame 4 []) [(Reg.TWN_PAIR.ROLE, 2)]).u.rd Reg.TWN_PAIR.ROLE = 2 := by
  unfold Heard; decide +kernel
theorem hyp_Sessions_boxes :
    (∀ r ∈ [none, some [7]], ∀ l ∈ [1, 0, 0xFFFFFFFF, 0x80000002, 0x80000001], Tagged (boxed (frame 4 []) ⟨l, r⟩) (frame 4 []) 4 0 ∧
      (boxed (frame 4 []) ⟨l, r⟩).u.box (frame 4 []).mbox = some ⟨l, r⟩ ∧ (boxed (frame 4 []) ⟨l, r⟩).u.pwr.target = 0) ∧
    (1 + 2 ^ 32 - 1) % 2 ^ 32 = 0 ∧ 1 ≤ (1 + 2 ^ 32 - 0xFFFFFFFF) % 2 ^ 32 ∧ (1 + 2 ^ 32 - 0x80000002) % 2 ^ 32 < 2 ^ 31 ∧
      2 ^ 31 ≤ (1 + 2 ^ 32 - 0x80000001) % 2 ^ 32 := by
  unfold Tagged Heard; decide +kernel

/-- Of the settings commands, any payload is served: those of the statement among them. -/
theorem hyp_StatusAndSettings_reads (p : List Nat) : (∀ c ∈ [0x10, 0x11, 0x12, 0x20, 0x21, 0x22], Served (served (frame c p)) (frame c p) c 0) ∧
    State.reset.u.rd Reg.RST_BLOCK.BUSY = 0 ∧ ([1] : List Nat).length % 12 ≠ 0 ∧ 1 ≤ 128 ∧ 3968 + 128 ≤ 4096 ∧ 4096 < 3969 + 128 :=
  ⟨fun c _ => serves c p 0 (by decide), by decide⟩
theorem hyp_StatusAndSettings_pair :
    let f := frame 0x10 []
    Served (served f [(Reg.TWN_PAIR.ROLE, 1), (Reg.TWN_STATUS.PARTNER, 1)]) f 0x10 0 ∧
      (served f [(Reg.TWN_PAIR.ROLE, 1), (Reg.TWN_STATUS.PARTNER, 1)]).u.rd Reg.TWN_PAIR.ROLE = 1 := by
  unfold Served Tagged Heard; decide +kernel
theorem hyp_StatusAndSettings_writes (p : List Nat) : (∀ c ∈ [0x23, 0x24, 0x25], Served (served (frame c p)) (frame c p) c 1) ∧
    (List.replicate 32 255).length = 32 ∧ (∀ b ∈ List.replicate 32 255, b < 256) ∧ (∀ i, i < 16 → Fresh State.reset i) ∧
      (∀ j, j < 3 → Fresh State.reset (0x10 + 3 * 11 + j)) ∧ State.reset.u.pstWord 4095 = 0 :=
  ⟨fun c _ => serves c p 1 (by decide), by unfold Fresh; decide +kernel⟩
theorem hyp_StatusAndSettings_wear :
    let worn (n : Nat) := served (frame 0x23 (leBytes 2 4095 ++ leBytes 2 1 ++ leBytes 4 5)) [] fun u => { u with pst := { u.pst with wear := [(4095, n)] } }
    Fresh (worn 899998) 4095 ∧ (worn 899999).u.pstWear 4095 = 899999 ∧ (worn 999999).u.pstWear 4095 = 999999 ∧ 1000000 ≤ (worn 1000000).u.pstWear 4095 ∧
      5 ≠ (worn 1000000).u.pstWord 4095 := by
  unfold Fresh; decide +kernel
theorem hyp_StatusAndSettings_worn :
    let f := frame 0x23 (leBytes 2 4095 ++ leBytes 2 1 ++ leBytes 4 5)
    Served (served f [] fun u => { u with pst := { u.pst with wear := [(4095, 1000000)] } }) f 0x23 1 := by
  unfold Served Tagged Heard; decide +kernel
theorem fingerprint_wr (u : Units) (f : Fld) (v : Nat) (h : ∀ n, n < 8 → (Reg.BSN_WCS_STATUS.STATE n).key ≠ f.key) : (u.wr f v).fingerprint = u.fingerprint := by
  have hb : ∀ n ∈ List.range 8, (u.wr f v).fpBasin n = u.fpBasin n := fun n hn => by
    unfold Units.fpBasin
    have : (u.wr f v).wcsState n = u.wcsState n := Units.rd_wr_other _ _ (h n (List.mem_range.mp hn))
    rw [this]; rfl
  unfold Units.fingerprint Units.fpBytes
  rw [show (List.range 8).flatMap (u.wr f v).fpBasin = (List.range 8).flatMap u.fpBasin from List.flatMap_congr hb]
  rfl
/-- One of two states that differ in PST_FP alone holds another fingerprint than it publishes. -/
theorem hyp_StatusAndSettings_publish : ∃ v : Units, v.rd Reg.PST_STATUS.STALE = 1 ∧ v.fingerprint ≠ v.fpNow ∧ v.pst.p < 65535 ∧
    v.genNow ≤ (v.pstWord 0x36 * 65536 + (v.pst.p + 1)) % 2 ^ 32 := by
  by_cases h : State.reset.u.fingerprint = 0
  · refine ⟨State.reset.u.wr Reg.PST_FP_LO.FP 1, by decide +kernel, ?_, by decide +kernel, by decide +kernel⟩
    rw [fingerprint_wr _ _ _ (by decide), h]
    decide +kernel
  · refine ⟨State.reset.u, by decide +kernel, ?_, by decide +kernel, by decide +kernel⟩
    rw [show State.reset.u.fpNow = 0 by decide +kernel]
    exact h

/-! ## Commands on cores, stores, logs, volumes; power, twin, firmware; long commands -/

/-- The same frame in a state with more changed. -/
theorem serves_in (c : Nat) (p : List Nat) (k : Nat) (hk : k ≤ 1) (g : Units → Units) (hg : ∀ u : Units, (g u).regs = u.regs ∧ (g u).stw = u.stw ∧
    (g u).gate.stwOff = u.gate.stwOff ∧ (g u).pwr.target = u.pwr.target) : Served (served (frame c p) [] g) (frame c p) c k := by
  have h := serves c p k hk
  have rd : ∀ f : Fld, (served (frame c p) [] g).u.rd f = (served (frame c p)).u.rd f := fun f => by
    unfold Units.rd; rw [show (served (frame c p) [] g).u.regs = (served (frame c p)).u.regs from (hg _).1]
  have st : (served (frame c p) [] g).u.stw = (served (frame c p)).u.stw := (hg _).2.1
  have ga : (served (frame c p) [] g).u.gate.stwOff = (served (frame c p)).u.gate.stwOff := (hg _).2.2.1
  have ta : (served (frame c p) [] g).u.pwr.target = (served (frame c p)).u.pwr.target := (hg _).2.2.2
  simpa only [Served, Tagged, Heard, Units.frontFrame, Units.box, rd, st, ga, ta] using h

theorem hyp_CoreAndLogCommands_frames (p : List Nat) (c : Nat) (_ : c ∈ [0x30, 0x31, 0x32, 0x33, 0x34, 0x35, 0x40, 0x41, 0x42, 0x43, 0x50, 0x51, 0x52, 0x54, 0x55]) :
    Served (served (frame c p)) (frame c p) c 0 ∧ Served (served (frame 0x53 p)) (frame 0x53 p) 0x53 1 ∧ (served (frame c p)).u.rd Reg.TWN_PAIR.ROLE = 0 :=
  ⟨serves c p 0 (by decide), serves 0x53 p 1 (by decide), rfl⟩
theorem hyp_CoreAndLogCommands_cores :
    let rel := served (frame 0x30 (leBytes 8 (2 ^ 63))) [(Reg.RST_HELD_HI.CORE, 0)]
    let few := served (frame 0x30 (leBytes 8 (2 ^ 63))) [] fun u => { u with census := { u.census with part := .swk7210 } }
    few.u.corePresent 63 = false ∧ rel.u.corePresent 63 = true ∧ rel.u.held_ 63 = false ∧ 63 ∉ rel.u.gate.holding ∧
      (∀ i, i < 17 → (rel.u.copOf i).cur ≠ some 63) ∧ (rel.u.cpuOf 63).acc = none ∧ (rel.u.cpuOf 63).sbuf = [] ∧ State.reset.u.held_ 63 = true ∧ 0xFFFC + 4 ≤ 65536 ∧ 0x1FFFC + 4 ≤ 131072 ∧
      rel.u.rd Reg.TWN_PAIR.ROLE = 0 ∧ few.u.basinPresent 7 = false := by
  decide +kernel
theorem hyp_CoreAndLogCommands_released : let f := frame 0x30 (leBytes 8 (2 ^ 63)); Served (served f [(Reg.RST_HELD_HI.CORE, 0)]) f 0x30 0 := by
  unfold Served Tagged Heard; decide +kernel
theorem hyp_CoreAndLogCommands_absent (p : List Nat) (c : Nat) :
    Served (served (frame c p) [] fun u => { u with census := { u.census with part := .swk7210 } }) (frame c p) c 0 :=
  serves_in c p 0 (by decide) _ fun _ => ⟨rfl, rfl, rfl, rfl⟩
theorem hyp_CoreAndLogCommands_stores (x : Wcs) (p : List Nat) (c : Nat) :
    Served (served (frame c p) [] fun u => u.setWcs 7 x) (frame c p) c 0 := serves_in c p 0 (by decide) _ fun _ => ⟨rfl, rfl, rfl, rfl⟩
theorem hyp_CoreAndLogCommands_loading : ∀ c ∈ [0x34, 0x35], let f := frame c [7, 0, 0, 0]
    Served (served f [(Reg.BSN_WCS_STATUS.STATE 7, 1)]) f c 0 ∧ (served f [(Reg.BSN_WCS_STATUS.STATE 7, 1)]).u.rd (Reg.BSN_WCS_STATUS.STATE 7) = 1 ∧
      (served f [(Reg.BSN_WCS_STATUS.STATE 7, 1)]).u.rd Reg.TWN_PAIR.ROLE = 0 := by
  unfold Served Tagged Heard; decide +kernel
/-- An open volume, with a log session or without, with a span or without. -/
def logging (c : Nat) (p : List Nat) (lsess next : Nat) : State :=
  served (frame c p) [(Reg.RSV_STATUS.STATE, 2), (Reg.RSV_LSESS.LSESS, lsess)] (withVols [{ aVol true with lastFp := some (0, 0), next := next }])
theorem hyp_CoreAndLogCommands_logs : ∀ l ∈ [0, 1], ∀ n ∈ [0, 1],
    OpenVolume (logging 0x40 [] l n) { aVol true with lastFp := some (0, 0), next := n } ∧ (logging 0x40 [] l n).u.lsess = l ∧ (logging 0x40 [] l n).u.rsv.index = [] ∧
      TakesGroup (logging 0x40 [] l n) { aVol true with lastFp := some (0, 0), next := n } := by
  unfold OpenVolume TakesGroup; decide +kernel
theorem hyp_CoreAndLogCommands_logged : ∀ l ∈ [0, 1], ∀ c ∈ [0x40, 0x41, 0x42, 0x43, 0x51, 0x52],
    Served (logging c (leBytes 2 3 ++ leBytes 2 1 ++ [65]) l 1) (frame c (leBytes 2 3 ++ leBytes 2 1 ++ [65])) c 0 ∧ Served (logging c [] l 1) (frame c []) c 0 := by
  unfold Served Tagged Heard; decide +kernel
theorem hyp_CoreAndLogCommands_volumes :
    let v (o : Bool) : Volume := { aVol o with groups := [aGroup 9 0] }
    let s (o : Bool) := mk [(Reg.RSV_STATUS.STATE, 2)] (withVols [v o])
    (s false).u.openVol = none ∧ State.reset.u.openVol = none ∧ State.reset.u.findVol (List.replicate 16 1) = none ∧ (List.replicate 16 1).length = 16 ∧
      (∀ o, (s o).u.findVol (List.replicate 16 1) = some (v o) ∧ (v o).isOpen = o) ∧ (v true).size = 9 ∧ 8 + 1 ≤ (v true).size ∧ (v true).size < 8 + 2 ∧
      8 ≤ (v true).size ∧ State.reset.u.downs = [] ∧ ([List.replicate 48 1].all fun (e : List Nat) => e.length == 48) = true := by
  decide +kernel
theorem hyp_CoreAndLogCommands_volume_frames (o : Bool) (p : List Nat) (c : Nat) : Served (served (frame c p) [] (withVols [{ aVol o with groups := [aGroup 9 0] }]))
    (frame c p) c 1 := serves_in c p 1 (by decide) _ fun _ => ⟨rfl, rfl, rfl, rfl⟩
theorem hyp_CoreAndLogCommands_downloads (p : List Nat) (d : Download) : Served (served (frame 0x55 p) [] fun u => { u with downs := [d] }) (frame 0x55 p) 0x55 0 ∧
    (served (frame 0x55 p) [] fun u => { u with downs := [d] }).u.downs = [d] :=
  ⟨serves_in 0x55 p 0 (by decide) _ fun _ => ⟨rfl, rfl, rfl, rfl⟩, rfl⟩

theorem hyp_ModuleCommands_frames (p : List Nat) : (∀ c ∈ [0x60, 0x70, 0x71, 0x83], Served (served (frame c p)) (frame c p) c 0) ∧
    ∀ c ∈ [0x61, 0x80, 0x81, 0x82], Served (served (frame c p)) (frame c p) c 1 :=
  ⟨fun c _ => serves c p 0 (by decide), fun c _ => serves c p 1 (by decide)⟩
theorem hyp_ModuleCommands_power :
    let s := State.reset
    s.u.lsess = 0 ∧ s.u.downs = [] ∧ s.u.rd Reg.TWN_PAIR.ROLE = 0 ∧ s.u.rd Reg.WEIR_STATUS.DIP = 0 ∧ s.u.pwr.flush = 0 ∧ s.u.aoLoad ≤ 2000 ∧
      s.u.rtcNow / 32768 < 1 ∧ s.u.pwr.drain = none ∧ s.u.pwr.down = 0 ∧ s.u.rd Reg.RSV_STATUS.STATE ≤ 1 ∧
      2 ≤ (mk [(Reg.RSV_STATUS.STATE, 2)]).u.rd Reg.RSV_STATUS.STATE ∧ (mk [(Reg.RSV_LSESS.LSESS, 1)]).u.lsess ≠ 0 := by
  decide +kernel
theorem hyp_ModuleCommands_variants :
    (∀ c ∈ [0x60, 0x61, 0x80], ∀ f ∈ [(Reg.RSV_LSESS.LSESS, 1), (Reg.RSV_STATUS.STATE, 2), (Reg.WEIR_STATUS.DIP, 1)],
      Served (served (frame c []) [f]) (frame c []) c 0) ∧
    (∀ r ∈ [0, 1], let s := served (frame 0x71 []) [(Reg.TWN_PAIR.ROLE, r), (Reg.TWN_STATUS.PARTNER, r)]
      Served s (frame 0x71 []) 0x71 0 ∧ s.u.rd Reg.TWN_PAIR.ROLE = r ∧ s.u.rd Reg.TWN_STATUS.PARTNER = r) := by
  unfold Served Tagged Heard; decide +kernel
theorem hyp_ModuleCommands_join (h : Nat × Nat × Nat × Nat) (p : List Nat) :
    Served (served (frame 0x70 p) [] (withTwl fun t => { t with hello := some h })) (frame 0x70 p) 0x70 0 ∧
      (served (frame 0x70 p) [] (withTwl fun t => { t with hello := some h })).u.twl.hello = some h :=
  ⟨serves_in 0x70 p 0 (by decide) _ fun _ => ⟨rfl, rfl, rfl, rfl⟩, rfl⟩
theorem hyp_ModuleCommands_joined :
    let f := frame 0x70 (leBytes 4 5 ++ [15, 0, 0, 0])
    Served (served f [(Reg.TWN_STATUS.PARTNER, 1)]) f 0x70 0 ∧ (served f [(Reg.TWN_STATUS.PARTNER, 1)]).u.rd Reg.TWN_STATUS.PARTNER = 1 ∧
      0x7240 = (served f [(Reg.TWN_STATUS.PARTNER, 1)]).u.census.part.code := by
  unfold Served Tagged Heard; decide +kernel
theorem hyp_ModuleCommands_images (g : FwStage) (f : MbFrame) : (served f).u.stw.stage = none ∧
    (served f [] (withStw fun x => { x with stage := some g })).u.stw.stage = some g ∧ SMap.get none ({ size := 1 } : FwStage).bytes 0 = none := ⟨rfl, rfl, rfl⟩
theorem hyp_ModuleCommands_staged : ∀ c ∈ [0x81, 0x82], ∀ g ∈ [({ size := 130 } : FwStage), { size := 129, bytes := [(0, some 5)] }],
    Served (served (frame c []) [] (withStw fun x => { x with stage := some g })) (frame c []) c 1 := by
  unfold Served Tagged Heard; decide +kernel
theorem hyp_ModuleCommands_trial :
    let s := mk [] (withStw fun x => { x with trial := true })
    s.u.stw.running = true ∧ s.u.stw.trial = true ∧ s.u.stw.bootAt + 12000000000 ≤ max s.u.clock 12000000000 ∧ Fresh s 0x35 ∧
      max s.u.clock 11999999999 < s.u.stw.bootAt + 12000000000 := by
  unfold Fresh; decide +kernel
theorem hyp_ModuleCommands_long (l : LongCmd) : (mk [] (withStw fun x => { x with longs := [l] })).u.stw.longs = [l] ∧
    (mk [] (withStw fun x => { x with longs := [l] })).u.stw.running = true ∧ State.reset.u.stw.longs = [] := ⟨rfl, rfl, rfl⟩
theorem hyp_ModuleCommands_ends :
    let s := mk [] (withRsv fun r => { r with doneTok := 5, done := [(5, 9)] })
    (∀ n ∈ [1, 3], (mk [(Reg.BSN_WCS_STATUS.STATE 7, n)]).u.wcsState 7 = n) ∧ 5 ≤ s.u.rsv.doneTok ∧ s.u.rsv.done = [(5, 9)] ∧ s.u.rsv.doneTok < 6 := by
  decide +kernel

/-! ## Power states, resets, start-up and thermal limits -/

theorem hyp_PowerStates_samples :
    let s := State.reset
    let capped := mk [(Reg.PWR_STATUS.LIMIT, 1)] (withPwr fun p => { p with cut := 3000 })
    s.u.pwr.down = 0 ∧ s.u.pwr.cut = 0 ∧ s.u.rd Reg.PWR_THERM_CEIL.LCODE = 100 ∧ s.u.rd Reg.PWR_STATUS.LIMIT = 0 ∧ CeilingsAre s s 100 ∧
      s.u.pwr.flush = 0 ∧ s.u.pwr.target = 0 ∧ s.u.pwr.drain = none ∧
      capped.u.pwr.down = 0 ∧ capped.u.pwr.cut = 3000 ∧ capped.u.rd Reg.PWR_STATUS.LIMIT = 1 ∧ capped.u.rd Reg.PWR_THERM_CEIL.LCODE = 100 ∧
      (∀ l ∈ [1, 99], let u := (mk [(Reg.PWR_STATUS.LIMIT, 1), (Reg.PWR_THERM_CEIL.LCODE, l)] (withPwr fun p => { p with cut := 3000, calm := 9 })).u
        u.rd Reg.PWR_THERM_CEIL.LCODE = l ∧ u.rd Reg.PWR_STATUS.LIMIT = 1 ∧ u.pwr.cut = 3000 ∧ u.pwr.calm = 9 ∧ u.pwr.down = 0) ∧
      (∀ d ∈ [2, 3, 4, 5], (mk [] (withPwr fun p => { p with down := d })).u.pwr.down = d) ∧ 9300 + 300 ≤ 9600 := by
  unfold CeilingsAre; decide +kernel
theorem hyp_PowerStates_ignition (tgt : Nat) :
    State.reset.u.rd Reg.PWR_STATUS.IGN = b2n false ∧ (mk [(Reg.PWR_STATUS.IGN, 1)]).u.rd Reg.PWR_STATUS.IGN = b2n true ∧
      (let s := mk [] (withPwr fun p => { p with target := tgt + 1 }); s.u.rd Reg.PWR_STATUS.IGN = 0 ∧ s.u.pwr.target ≠ 0 ∧ s.u.pwr.latched = none) :=
  ⟨by decide +kernel, by decide +kernel, (show State.reset.u.rd Reg.PWR_STATUS.IGN = 0 by decide +kernel), Nat.succ_ne_zero tgt, rfl⟩
theorem hyp_PowerStates_charger :
    (∀ m ∈ [0, 1, 2], (mk [(Reg.PWR_CHG.MODE, m)]).u.rd Reg.PWR_CHG.MODE ≠ 3) ∧ (mk [(Reg.PWR_CHG.MODE, 3)]).u.rd Reg.PWR_CHG.MODE = 3 ∧
      (mk [(Reg.PWR_CHG.MODE, 3)]).u.rd Reg.WEIR_STATUS.DIP = 0 ∧ (mk [(Reg.WEIR_STATUS.DIP, 1)]).u.rd Reg.WEIR_STATUS.DIP = 1 := by
  decide +kernel
/-- An entry in step 2, on the way into Sleep, with the reservoir ready. -/
def draining (f : Reservoir → Reservoir := id) (vals : List (Fld × Nat) := []) : State :=
  mk ((Reg.RSV_STATUS.STATE, 2) :: vals) fun u => withRsv f (withPwr (fun p => { p with stage := 1, target := 2 }) u)
theorem hyp_PowerStates_drain :
    Drained (draining) ∧ Drained (draining id [(Reg.RSV_STATUS.STATE, 3)]) ∧ (draining).u.pwr.stage = 1 ∧ (draining).u.basinPresent 0 = true ∧
      (draining).u.pwr.target < 8 ∧
      (let s := draining fun r => { r with fill := 1 }
       s.u.rsv.fill ≠ 0 ∧ s.u.held = 0 ∧ ∀ n, n < 7 → s.u.ringState n ≤ 1) ∧
      (∀ n ∈ [0, 6], let s := draining id [(Reg.RSV_RING_STATUS.STATE n, 2)]
        s.u.pwr.stage = 1 ∧ (∀ m, m < n → s.u.ringState m ≤ 1) ∧ 1 < s.u.ringState n) := by
  unfold Drained; decide +kernel
/-- An entry in step 3 that has reached basin n. -/
def stopping (n target : Nat) (f : Units → Units := id) (vals : List (Fld × Nat) := []) : State :=
  mk vals fun u => f (withPwr (fun p => { p with stage := 2, next := n, target := target }) u)
theorem hyp_PowerStates_basins :
    (∀ n ∈ [0, 6, 7], (stopping n 2).u.pwr.stage = 2 ∧ (stopping n 2).u.pwr.next = n ∧ BasinQuiet (stopping n 2) n) ∧ (stopping 6 2).u.basinPresent 7 = true ∧
      (∀ m, 7 < m → m < 8 → (stopping 7 2).u.basinPresent m = false) := by
  unfold BasinQuiet; exact ⟨by decide +kernel, by decide +kernel, fun m h g => absurd g (by omega)⟩
theorem hyp_PowerStates_basin_refused : ∀ n ∈ [0, 7], ∀ c ∈ [0, 7],
    let u := (stopping n 2 fun u => u.setHeld (8 * n + c) false).u
    u.pwr.target < 8 ∧ (∀ d, d < c → u.coreRetain (8 * n + d) = true) ∧ u.coreRetain (8 * n + c) = false := by
  decide +kernel
theorem hyp_PowerStates_complete (t : Nat) :
    let s := stopping 8 t
    s.u.pwr.stage = 2 ∧ 8 ≤ s.u.pwr.next ∧ s.u.pwr.target = t ∧ s.u.pwr.latched = none ∧ (stopping 8 t id [(Reg.SES_STATUS.OPEN, 1)]).u.rd Reg.SES_STATUS.OPEN = 1 :=
  ⟨rfl, Nat.le_refl 8, rfl, rfl, (show (mk [(Reg.SES_STATUS.OPEN, 1)]).u.rd Reg.SES_STATUS.OPEN = 1 by decide +kernel)⟩
theorem hyp_PowerStates_wakes (src idx d : Nat) :
    (let s := stopping 8 2 (withPwr fun p => { p with latched := some (src, idx) }); s.u.pwr.stage = 2 ∧ 8 ≤ s.u.pwr.next ∧ s.u.pwr.target = 2 ∧
      s.u.pwr.latched = some (src, idx) ∧ s.u.pwr.latched ≠ none) ∧
    (stopping 8 2).u.pwr.target ≠ 0 ∧ (let s := mk [] (withPwr fun p => { p with down := d }); s.u.pwr.down = d ∧ s.u.pwr.target = 0) ∧ State.reset.u.pwr.down ≠ 3 ∧
      State.reset.u.pwr.down = 0 :=
  ⟨⟨rfl, Nat.le_refl 8, rfl, rfl, nofun⟩, nofun, ⟨rfl, rfl⟩, nofun, rfl⟩
theorem hyp_PowerStates_can : ∀ n, n < 12 → State.reset.u.rd (Reg.CAN_CFG.WAKEEN n) = 0 := by decide +kernel

theorem hyp_ResetAndThermal_resets (c : Nat) :
    (mk [] (withPwr fun p => { p with down := 5 })).u.pwr.down = 5 ∧ (mk [] (withPwr fun p => { p with flush := 2 })).u.pwr.flush ≠ 0 ∧
      State.reset.u.pwr.down ≠ 5 ∧ State.reset.u.pwr.flush = 0 ∧ State.reset.u.pwr.drain = none ∧
      (mk [] (withPwr fun p => { p with drain := some c })).u.pwr.drain = some c := ⟨rfl, nofun, nofun, rfl, rfl, rfl⟩
theorem hyp_ResetAndThermal_watchdog :
    let s := State.reset
    let due (s : State) := s.u.pwr.kicked + max 100 (s.u.rd Reg.RST_WDOG.TIMEOUT) * 400000
    max s.u.clock (due s - 1) < due s ∧ due s ≤ max s.u.clock (due s) ∧ 4 ≤ s.u.rd Reg.RST_STATUS.STEP ∧ s.u.rd Reg.RSV_STATUS.STATE ≤ 1 ∧
      2 ≤ (mk [(Reg.RSV_STATUS.STATE, 2)]).u.rd Reg.RSV_STATUS.STATE ∧ (mk [(Reg.RST_STATUS.STEP, 3)]).u.rd Reg.RST_STATUS.STEP < 4 ∧
      (∀ n, n < 8 → s.u.ringState n ≠ 2) := by
  decide +kernel
theorem hyp_ResetAndThermal_holds : ∀ hi, ∀ b ∈ [0, 31],
    let k := b + 32 * b2n hi
    let free := core 0 [] []
    let one := mk [(Reg.RST_HELD_LO.CORE, 0), (Reg.RST_HELD_HI.CORE, 0)] fun u => u.setHeld k true
    (∀ j, j < 32 → j ≠ b → free.u.held_ (j + 32 * b2n hi) = false) ∧ (∀ j, j < 32 → j ≠ b → one.u.held_ (j + 32 * b2n hi) = false) ∧
      free.u.corePresent k = true ∧ free.u.held_ k = false ∧ k ∉ free.u.gate.holding ∧ one.u.corePresent k = true ∧ one.u.held_ k = true ∧
      (∀ i, i < 17 → (free.u.copOf i).cur ≠ some k) ∧ (free.u.cpuOf k).acc = none ∧ (free.u.cpuOf k).sbuf = [] ∧
      k ∈ (core 0 [] [] [] fun u => { u with gate := { u.gate with holding := [k] } }).u.gate.holding := by
  decide +kernel
theorem hyp_ResetAndThermal_blocks :
    let s (v : List (Fld × Nat)) := mk v
    s [] = State.reset ∧ State.reset.u.rd Reg.RST_BLOCK.BUSY = 0 ∧ State.reset.u.rd Reg.DOCK_STATUS.PRESENT ≤ 1 ∧
      (∀ p ∈ [(1, 0), (7, 63), (9, 7), (16, 0)], State.reset.u.blockThere p.1 p.2 = true) ∧ (∀ p ∈ [(0, 0), (1, 4), (31, 63)], State.reset.u.blockThere p.1 p.2 = false) ∧
      (∀ p ∈ [(7, 0), (7, 63), (9, 0), (9, 7)], let s := s [(Reg.RST_BLOCK.BUSY, 1), (Reg.RST_BLOCK.CLASS, p.1), (Reg.RST_BLOCK.INDEX, p.2)]
        s.u.rd Reg.RST_BLOCK.BUSY = 1 ∧ s.u.rd Reg.RST_BLOCK.CLASS = p.1 ∧ s.u.rd Reg.RST_BLOCK.INDEX = p.2 ∧ s.u.rd Reg.DOCK_STATUS.PRESENT ≤ 1) := by
  decide +kernel
/-- A start at a release step, with its power part changed. -/
def releasing (n : Nat) (g : Power → Power := id) (vals : List (Fld × Nat) := []) (f : Units → Units := id) : State :=
  mk ((Reg.RST_STATUS.STEP, n) :: vals) fun u => f (withPwr g u)
theorem hyp_ResetAndThermal_trim :
    (∀ w, Starting (releasing 2 fun p => { p with loaded := false, trimWait := w }) 2) ∧ (releasing 2 fun p => { p with loaded := false }).u.pwr.loaded = false ∧
      State.reset.u.pwr.trimFault = 0 ∧
      (∀ n, n ≤ 2 → (releasing 2 (fun p => { p with loaded := false }) [(Reg.RST_CAUSE.TRIM_FAILS, n)]).u.rd Reg.RST_CAUSE.TRIM_FAILS = n) ∧
      (mk [] (withPwr fun p => { p with trimFault := 1 })).u.pwr.trimFault ≠ 0 := by
  unfold Starting; decide +kernel
theorem hyp_ResetAndThermal_steps :
    (∀ n, n ≤ 8 → Starting (releasing n) n) ∧ (releasing 2).u.pwr.loaded = true ∧ (releasing 1).u.pwr.hot = false ∧
      (∀ t ∈ [84, 85], let s := releasing 1 (fun p => { p with hot := true }) [(Reg.PWR_THERM.BASE_T, t)]
        Starting s 1 ∧ s.u.pwr.hot = true ∧ s.u.celsius Reg.PWR_THERM.BASE_T = t) ∧
      Starting (releasing 2 fun p => { p with loaded := false }) 2 ∧ (releasing 2 fun p => { p with loaded := false }).u.pwr.loaded = false ∧
      (releasing 6).u.pstWord 0x100 = 0 ∧ (releasing 4).u.rd Reg.SES_STATUS.RECOVERY = 0 ∧
      1265 < (releasing 6 id [] fun u => { u with pst := { u.pst with words := [(0x100, some 1266)] } }).u.pstWord 0x100 ∧
      (releasing 4 id [(Reg.SES_STATUS.RECOVERY, 1)]).u.rd Reg.SES_STATUS.RECOVERY = 1 ∧ 5 ≤ (releasing 4).u.rd Reg.RST_STATUS.STEP + 1 := by
  unfold Starting; decide +kernel
theorem hyp_ResetAndThermal_slots : ∀ q ∈ [0, 1],
    let s (p : Option Nat) (tr : Bool) := releasing 3 id [(Reg.RST_CAUSE.CAUSE, 4)] (withStw fun x => { x with pending := p, active := q, trial := tr })
    Starting (s none false) 3 ∧ (s none false).u.stw.pending = none ∧ (s none false).u.stw.active = q ∧
      (∀ tr, Starting (s (some q) tr) 3 ∧ (s (some q) tr).u.stw.pending = some q ∧ (s (some q) tr).u.stw.trial = tr ∧
        (s (some q) tr).u.rd Reg.RST_CAUSE.CAUSE = 4) := by
  unfold Starting; decide +kernel
theorem hyp_ResetAndThermal_cores :
    (∀ c ∈ [0, 1, 3], (releasing 7 id [(Reg.RST_CAUSE.CAUSE, c)]).u.rd Reg.RST_CAUSE.CAUSE = c) ∧
      (let s := releasing 7 id [(Reg.RST_CAUSE.CAUSE, 5), (Reg.RST_RELMASK_LO.CORE, 1), (Reg.RST_RELMASK_HI.CORE, 0)]
       s.u.rd Reg.RST_CAUSE.CAUSE = 5 ∧ s.u.rd Reg.RST_RELMASK_LO.CORE = 1 ∧ s.u.rd Reg.RST_RELMASK_HI.CORE = 0 ∧ s.u.corePresent 0 = true ∧
         s.u.held_ 0 = true ∧ Starting s 7) := by
  unfold Starting; decide +kernel
/-- Every basin at temperature x with a thermal code and time spent cool. -/
def heated (x c k : Nat) : State :=
  let each (m y : Nat) : SMap Nat := if y = m then [] else (List.range 8).map fun n => (n, y)
  mk ((List.range 8).map fun n => (Reg.BSN_TJ.TEMP n, x)) (withPwr fun p => { p with tcode := each 100 c, cool := each 0 k })
theorem hyp_ResetAndThermal_governor :
    State.reset.u.basins ≠ [] ∧ State.reset.u.pwr.down = 0 ∧ (heated 115 100 0).u.rsv.nandHold = false ∧ (heated 115 100 0).u.rd Reg.PWR_INPUT.LOAD ≤ 8800 ∧
      (heated 115 100 0).u.rd Reg.PWR_THERM_CEIL.LCODE ≤ 100 ∧ CeilingsAre (heated 115 100 0) (heated 115 100 0) 100 ∧
      (∀ n ∈ (heated 115 100 0).u.basins, (heated 115 100 0).u.celsius (Reg.BSN_TJ.TEMP n) ≤ 115 ∧ SMap.get 100 (heated 115 100 0).u.pwr.tcode n = 100) ∧
      (∀ c ∈ [1, 100], ∀ n ∈ (heated 120 c 0).u.basins, 120 ≤ (heated 120 c 0).u.celsius (Reg.BSN_TJ.TEMP n) ∧ SMap.get 100 (heated 120 c 0).u.pwr.tcode n = c) ∧
      (∀ c ∈ [0, 99], ∀ n ∈ (heated 115 c 9).u.basins, (heated 115 c 9).u.celsius (Reg.BSN_TJ.TEMP n) ≤ 115 ∧ SMap.get 100 (heated 115 c 9).u.pwr.tcode n = c ∧
        SMap.get 0 (heated 115 c 9).u.pwr.cool n = 9) := by
  unfold CeilingsAre; decide +kernel
theorem hyp_ResetAndThermal_trip : let p := State.reset.u.pwr; p.down = 0 ∧ p.flush = 0 ∧ p.drain = none ∧ p.target = 0 := by decide +kernel
end Sys2Proof.Tests
end

section
/-! PROOFS. Arithmetic, shifts and divisions on the operand stack (10_ehrel_isa.md R252 to R258): the model's numbers against
words, and one lemma per operand form that turns an outcome into what the instruction leaves. -/
namespace Sys2Proof.Machine

/-! ## The model's numbers as words -/

theorem sgn_toNat (a : Word) : sgn a.toNat = a.toInt := by
  have ha := a.isLt
  simp only [sgn, toInt, BitVec.toInt_eq_toNat_cond, Nat.mod_eq_of_lt ha]
  split <;> split <;> omega

theorem wd_eq_ofInt (i : Int) : wd i = (BitVec.ofInt 32 i).toNat := (BitVec.toNat_ofInt i).symm

theorem wd_toInt (a : Word) : wd a.toInt = a.toNat := by rw [wd_eq_ofInt, BitVec.ofInt_toInt]

/-- V of R254: the exact result lies outside the signed range. -/
theorem not_inS32 (i : Int) : (!inS32 i) = wide i := by
  unfold inS32 wide
  rw [Bool.not_and, ← decide_not, ← decide_not]
  simp only [Int.not_le]

theorem wd_satS32 (i : Int) : wd (satS32 i) = (saturated i).toNat := by
  have h : satS32 i = if 2147483647 < i then 2147483647 else if i < -2147483648 then -2147483648 else i := by
    unfold satS32; split_ifs <;> omega
  rw [wd_eq_ofInt, h, saturated]

theorem ofInt_toNat (a : Word) : BitVec.ofInt 32 (a.toNat : Int) = a := by
  rw [BitVec.ofInt_natCast, BitVec.ofNat_toNat, BitVec.setWidth_eq]

/-! ## Results and flags of the operations on words (R254) -/

/-- The carry flag as the word ADC and SBC take it for. -/
theorem b2n_eq_toNat (c : Bool) : b2n c = (if c then 1 else 0 : Word).toNat := by cases c <;> rfl

theorem aluAdd_word (a b c : Word) {cin : Bool} (hc : b2n cin = c.toNat) :
    aluAdd a.toNat b.toNat cin = ⟨(a + b + c).toNat, some (decide (2 ^ 32 ≤ a.toNat + b.toNat + c.toNat)),
      some (wide (a.toInt + b.toInt + c.toNat))⟩ := by
  have hr : w32 (a.toNat + b.toNat + c.toNat) = (a + b + c).toNat := by
    rw [w32, BitVec.toNat_add, BitVec.toNat_add, Nat.mod_add_mod]
  rw [aluAdd, hc, hr, not_inS32, sgn_toNat, sgn_toNat]

theorem aluAdd_word_false (a b : Word) :
    aluAdd a.toNat b.toNat false = ⟨(a + b).toNat, some (decide (2 ^ 32 ≤ a.toNat + b.toNat)), some (wide (a.toInt + b.toInt))⟩ := by
  simpa using aluAdd_word a b 0 (b2n_eq_toNat false)

theorem aluSub_word (a b c : Word) {cin : Bool} (hc : b2n cin = c.toNat) :
    aluSub a.toNat b.toNat cin = ⟨(a - b - c).toNat, some (decide (a.toNat < b.toNat + c.toNat)),
      some (wide (a.toInt - b.toInt - c.toNat))⟩ := by
  have hr : wd ((a.toNat : Int) - b.toNat - c.toNat) = (a - b - c).toNat := by
    rw [wd_eq_ofInt, Int.sub_eq_add_neg, Int.sub_eq_add_neg, BitVec.ofInt_add, BitVec.ofInt_add, BitVec.ofInt_neg,
      BitVec.ofInt_neg, ofInt_toNat, ofInt_toNat, ofInt_toNat, ← BitVec.sub_eq_add_neg, ← BitVec.sub_eq_add_neg]
  rw [aluSub, hc, hr, not_inS32, sgn_toNat, sgn_toNat]

theorem aluSub_word_false (a b : Word) :
    aluSub a.toNat b.toNat false = ⟨(a - b).toNat, some (decide (a.toNat < b.toNat)), some (wide (a.toInt - b.toInt))⟩ := by
  simpa using aluSub_word a b 0 (b2n_eq_toNat false)

theorem toNat_beq (a b : Word) : (a.toNat == b.toNat) = (a == b) := by
  rw [Bool.eq_iff_iff, beq_iff_eq, beq_iff_eq, BitVec.toNat_inj]

theorem aluNeg_word (a : Word) : aluNeg a.toNat = ⟨(-a).toNat, some (a != 0), some (a == 0x80000000#32)⟩ := by
  rw [aluNeg, wd_eq_ofInt, BitVec.ofInt_neg, ofInt_toNat]
  simp only [bne, ← toNat_beq]
  rfl

theorem aluAbs_word (a : Word) :
    aluAbs a.toNat = ⟨(if a.toInt < 0 then -a else a).toNat, none, some (a == 0x80000000#32)⟩ := by
  have hr : wd (sgn a.toNat).natAbs = (if a.toInt < 0 then -a else a).toNat := by
    rw [sgn_toNat]
    split
    · next h => rw [Int.ofNat_natAbs_of_nonpos (Int.le_of_lt h), wd_eq_ofInt, BitVec.ofInt_neg, BitVec.ofInt_toInt]
    · next h => rw [Int.natAbs_of_nonneg (Int.not_lt.mp h), wd_toInt]
  rw [aluAbs, hr, ← toNat_beq]
  rfl

theorem aluSat_word (i : Int) : aluSat i = ⟨(saturated i).toNat, none, some (wide i)⟩ := by
  rw [aluSat, wd_satS32, not_inS32]

theorem aluMul_word (a b : Word) :
    aluMul a.toNat b.toNat = ⟨(a * b).toNat, some (decide (2 ^ 32 ≤ a.toNat * b.toNat)), some (wide (a.toInt * b.toInt))⟩ := by
  rw [aluMul, not_inS32, sgn_toNat, sgn_toNat, BitVec.toNat_mul, w32]

/-! ## Shifts and rotates on words (R258) -/

theorem shl_word (a n : Word) : shl a.toNat n.toNat = (a <<< (n.toNat % 64)).toNat := by
  rw [shl, w32, BitVec.toNat_shiftLeft, Nat.shiftLeft_eq]

theorem shr_word (a n : Word) : shr a.toNat n.toNat = (a >>> (n.toNat % 64)).toNat := by
  rw [shr, BitVec.toNat_ushiftRight, Nat.shiftRight_eq_div_pow]

theorem sar_word (a n : Word) : sar a.toNat n.toNat = (a.sshiftRight (n.toNat % 64)).toNat := by
  rw [sar, sgn_toNat, ← wd_toInt (a.sshiftRight _), BitVec.toInt_sshiftRight, Int.shiftRight_eq_div_pow]
  rfl

/-- The two parts of a rotate have no bit in common, so the model's sum is the rotate's disjunction. -/
theorem rol_word (a : Word) (n : Nat) : rol a.toNat n = (a.rotateLeft (n % 32)).toNat := by
  have hm : n % 32 < 32 := Nat.mod_lt _ (by decide)
  have hlow : a.toNat / 2 ^ (32 - n % 32) < 2 ^ (n % 32) := by
    rw [Nat.div_lt_iff_lt_mul (Nat.two_pow_pos _), ← Nat.pow_add, Nat.add_sub_cancel' hm.le]
    exact a.isLt
  have hhigh : w32 (a.toNat * 2 ^ (n % 32)) = (a.toNat % 2 ^ (32 - n % 32)) <<< (n % 32) := by
    rw [w32, Nat.shiftLeft_eq, ← Nat.mul_mod_mul_right, ← Nat.pow_add, Nat.sub_add_cancel hm.le]
  rw [BitVec.rotateLeft_mod_eq_rotateLeft, rol, hhigh, Nat.shiftLeft_add_eq_or_of_lt hlow, ← hhigh,
    BitVec.toNat_rotateLeft, Nat.shiftRight_eq_div_pow, Nat.shiftLeft_eq, w32]

/-- A rotate right is a rotate left by the rest of the word. -/
theorem rotateRight_eq_rotateLeft (a : Word) (n : Nat) : a.rotateRight n = a.rotateLeft (32 - n % 32) := by
  have hm : n % 32 < 32 := Nat.mod_lt _ (by decide)
  rw [BitVec.rotateRight_def, BitVec.rotateLeft_def, BitVec.or_comm]
  by_cases h : n % 32 = 0
  · simp only [h, Nat.sub_zero, Nat.mod_self, BitVec.ushiftRight_zero, BitVec.shiftLeft_zero, BitVec.ushiftRight_eq_zero le_rfl,
      BitVec.shiftLeft_eq_zero le_rfl, BitVec.or_zero, BitVec.zero_or]
  · rw [Nat.mod_eq_of_lt (by omega : 32 - n % 32 < 32), Nat.sub_sub_self hm.le]

theorem ror_word (a n : Word) : w32 (ror a.toNat n.toNat) = (a.rotateRight (n.toNat % 32)).toNat := by
  rw [ror, rol_word, BitVec.rotateLeft_mod_eq_rotateLeft, ← rotateRight_eq_rotateLeft,
    BitVec.rotateRight_mod_eq_rotateRight, w32, Nat.mod_eq_of_lt (BitVec.isLt _)]

/-! ## Divisions of words (R256) -/

theorem toNat_ne_zero {b : Word} (hb : b ≠ 0) : b.toNat ≠ 0 := fun h => hb (BitVec.eq_of_toNat_eq h)

theorem divU_word (a : Word) {b : Word} (hb : b ≠ 0) :
    divU a.toNat b.toNat = ⟨(a.udiv b).toNat, (a.umod b).toNat, false, false⟩ := by
  rw [divU, if_neg (toNat_ne_zero hb)]
  rfl

theorem divS_word (a : Word) {b : Word} (hb : b ≠ 0) :
    divS a.toNat b.toNat = ⟨(a.sdiv b).toNat, (a.srem b).toNat, a == 0x80000000#32 && b == 0xFFFFFFFF#32, false⟩ := by
  have hq : BitVec.ofInt 32 (Int.tdiv a.toInt b.toInt) = a.sdiv b :=
    BitVec.eq_of_toInt_eq (by rw [BitVec.toInt_ofInt, BitVec.toInt_sdiv])
  rw [divS, if_neg (toNat_ne_zero hb), sgn_toNat, sgn_toNat, wd_eq_ofInt, hq, ←
    BitVec.toInt_srem, wd_toInt, ← toNat_beq, ← toNat_beq]
  rfl

/-! ## The flags of STATUS -/

theorem Units.rd_wrb_same (u : Units) {f : Fld} (hw : f.w = 1) (b : Bool) : (u.wrb f b).rd f = b2n b := by
  rw [Units.wrb, Units.rd_wr_same, hw]
  cases b <;> rfl

theorem Units.rd_wrb_other (u : Units) {f g : Fld} (b : Bool) (h : g.key ≠ f.key) : (u.wrb f b).rd g = u.rd g :=
  Units.rd_wr_other u _ h

theorem Units.cpu_setFlags (u : Units) (k : Nat) (o : AluOut) : (u.setFlags k o).cpu = u.cpu := by
  unfold Units.setFlags
  cases o.c <;> cases o.v <;> rfl

theorem Units.rd_setFlags_other (u : Units) (k : Nat) (o : AluOut) {g : Fld} (hc : g.key ≠ (Reg.CORE_STATUS.C k).key)
    (hv : g.key ≠ (Reg.CORE_STATUS.V k).key) : (u.setFlags k o).rd g = u.rd g := by
  unfold Units.setFlags
  cases o.c <;> cases o.v <;> simp only [Units.rd_wrb_other _ _ hc, Units.rd_wrb_other _ _ hv]

theorem Units.dsT_setFlags (u : Units) (k : Nat) (o : AluOut) : (u.setFlags k o).dsT k = u.dsT k := by
  unfold Units.dsT Units.is
  rw [Units.rd_setFlags_other u k o] <;> simp [Fld.key, Reg.CORE_STATUS.C, Reg.CORE_STATUS.V, Reg.CORE_STATUS.BANK]

theorem statusC_key_ne_V (k : Nat) : (Reg.CORE_STATUS.C k).key ≠ (Reg.CORE_STATUS.V k).key := by
  simp [Fld.key, Reg.CORE_STATUS.C, Reg.CORE_STATUS.V]

theorem flagIs_C_of_setFlags {s t : State} {k : Nat} {o : AluOut}
    (h : t.u.rd (Reg.CORE_STATUS.C k) = (s.u.setFlags k o).rd (Reg.CORE_STATUS.C k)) : FlagIs s t (Reg.CORE_STATUS.C k) o.c := by
  have hne := statusC_key_ne_V k
  have hw : (Reg.CORE_STATUS.C k).w = 1 := rfl
  unfold FlagIs
  rw [h]
  unfold Units.setFlags
  cases o.c <;> cases o.v <;> simp only [Units.rd_wrb_same _ hw, Units.rd_wrb_other _ _ hne]

theorem flagIs_V_of_setFlags {s t : State} {k : Nat} {o : AluOut}
    (h : t.u.rd (Reg.CORE_STATUS.V k) = (s.u.setFlags k o).rd (Reg.CORE_STATUS.V k)) : FlagIs s t (Reg.CORE_STATUS.V k) o.v := by
  have hne := (statusC_key_ne_V k).symm
  have hw : (Reg.CORE_STATUS.V k).w = 1 := rfl
  unfold FlagIs
  rw [h]
  unfold Units.setFlags
  cases o.c <;> cases o.v <;> simp only [Units.rd_wrb_same _ hw, Units.rd_wrb_other _ _ hne]

/-- Completion does not write C and V, which stand below RS in the same register. -/
theorem status_flags_not_doneRegs (k : Nat) :
    (Reg.CORE_STATUS.C k).key ∉ (doneRegs k).map Fld.key ∧ (Reg.CORE_STATUS.V k).key ∉ (doneRegs k).map Fld.key := by
  simp only [doneRegs, List.map_cons, List.map_nil, List.mem_cons, List.not_mem_nil, or_false, Fld.key, Reg.CORE_STATUS.C,
    Reg.CORE_STATUS.V, Reg.CORE_STATUS.RS, Reg.CORE_INSNS.COUNT, Reg.CORE_INSNS.OVF, Reg.CORE_TOKS.COUNT, Reg.CORE_TOKS.OVF,
    Reg.CORE_PAIRS.COUNT, Reg.CORE_PAIRS.OVF]
  omega

/-! ## Instructions on the operand stack that write flags -/

theorem Issues.isCore {s : State} {k n : Nat} {args rest : List Nat} (hi : Issues s k args rest n) : isCore k = true :=
  decide_eq_true hi.1

/-- An instruction on the operand stack alone, whose operands and results lie in registers, leaves its results and the flags
of o. -/
theorem stackStep_of_stackOp {s : State} {k n pops pushes tok set : Nat} {i : Instr} {args rest res : List Nat} {o : AluOut}
    {f : Units → List Nat → List Nat × Units} (hi : Issues s k args rest n) (hn : pushes ≤ n) (ha : args.length = pops)
    (hex : exec i s = .next (s.stackOp k tok set pops pushes f)) (hr : f s.u args = (res, s.u.setFlags k o)) :
    StackStep s k i rest res o.c o.v := by
  obtain ⟨-, hfresh, hstk, hroom⟩ := hi
  have hkeep : ∀ g : Fld, g.key ∉ [Reg.CORE_STATUS.C k, Reg.CORE_STATUS.V k].map Fld.key → (s.u.setFlags k o).rd g = s.u.rd g := by
    intro g hg
    simp only [List.map_cons, List.map_nil, List.mem_cons, List.not_mem_nil, or_false, not_or] at hg
    exact Units.rd_setFlags_other s.u k o hg.1 hg.2
  obtain ⟨t, ht, hmem, hpend, hres, hstacks, hpc, hothers, hflags, hregs⟩ := State.stackOp_done (pushes := pushes) (tok := tok)
    (set := set) hfresh hstk ha (by omega) hr (Units.cpu_setFlags s.u k o) (Units.dsT_setFlags s.u k o) hkeep
  obtain ⟨hc, hv⟩ := status_flags_not_doneRegs k
  refine ⟨t, by rw [hex, ht], hres, hstacks, hpc, flagIs_C_of_setFlags (hflags _ hc), flagIs_V_of_setFlags (hflags _ hv), hregs,
    hothers, fun a => ?_, hpend⟩
  unfold State.byte
  rw [hmem]

/-- The one-token operations of one operand (codes 0x10 to 0x2F). -/
theorem law_of_alu1 {s : State} {k a code r : Nat} {i : Instr} {rest : List Nat} {c v : Option Bool} (hi : Issues s k [a] rest 1)
    (hex : exec i s = s.runS (isCore k) fun s => s.aluOp k code 1)
    (ho : alu code a a (s.u.is (Reg.CORE_STATUS.C k)) = ⟨r, c, v⟩) : Law.holds ⟨i, [r], c, v⟩ s k rest :=
  stackStep_of_stackOp (o := ⟨r, c, v⟩) hi le_rfl rfl (hex.trans (State.runS_next hi.isCore))
    (congrArg (fun o => ([o.r], s.u.setFlags k o)) ho)

/-- The one-token operations of two operands. -/
theorem law_of_alu2 {s : State} {k a b code r : Nat} {i : Instr} {rest : List Nat} {c v : Option Bool}
    (hi : Issues s k [b, a] rest 1) (hex : exec i s = s.runS (isCore k) fun s => s.aluOp k code 2)
    (ho : alu code a b (s.u.is (Reg.CORE_STATUS.C k)) = ⟨r, c, v⟩) : Law.holds ⟨i, [r], c, v⟩ s k rest :=
  stackStep_of_stackOp (o := ⟨r, c, v⟩) hi le_rfl rfl (hex.trans (State.runS_next hi.isCore))
    (congrArg (fun o => ([o.r], s.u.setFlags k o)) ho)

/-- MUL takes three tokens, so it is no one-token operation of the table `alu`. -/
theorem exec_mul (k : Nat) (s : State) : exec (.mul k) s = s.runS (isCore k) fun s => s.stackOp k 3 0 2 1 fun u l =>
    let o := aluMul (l.getD 1 0) (l.getD 0 0); ([o.r], u.setFlags k o) := rfl

/-- A division with the outcome o of a divisor that is not zero is an operation on the operand stack that writes V. -/
theorem State.divOp_eq_stackOp {s : State} {k a b word pushes : Nat} {signed : Bool} {rest : List Nat} {res : DivOut → List Nat}
    {o : DivOut} (hi : Issues s k [b, a] rest 2) (hn : pushes ≤ 2) (ho : (if signed then divS a b else divU a b) = o)
    (hz : o.zero = false) :
    s.divOp k word signed pushes res = s.stackOp k 34 0 2 pushes fun u _ => (res o, u.setFlags k { r := 0, v := some o.v }) := by
  obtain ⟨-, -, hstk, hroom⟩ := hi
  have hlen : (s.u.stk k (s.u.dsT k)).length = rest.length + 2 := by rw [hstk]; rfl
  have htops : s.u.tops k 2 = [b, a] := by unfold Units.tops; rw [hstk]; rfl
  have hbody : ∀ f, s.op k 2 pushes 0 0 f = f 0 s := fun f => State.op_fits (by omega) (by omega) f
  unfold State.divOp State.stackOp State.issue
  simp only [hbody, htops, List.getD_cons_zero, List.getD_cons_succ, ho, hz]
  rfl

/-- A division with the outcome q, r and V, of a divisor that is not zero. -/
theorem law_of_div {s : State} {k a b word pushes q r : Nat} {signed v : Bool} {i : Instr} {rest : List Nat}
    {res : DivOut → List Nat} (hi : Issues s k [b, a] rest 2) (hn : pushes ≤ 2)
    (hex : exec i s = s.runS (isCore k) fun s => s.divOp k word signed pushes res)
    (ho : (if signed then divS a b else divU a b) = ⟨q, r, v, false⟩) :
    Law.holds ⟨i, res ⟨q, r, v, false⟩, none, some v⟩ s k rest := by
  rw [State.runS_next hi.isCore, State.divOp_eq_stackOp hi hn ho rfl] at hex
  exact stackStep_of_stackOp (o := { r := 0, v := some v }) hi hn rfl hex rfl

/-! ## The statements -/

theorem arithLaws1_hold {s : State} {k : Nat} {a : Word} {rest : List Nat} (hi : Issues s k [a.toNat] rest 1) :
    ∀ l ∈ arithLaws1 k a, l.holds s k rest := by
  simp only [arithLaws1, List.forall_mem_cons, List.not_mem_nil, false_imp_iff, implies_true, and_true]
  refine ⟨?neg, ?abs, ?inc, ?dec⟩
  case neg => exact law_of_alu1 (code := 0x14) hi rfl (aluNeg_word a)
  case abs => exact law_of_alu1 (code := 0x15) hi rfl (aluAbs_word a)
  case inc => exact law_of_alu1 (code := 0x16) hi rfl (aluAdd_word_false a 1)
  case dec => exact law_of_alu1 (code := 0x17) hi rfl (aluSub_word_false a 1)

theorem arithLaws2_hold {s : State} {k : Nat} {a b : Word} {rest : List Nat} (hi : Issues s k [b.toNat, a.toNat] rest 1) :
    ∀ l ∈ arithLaws2 k a b (s.u.is (Reg.CORE_STATUS.C k)), l.holds s k rest := by
  have hcin := b2n_eq_toNat (s.u.is (Reg.CORE_STATUS.C k))
  simp only [arithLaws2, List.forall_mem_cons, List.not_mem_nil, false_imp_iff, implies_true, and_true]
  refine ⟨?add, ?sub, ?adc, ?sbc, ?mul, ?adds, ?subs⟩
  case add => exact law_of_alu2 (code := 0x10) hi rfl (aluAdd_word_false a b)
  case sub => exact law_of_alu2 (code := 0x11) hi rfl (aluSub_word_false a b)
  case adc => exact law_of_alu2 (code := 0x12) hi rfl (aluAdd_word a b _ hcin)
  case sbc => exact law_of_alu2 (code := 0x13) hi rfl (aluSub_word a b _ hcin)
  case mul =>
    exact stackStep_of_stackOp (o := ⟨_, _, _⟩) hi le_rfl rfl ((exec_mul k s).trans (State.runS_next hi.isCore))
      (congrArg (fun o => ([o.r], s.u.setFlags k o)) (aluMul_word a b))
  case adds => exact law_of_alu2 (code := 0x18) hi rfl (by rw [← aluSat_word, ← sgn_toNat, ← sgn_toNat]; rfl)
  case subs => exact law_of_alu2 (code := 0x19) hi rfl (by rw [← aluSat_word, ← sgn_toNat, ← sgn_toNat]; rfl)

/-- Settles O7: each operation's result and flags on numbers are those of the words, and the instruction leaves them. -/
theorem arithmetic : Obligations.Arithmetic :=
  fun _ _ _ _ _ => ⟨arithLaws1_hold, arithLaws2_hold⟩

/-- Settles O8: the model's shifts and rotates of numbers are those of the words. -/
theorem shifts : Obligations.Shifts := by
  intro s k a n rest hi
  simp only [shiftLaws, List.forall_mem_cons, List.not_mem_nil, false_imp_iff, implies_true, and_true]
  refine ⟨?shl, ?shr, ?sar, ?rol, ?ror⟩
  case shl => exact law_of_alu2 (code := 0x24) hi rfl (congrArg plain (shl_word a n))
  case shr => exact law_of_alu2 (code := 0x25) hi rfl (congrArg plain (shr_word a n))
  case sar => exact law_of_alu2 (code := 0x26) hi rfl (congrArg plain (sar_word a n))
  case rol => exact law_of_alu2 (code := 0x27) hi rfl (congrArg plain (rol_word a n.toNat))
  case ror => exact law_of_alu2 (code := 0x28) hi rfl (congrArg plain (ror_word a n))

/-- Settles O9: with a divisor that is not zero a division is an operation on the operand stack, and the model's truncated
quotient and remainder are those of the words. -/
theorem division : Obligations.Division := by
  intro s k a b rest hb hi
  have hS := divS_word a hb
  have hU := divU_word a hb
  simp only [divLaws, List.forall_mem_cons, List.not_mem_nil, false_imp_iff, implies_true, and_true]
  refine ⟨?div, ?divu, ?rem, ?remu, ?divmod, ?divmodu⟩
  case div => exact law_of_div (signed := true) (pushes := 1) (res := fun o => [o.q]) hi (by decide) rfl hS
  case divu => exact law_of_div (signed := false) (pushes := 1) (res := fun o => [o.q]) hi (by decide) rfl hU
  case rem => exact law_of_div (signed := true) (pushes := 1) (res := fun o => [o.r]) hi (by decide) rfl hS
  case remu => exact law_of_div (signed := false) (pushes := 1) (res := fun o => [o.r]) hi (by decide) rfl hU
  case divmod => exact law_of_div (signed := true) (pushes := 2) (res := fun o => [o.q, o.r]) hi le_rfl rfl hS
  case divmodu => exact law_of_div (signed := false) (pushes := 2) (res := fun o => [o.q, o.r]) hi le_rfl rfl hU

end Sys2Proof.Machine
end
